-- ==== Sys2Proof/Word.lean ====
section
/-! DEFINITION. The plain number types of the part and the saturating count (00_scope.md sections 2.1 to 2.6). -/

namespace Sys2Proof

/-- One byte of a CAN frame or one character of a receiver line. -/
abbrev Byte := BitVec 8

/-- A sensor's identity, a 32-bit field of the telegram (R7, 12.1). -/
abbrev SensorId := BitVec 32

/-- A wheel position, 0 to 31 (00_scope.md section 2.5). -/
abbrev Pos := Fin 32

/-- A global axle number, 0 to 7 (section 2.5). -/
abbrev AxleNo := Fin 8

/-- A report channel's number, 0 to 3 (R148). -/
abbrev ChanNo := Fin 4

/-- A set: 0 is TRUCK, 1 to 3 are trailer sets (R19). -/
abbrev SetNo := Fin 4

/-- An index into the sensor table, 0 to 47 (R19). -/
abbrev EntryNo := Fin 48

/-- Counting once more in a count that saturates at `cap` (section 2.6). -/
def satSucc (cap n : Nat) : Nat := min (n + 1) cap

/-- A time in ms turned into whole seconds by truncation (section 2.4). -/
def wholeSeconds (ms : Nat) : Nat := ms / 1000

/-- The entry of an indexed table (section 2.9: a table's entries do not move). -/
def pick {α : Type} {n : Nat} (v : Vector α n) (i : Fin n) : α := v[i.val]

/-- The table with one entry replaced. -/
def put {α : Type} {n : Nat} (v : Vector α n) (i : Fin n) (a : α) : Vector α n := v.set i.val a

end Sys2Proof
end

