-- ==== Sys2Proof/Syntax.lean ====
section
/-! DEFINITION. The commands of the part: one constructor for each row of spec/opcode_table.json, with its operands.
A command that a CAN frame carries has the frame's data length and the fields of its layout, each at the width the
layout gives it (12_frame_formats.md), whatever their values: the range checks belong to the meanings (R163). -/

namespace Sys2Proof

/-- The two receiver ports (R1). -/
inductive Port where
  | front | rear
  deriving DecidableEq, Repr

/-- The two halves of the vehicle (section 2.5). -/
inductive Half where
  | truck | trailer
  deriving DecidableEq, Repr

/-- R156 gives two orders for a slot that frees while another frame is placed: the grant first, which is also what
happens when nothing else is placed, or the other placement first, which takes the slot. -/
inductive SlotRace where
  | grantFirst | placementFirst
  deriving DecidableEq, Repr

/-- What the read-back at a store's completion shows; the nonvolatile memory sets it, not the part (R172). -/
inductive ReadBack where
  | matches | differs
  deriving DecidableEq, Repr

/-- A CAN frame as the link receives it (R175). -/
structure CanFrame where
  extended : Bool
  remote : Bool
  ident : BitVec 29
  data : List Byte
  deriving DecidableEq, Repr

/-- The commands. `len` is the CAN frame's data length in bytes. -/
inductive Instr where
  /-- CHARACTER_TAKEN (R2, R3). -/
  | characterTaken (port : Port) (char : Byte)
  /-- FRAMING_FAULT (R4). -/
  | framingFault (port : Port)
  /-- IDLE_TIMER_EXPIRY (R5). -/
  | idleTimerExpiry (port : Port)
  /-- DUPLICATE_WINDOW_EXPIRY (R13), at the head of the duplicate list. -/
  | duplicateWindowExpiry
  /-- STRANGER_AGE_OUT (R37), at the head of the stranger list. -/
  | strangerAgeOut
  /-- VEHICLE_CONDITION (R39): a data frame on 0x0A0. -/
  | vehicleCondition (len : Nat) (load motion : Byte) (ambient : BitVec 16) (lift set : Byte)
  /-- STALENESS_EXPIRY (R44). -/
  | stalenessExpiry
  /-- SILENCE_EXPIRY (R64). -/
  | silenceExpiry (p : Pos)
  /-- INTERVAL_EXPIRY (R93). -/
  | intervalExpiry (p : Pos)
  /-- REPEAT_TIMER_EXPIRY (R125). -/
  | repeatTimerExpiry (p : Pos)
  /-- ACK (R128): a data frame on the ACK identifier. -/
  | ack (len : Nat) (position item : Byte)
  /-- WALK_WINDOW_EXPIRY (R135). -/
  | walkWindowExpiry (half : Half)
  /-- PERIOD_TIMER_EXPIRY (R152). -/
  | periodTimerExpiry (ch : ChanNo)
  /-- CHANNEL_GRANT (R156). -/
  | channelGrant
  /-- QUEUE_TAKES_HEAD (R159). -/
  | queueTakesHead (race : SlotRace)
  /-- FRAME_SENT (R159). -/
  | frameSent (race : SlotRace)
  /-- BUS_OFF (R160). -/
  | busOff
  /-- BUS_OFF_RECOVERY (R160). -/
  | busOffRecovery (race : SlotRace)
  /-- NODE_NUMBER_IN_FORCE (R167). -/
  | nodeNumberInForce
  /-- RESTART_START_UP (R170). -/
  | restartStartUp
  /-- STORE_COMPLETION (R172). -/
  | storeCompletion (result : ReadBack)
  /-- POWER_ON (R174). -/
  | powerOn
  /-- DISCARDED_FRAME (R175, R162). -/
  | discardedFrame (f : CanFrame)
  /-- UNKNOWN_REQUEST (R163): a request whose kind is not of section 10.2, or a WRITE SETTING whose code names no setting. -/
  | unknownRequest (kind : Byte)
  /-- WRITE_SENSOR_ENTRY (R27). -/
  | writeSensorEntry (len : Nat) (index : Byte) (sid : SensorId) (pos : BitVec 6) (set : BitVec 2) (offset : Byte)
  /-- CLEAR_SENSOR_ENTRY (R29). -/
  | clearSensorEntry (len : Nat) (index : Byte)
  /-- READ_SENSOR_ENTRY (R29). -/
  | readSensorEntry (len : Nat) (index : Byte)
  /-- WRITE_POSITION (R53). -/
  | writePosition (len : Nat) (position : Byte) (fitted : Bool) (cls : BitVec 3)
  /-- WRITE_AXLE (R54). -/
  | writeAxle (len : Nat) (axle : Byte) (near : BitVec 2) (margin : BitVec 6) (liftable : Bool)
  /-- READ_POSITION (R68). -/
  | readPosition (len : Nat) (position : Byte)
  /-- CLEAR_POSITION (R67). -/
  | clearPosition (len : Nat) (position : Byte)
  /-- READ_HISTORY (R101). -/
  | readHistory (len : Nat) (position : Byte) (start count : BitVec 4)
  /-- WRITE_PROFILE_A (R105). -/
  | writeProfileA (len : Nat) (load : BitVec 2) (cls : BitVec 3) (nominal : BitVec 12) (low crit high : Byte)
  /-- WRITE_PROFILE_B (R106). -/
  | writeProfileB (len : Nat) (load : BitVec 2) (cls : BitVec 3) (hot twin leak : Byte)
  /-- OPEN_WALK (R131, R132). -/
  | openWalk (len : Nat) (start : Byte) (half order : Bool) (lengthCode : BitVec 3) (target : BitVec 2) (window : BitVec 10)
  /-- END_WALK (R143). -/
  | endWalk (len : Nat) (half : Byte)
  /-- WALK_STATUS (R146). -/
  | walkStatus (len : Nat) (half : Byte)
  /-- CONFIGURE_CHANNEL_A (R148). -/
  | configureChannelA (len : Nat) (channel : Byte) (trigger mode step : BitVec 2) (start : BitVec 5) (blockLen : BitVec 6)
  /-- CONFIGURE_CHANNEL_B (R148). -/
  | configureChannelB (len : Nat) (channel : Byte) (count : BitVec 16) (period : Byte) (skipVacant cyclic powerUp : Bool)
  /-- START_CHANNEL (R150). -/
  | startChannel (len : Nat) (channel : Byte)
  /-- STOP_CHANNEL (R151). -/
  | stopChannel (len : Nat) (channel : Byte)
  /-- TRIGGER_CHANNEL (R152). -/
  | triggerChannel (len : Nat) (channel : Byte)
  /-- CHANNEL_STATUS (R161). -/
  | channelStatus (len : Nat) (channel : Byte)
  /-- WRITE_SETTING_TREF (R71, R166): setting code 0. -/
  | writeSettingTref (len : Nat) (value : BitVec 16)
  /-- WRITE_SETTING_SILENCE_TIMEOUT (R65): setting code 1. -/
  | writeSettingSilenceTimeout (len : Nat) (value : BitVec 16)
  /-- WRITE_SETTING_REPEAT_PERIOD (R124): setting code 2. -/
  | writeSettingRepeatPeriod (len : Nat) (value : BitVec 16)
  /-- WRITE_SETTING_INTERVAL_LENGTH (R90): setting code 3. -/
  | writeSettingIntervalLength (len : Nat) (value : BitVec 16)
  /-- WRITE_SETTING_REPORT_LIFETIME (R159): setting code 4. -/
  | writeSettingReportLifetime (len : Nat) (value : BitVec 16)
  /-- WRITE_SETTING_WALK_WINDOW (R130): setting code 5. -/
  | writeSettingWalkWindow (len : Nat) (value : BitVec 16)
  /-- WRITE_SETTING_NODE_NUMBER (R167): setting code 6. -/
  | writeSettingNodeNumber (len : Nat) (value : BitVec 16)
  /-- WRITE_SETTING_PROTECT_LEVEL (R165): setting code 7. -/
  | writeSettingProtectLevel (len : Nat) (value : BitVec 16)
  /-- READ_SETTINGS (R166). -/
  | readSettings (len : Nat)
  /-- CLEAR_DIAGNOSTICS (R168). -/
  | clearDiagnostics (len : Nat)
  /-- READ_COUNTERS (R168). -/
  | readCounters (len : Nat)
  /-- STATUS (R169). -/
  | status (len : Nat)
  /-- STORE (R172). -/
  | store (len : Nat)
  /-- RESTART (R170). -/
  | restart (len : Nat)
  deriving DecidableEq, Repr

end Sys2Proof
end

