-- ==== Sys2Proof/Decode.lean ====
section
/-! DEFINITION. From bits to commands. The rows of spec/opcode_table.json give no bits, so no table word spells a
command. What the spec does give is the layout of every CAN frame the part takes: the reception of a frame (R175) is
read here from the tables of chapter 12, and the encoder after it is written from the same tables. -/

namespace Sys2Proof

/-- The command a table word spells: none, since no row of the table gives bits. -/
def decodeTableWord (_ _ : Nat) : Option Instr := none

/-! ## Frames as bits (section 2.7) -/

/-- The data bytes of a frame as 64 bits, byte 0 least significant; a byte the frame does not have reads as 0. -/
def frameBits : List Byte → Nat → BitVec 64
  | _, 0 => 0
  | [], _ => 0
  | b :: rest, n + 1 => b.setWidth 64 ||| (frameBits rest n <<< 8)

/-- The first n data bytes of 64 bits, byte 0 least significant. -/
def frameBytes : Nat → BitVec 64 → List Byte
  | 0, _ => []
  | n + 1, d => d.setWidth 8 :: frameBytes n (d >>> 8)

/-- The field of a width at a place. -/
def field (d : BitVec 64) (start width : Nat) : BitVec width := d.extractLsb' start width

/-- The one-bit field at a place. -/
def flag (d : BitVec 64) (start : Nat) : Bool := d.getLsbD start

/-! ## Identifiers of the frames taken (12.2) -/

/-- The identifier of VEHICLE CONDITION. -/
def vehicleIdent : Nat := 0x0A0
/-- The identifier of an ACK under a node number. -/
def ackIdent (node : Nat) : Nat := 0x3B0 + node
/-- The identifier of a MANAGEMENT REQUEST under a node number. -/
def requestIdent (node : Nat) : Nat := 0x5C0 + node

/-! ## Decoding (12.3, 12.5.1) -/

/-- A WRITE SETTING by its setting code, 0 to 7 in the order of R166. -/
def decodeSetting (len : Nat) (code : Byte) (value : BitVec 16) : Instr :=
  match code.toNat with
  | 0 => .writeSettingTref len value
  | 1 => .writeSettingSilenceTimeout len value
  | 2 => .writeSettingRepeatPeriod len value
  | 3 => .writeSettingIntervalLength len value
  | 4 => .writeSettingReportLifetime len value
  | 5 => .writeSettingWalkWindow len value
  | 6 => .writeSettingNodeNumber len value
  | 7 => .writeSettingProtectLevel len value
  | _ => .unknownRequest 0x14

/-- A request by its kind, its fields packed from byte 1 (12.5.1). -/
def decodeRequest (len : Nat) (d : BitVec 64) : Instr :=
  match (field d 0 8).toNat with
  | 0x01 => .writeSensorEntry len (field d 8 8) (field d 16 32) (field d 48 6) (field d 54 2) (field d 56 8)
  | 0x02 => .clearSensorEntry len (field d 8 8)
  | 0x03 => .readSensorEntry len (field d 8 8)
  | 0x04 => .writePosition len (field d 8 8) (flag d 16) (field d 17 3)
  | 0x05 => .writeAxle len (field d 8 8) (field d 16 2) (field d 18 6) (flag d 24)
  | 0x06 => .readPosition len (field d 8 8)
  | 0x07 => .clearPosition len (field d 8 8)
  | 0x08 => .readHistory len (field d 8 8) (field d 16 4) (field d 20 4)
  | 0x09 => .writeProfileA len (field d 8 2) (field d 10 3) (field d 13 12) (field d 25 8) (field d 33 8) (field d 41 8)
  | 0x0A => .writeProfileB len (field d 8 2) (field d 10 3) (field d 13 8) (field d 21 8) (field d 29 8)
  | 0x0B => .openWalk len (field d 8 8) (flag d 16) (flag d 17) (field d 18 3) (field d 21 2) (field d 23 10)
  | 0x0C => .endWalk len (field d 8 8)
  | 0x0D => .walkStatus len (field d 8 8)
  | 0x0E => .configureChannelA len (field d 8 8) (field d 16 2) (field d 18 2) (field d 20 2) (field d 22 5) (field d 27 6)
  | 0x0F => .configureChannelB len (field d 8 8) (field d 16 16) (field d 32 8) (flag d 40) (flag d 41) (flag d 42)
  | 0x10 => .startChannel len (field d 8 8)
  | 0x11 => .stopChannel len (field d 8 8)
  | 0x12 => .triggerChannel len (field d 8 8)
  | 0x13 => .channelStatus len (field d 8 8)
  | 0x14 => decodeSetting len (field d 8 8) (field d 16 16)
  | 0x15 => .readSettings len
  | 0x16 => .clearDiagnostics len
  | 0x17 => .readCounters len
  | 0x18 => .status len
  | 0x19 => .store len
  | 0x1A => .restart len
  | _ => .unknownRequest (field d 0 8)

/-- The command of a CAN frame received while a node number is in force (R175, R162): a remote frame, an extended
frame, a frame on another identifier and a request with no kind are discarded. -/
def decodeCan (node : Nat) (f : CanFrame) : Instr :=
  let len := f.data.length
  let d := frameBits f.data 8
  if f.extended || f.remote then .discardedFrame f
  else if f.ident.toNat = vehicleIdent then
    .vehicleCondition len (field d 0 8) (field d 8 8) (field d 16 16) (field d 32 8) (field d 40 8)
  else if f.ident.toNat = ackIdent node then .ack len (field d 0 8) (field d 8 8)
  else if f.ident.toNat = requestIdent node ∧ len ≠ 0 then decodeRequest len d
  else .discardedFrame f

/-! ## Encoding -/

/-- The units a CAN frame can be addressed to (R175). -/
inductive CanTarget where
  | vehicle | ack | request
  deriving DecidableEq, Repr

/-- The identifier of a target (12.2). -/
def targetIdent (node : Nat) : CanTarget → Nat
  | .vehicle => vehicleIdent
  | .ack => ackIdent node
  | .request => requestIdent node

/-- A command as a CAN frame carries it: where it is addressed, its data length and its data bits. -/
structure CanImage where
  target : CanTarget
  len : Nat
  bits : BitVec 64
  deriving DecidableEq, Repr

/-- A request of a kind with its argument bits, packed from byte 1. -/
def requestImage {w : Nat} (kind : Byte) (len : Nat) (args : BitVec w) : CanImage :=
  { target := .request, len := len, bits := (args ++ kind).setWidth 64 }

/-- A WRITE SETTING of a code. -/
def settingImage (code : Byte) (len : Nat) (value : BitVec 16) : CanImage := requestImage 0x14 len (value ++ code)

/-- The frame image of a command that a CAN frame carries, by the tables of 12.3 and 12.5.1; none for an event of the
part's own, of a receiver line or of the link, and for a discarded frame. -/
def canImage : Instr → Option CanImage
  | .vehicleCondition len load motion ambient lift g =>
    some { target := .vehicle, len := len, bits := (g ++ lift ++ ambient ++ motion ++ load).setWidth 64 }
  | .ack len position item => some { target := .ack, len := len, bits := (item ++ position).setWidth 64 }
  | .unknownRequest kind => if kind = 0x14 then some (requestImage 0x14 2 8#8) else some (requestImage kind 1 0#0)
  | .writeSensorEntry len index sid pos g offset => some (requestImage 0x01 len (offset ++ g ++ pos ++ sid ++ index))
  | .clearSensorEntry len index => some (requestImage 0x02 len index)
  | .readSensorEntry len index => some (requestImage 0x03 len index)
  | .writePosition len position fitted cls => some (requestImage 0x04 len (cls ++ BitVec.ofBool fitted ++ position))
  | .writeAxle len axle near margin liftable =>
    some (requestImage 0x05 len (BitVec.ofBool liftable ++ margin ++ near ++ axle))
  | .readPosition len position => some (requestImage 0x06 len position)
  | .clearPosition len position => some (requestImage 0x07 len position)
  | .readHistory len position start count => some (requestImage 0x08 len (count ++ start ++ position))
  | .writeProfileA len load cls nominal low crit high =>
    some (requestImage 0x09 len (high ++ crit ++ low ++ nominal ++ cls ++ load))
  | .writeProfileB len load cls hot twin leak => some (requestImage 0x0A len (leak ++ twin ++ hot ++ cls ++ load))
  | .openWalk len start h order lengthCode target window =>
    some (requestImage 0x0B len
      (window ++ target ++ lengthCode ++ BitVec.ofBool order ++ BitVec.ofBool h ++ start))
  | .endWalk len h => some (requestImage 0x0C len h)
  | .walkStatus len h => some (requestImage 0x0D len h)
  | .configureChannelA len channel trigger mode step start blockLen =>
    some (requestImage 0x0E len (blockLen ++ start ++ step ++ mode ++ trigger ++ channel))
  | .configureChannelB len channel count period skipVacant cyclic powerUp =>
    some (requestImage 0x0F len
      (BitVec.ofBool powerUp ++ BitVec.ofBool cyclic ++ BitVec.ofBool skipVacant ++ period ++ count ++ channel))
  | .startChannel len channel => some (requestImage 0x10 len channel)
  | .stopChannel len channel => some (requestImage 0x11 len channel)
  | .triggerChannel len channel => some (requestImage 0x12 len channel)
  | .channelStatus len channel => some (requestImage 0x13 len channel)
  | .writeSettingTref len value => some (settingImage 0 len value)
  | .writeSettingSilenceTimeout len value => some (settingImage 1 len value)
  | .writeSettingRepeatPeriod len value => some (settingImage 2 len value)
  | .writeSettingIntervalLength len value => some (settingImage 3 len value)
  | .writeSettingReportLifetime len value => some (settingImage 4 len value)
  | .writeSettingWalkWindow len value => some (settingImage 5 len value)
  | .writeSettingNodeNumber len value => some (settingImage 6 len value)
  | .writeSettingProtectLevel len value => some (settingImage 7 len value)
  | .readSettings len => some (requestImage 0x15 len 0#0)
  | .clearDiagnostics len => some (requestImage 0x16 len 0#0)
  | .readCounters len => some (requestImage 0x17 len 0#0)
  | .status len => some (requestImage 0x18 len 0#0)
  | .store len => some (requestImage 0x19 len 0#0)
  | .restart len => some (requestImage 0x1A len 0#0)
  | .characterTaken _ _ => none
  | .framingFault _ => none
  | .idleTimerExpiry _ => none
  | .duplicateWindowExpiry => none
  | .strangerAgeOut => none
  | .stalenessExpiry => none
  | .silenceExpiry _ => none
  | .intervalExpiry _ => none
  | .repeatTimerExpiry _ => none
  | .walkWindowExpiry _ => none
  | .periodTimerExpiry _ => none
  | .channelGrant => none
  | .queueTakesHead _ => none
  | .frameSent _ => none
  | .busOff => none
  | .busOffRecovery _ => none
  | .nodeNumberInForce => none
  | .restartStartUp => none
  | .storeCompletion _ => none
  | .powerOn => none
  | .discardedFrame _ => none

/-- The CAN frame of an image under a node number. -/
def frameOf (node : Nat) (m : CanImage) : CanFrame :=
  { extended := false, remote := false, ident := BitVec.ofNat 29 (targetIdent node m.target)
    data := frameBytes m.len m.bits }

/-- The CAN frame that carries a command to a part whose node number in force is `node`, if a frame carries it. -/
def encodeCan (node : Nat) (i : Instr) : Option CanFrame := (canImage i).map (frameOf node)

end Sys2Proof
end

