-- ==== Sys2Proof/Config.lean ====
section
/-! DEFINITION. What is fixed or loaded rather than run: the fixed times and capacities of the spec, the stored
content (R171), and the two free values: the byte layout the image check is computed over, and the result of a read-back. -/

namespace Sys2Proof

/-! ## Names used by the stored content -/

/-- Load states of the vehicle (R38), in the order of their codes (12.3). -/
inductive LoadState where
  | empty | laden | tipping
  deriving DecidableEq, Repr

/-- The near receiver of an axle (R50). -/
inductive Near where
  | front | rear | either
  deriving DecidableEq, Repr

/-- What starts a report channel's work (R148, R152). -/
inductive Trigger where
  | sample | period | alert | request
  deriving DecidableEq, Repr

/-- How much work one trigger starts (R153). -/
inductive Mode where
  | single | run | block
  deriving DecidableEq, Repr

/-- How a channel's pointer moves after a frame (R154). -/
inductive PtrStep where
  | hold | up | down | upReturn
  deriving DecidableEq, Repr

/-! ## The stored content (R171) -/

/-- The eight device settings (R166): °C, s, s, min, ms, s, node number, protect level. -/
structure Settings where
  tref : Int
  silenceTimeout : Nat
  repeatPeriod : Nat
  intervalLength : Nat
  reportLifetime : Nat
  walkWindow : Nat
  node : Nat
  protect : Nat
  deriving DecidableEq, Repr

/-- A geometry record (R49). -/
structure Geometry where
  fitted : Bool
  cls : Fin 8
  deriving DecidableEq, Repr

/-- An axle record (R50); the margin is in dB. -/
structure AxleRec where
  near : Near
  margin : Nat
  liftable : Bool
  deriving DecidableEq, Repr

/-- A profile entry (R104). -/
structure Profile where
  nominal : Nat
  lowPct : Nat
  critPct : Nat
  highPct : Nat
  hotLimit : Nat
  twinLimit : Nat
  leakLimit : Nat
  deriving DecidableEq, Repr

/-- The stored fields of a sensor-table entry (R19). -/
structure Entry where
  valid : Bool
  sid : SensorId
  set : SetNo
  pos : Pos
  offset : Int
  deriving DecidableEq, Repr

/-- A report channel's configuration (R148); a block length or count of 0 stands for 32 or 65536. -/
structure ChanConfig where
  trigger : Trigger
  mode : Mode
  start : Pos
  step : PtrStep
  blockLen : Nat
  count : Nat
  period : Nat
  skipVacant : Bool
  cyclic : Bool
  powerUp : Bool
  deriving DecidableEq, Repr

/-- Everything the stored image holds (R171), as the live tables hold it. The profile of a load state and a class
stands at place 8 × (code of the load state) + class. -/
structure Content where
  settings : Settings
  geometry : Vector Geometry 32
  axles : Vector AxleRec 8
  profiles : Vector Profile 24
  sensors : Vector Entry 48
  channels : Vector ChanConfig 4
  deriving DecidableEq, Repr

/-! ## The unconfigured content (R174 step 2) -/

/-- The default settings (R166). -/
def Settings.default : Settings :=
  { tref := 20, silenceTimeout := 420, repeatPeriod := 10, intervalLength := 10, reportLifetime := 2000,
    walkWindow := 120, node := 0, protect := 0 }

/-- The contents of a FREE entry (R19). -/
def Entry.free : Entry := { valid := false, sid := 0, set := 0, pos := 0, offset := 0 }

/-- The all-zero, unconfigured profile entry (R104). -/
def Profile.zero : Profile :=
  { nominal := 0, lowPct := 0, critPct := 0, highPct := 0, hotLimit := 0, twinLimit := 0, leakLimit := 0 }

/-- A channel configuration when the image check fails (R148). -/
def ChanConfig.default : ChanConfig :=
  { trigger := .request, mode := .single, start := 0, step := .up, blockLen := 0, count := 1, period := 1,
    skipVacant := false, cyclic := false, powerUp := false }

/-- The content set when the image is invalid (R174 step 2). -/
def Content.unconfigured : Content :=
  { settings := Settings.default
    geometry := Vector.replicate 32 { fitted := false, cls := 0 }
    axles := Vector.replicate 8 { near := .either, margin := 0, liftable := false }
    profiles := Vector.replicate 24 Profile.zero
    sensors := Vector.replicate 48 Entry.free
    channels := Vector.replicate 4 ChanConfig.default }

/-! ## Fixed times and capacities -/

/-- Sync value of a receiver record (1.1). -/
def Config.syncChar : Byte := 0xE5
/-- Escape value of a receiver record (1.1). -/
def Config.escapeChar : Byte := 0xE6
/-- Idle timer of a collecting port, ms (R5). -/
def Config.idleMs : Nat := 5
/-- Window of a duplicate entry, ms (R13). -/
def Config.dupWindowMs : Nat := 2000
/-- Capacity of the duplicate list (R9). -/
def Config.dupCap : Nat := 16
/-- Late-repeat limit, ms (R23). -/
def Config.lateMs : Nat := 10000
/-- Capacity of the stranger list (R32). -/
def Config.strangerCap : Nat := 16
/-- Age at which a stranger entry leaves, ms (R37). -/
def Config.strangerAgeMs : Nat := 600000
/-- Moving count at which a stranger is reported (R35). -/
def Config.strangerMoving : Nat := 8
/-- Staleness timer, ms (R44). -/
def Config.staleMs : Nat := 5000
/-- Age limit of a held temperature, ms (R75). -/
def Config.heldMs : Nat := 600000
/-- Saturation of the counted silence, ms: 65535 s (R55, R63). -/
def Config.silenceCapMs : Nat := 65535000
/-- Capacity of a history ring (R94). -/
def Config.ringCap : Nat := 8
/-- Capacity of the transmit queue (R158). -/
def Config.queueCap : Nat := 24
/-- Longest self-timed image write, ms (R172). -/
def Config.storeMs : Nat := 600
/-- Saturation of every diagnostic count (section 2.6). -/
def Config.countCap : Nat := 65535

/-! ## Left open -/

/-- FREE VALUE (notes/assumptions/1.md). R171 gives the image a CRC-16 over the stored content and gives no byte
layout for it: which bytes the check runs over, and in which order, is left uninterpreted. -/
opaque Config.imageBytes : Content → List Byte

/-- FREE VALUE (notes/assumptions/17.md). Whether the read-back of a store that completes by itself matches its snapshot:
the nonvolatile memory sets it, not the part (R172). The argument numbers the completions. -/
opaque Config.readBack : Nat → Bool

end Sys2Proof
end

