-- ==== Sys2Proof/Machine/State.lean ====
section
/-! DEFINITION. The state of the part as plain data, block by block in the order of the chapters, and the state after
reset (power-on with no valid image). Every field is listed in INVENTORY.md with the rule that names it. -/

namespace Sys2Proof.Machine

open Sys2Proof

/-! ## Chapter 1: receiver ports and duplicate list -/

/-- Framing state of a port (R1). COLLECTING holds the logical bytes so far in order of arrival, the escape-pending
mark, and the device time at which the idle timer expires. -/
inductive Framing where
  | hunting
  | collecting (bytes : List Byte) (escape : Bool) (idleDue : Nat)
  deriving DecidableEq, Repr

/-- A receiver port (R1). -/
structure PortState where
  framing : Framing
  taken : Nat
  badCheck : Nat
  badFraming : Nat
  deriving DecidableEq, Repr

/-- Telegram kinds (R8), in the order of their codes (12.1). -/
inductive TelKind where
  | periodic | rapid | motion | learn
  deriving DecidableEq, Repr

/-- The part of a telegram that a duplicate entry keeps (R9): codes as the sensor sent them. -/
structure Telegram where
  kind : TelKind
  pressure : Nat
  fault : Bool
  battery : Bool
  temp : Nat
  deriving DecidableEq, Repr

/-- An entry of the duplicate list (R9). -/
structure DupEntry where
  sid : SensorId
  seq : Fin 16
  firstArrival : Nat
  telegram : Telegram
  front : Option Nat
  rear : Option Nat
  flagged : Bool
  deriving DecidableEq, Repr

/-- The duplicate list, oldest entry first, and its two counts (R9, R15). -/
structure DupList where
  entries : List DupEntry
  merges : Nat
  evictions : Nat
  deriving DecidableEq, Repr

/-! ## Chapter 2: sensor table runtime and stranger list -/

/-- Last accepted sequence and time of a sensor-table entry (R19), present together or absent together. -/
structure Accepted where
  seq : Fin 16
  time : Nat
  deriving DecidableEq, Repr

/-- The runtime side of the sensor table (R19) and its counts (R26). The stored side stands in the content. -/
structure TableState where
  accepted : Vector (Option Accepted) 48
  inactiveSet : Nat
  lateRepeat : Nat
  unplaced : Nat
  deriving DecidableEq, Repr

/-- An entry of the stranger list (R32). -/
structure Stranger where
  sid : SensorId
  first : Nat
  last : Nat
  heard : Nat
  moving : Nat
  front : Option Nat
  rear : Option Nat
  reported : Bool
  deriving DecidableEq, Repr

/-- The stranger list, least recently heard first, and the replacement count (R32, R34). -/
structure StrangerList where
  entries : List Stranger
  replaced : Nat
  deriving DecidableEq, Repr

/-! ## Chapter 3: vehicle state -/

/-- Motion in force (R38). -/
inductive Motion where
  | stationary | moving
  deriving DecidableEq, Repr

/-- The vehicle state unit (R38). Bit a of `lift` is global axle a. `staleDue` is the expiry of the staleness timer,
absent while the state is stale and the timer does not run (R44). -/
structure Vehicle where
  load : LoadState
  motion : Motion
  ambient : Nat
  lift : BitVec 8
  set : SetNo
  stale : Bool
  staleDue : Option Nat
  deriving DecidableEq, Repr

/-! ## Chapters 4 to 7: the position record with its history and its condition record -/

/-- Position states (section 4.4), in the order of their codes (12.4). -/
inductive PosState where
  | vacant | unbound | waiting | live | silent
  deriving DecidableEq, Repr

/-- The held temperature of a position (R75). -/
structure Held where
  code : Nat
  time : Nat
  deriving DecidableEq, Repr

/-- The history record of a position (R89). An interval runs exactly while `expiry` is present. A ring record is an
average, or none for EMPTY; the oldest stands first. -/
structure History where
  expiry : Option Nat
  sum : Nat
  count : Nat
  ring : List (Option Nat)
  leak : Option Nat
  deriving DecidableEq, Repr

/-- Pressure levels (R110), in the order of their codes (12.4). -/
inductive Level where
  | normal | low | critical | high
  deriving DecidableEq, Repr

/-- A mark for each of the six conditions (R110). -/
structure CondSet where
  hot : Bool
  twin : Bool
  leak : Bool
  silent : Bool
  fault : Bool
  battery : Bool
  deriving DecidableEq, Repr

/-- The threshold cache of a position (R108); `checks` says whether the pressure checks are on, `band` is H. -/
structure Cache where
  checks : Bool
  low : Nat
  critical : Nat
  high : Nat
  band : Nat
  hotLimit : Nat
  twinLimit : Nat
  deriving DecidableEq, Repr

/-- The condition record of a position (R110). `repeatDue` is the due time of the repeat timer, absent when stopped. -/
structure Cond where
  level : Level
  pendingLevel : Option Level
  active : CondSet
  ackLevel : Bool
  acked : CondSet
  batteryClear : Nat
  lastAlert : Option Nat
  repeatDue : Option Nat
  owed : Bool
  deriving DecidableEq, Repr

/-- The runtime of a position (R55) with the records the history unit and the condition unit keep for it. `temp` is
the code of the last reading, `acc` the filter accumulator S, `filtered` the filtered cold gauge F, `silence` the
counted silence in ms. -/
structure PosRec where
  state : PosState
  bound : Option EntryNo
  cold : Option Nat
  hot : Option Nat
  temp : Option Nat
  held : Option Held
  acc : Option Nat
  filtered : Option Nat
  lastTime : Option Nat
  lastKind : Option TelKind
  battery : Bool
  fault : Bool
  uncompensated : Bool
  saturated : Bool
  readings : Nat
  silence : Nat
  history : History
  cache : Cache
  cond : Cond
  deriving DecidableEq, Repr

/-! ## Chapter 8: walk slots -/

/-- Visiting orders (R133). -/
inductive Order where
  | sequential | interleaved
  deriving DecidableEq, Repr

/-- How a walk ended (R145), in the order of the codes (12.5). -/
inductive WalkResult where
  | complete | timeout | stopped | setChanged | tableFull
  deriving DecidableEq, Repr

/-- The fields of an open walk (R130). `start` is the start offset s, `window` is in s, `expiry` a device time. -/
structure OpenWalk where
  target : SetNo
  blockStart : Nat
  length : Nat
  order : Order
  start : Nat
  step : Nat
  current : Pos
  window : Nat
  expiry : Nat
  deriving DecidableEq, Repr

/-- A walk slot (R130), OPEN exactly when `walk` is present. -/
structure WalkSlot where
  walk : Option OpenWalk
  lastBound : Option (SensorId × Fin 16)
  bound : Nat
  implausible : Nat
  ambiguous : Nat
  result : Option WalkResult
  deriving DecidableEq, Repr

/-! ## Chapter 9: report channels and transmit queue -/

/-- Channel states (R149), in the order of their codes (12.5). -/
inductive ChanState where
  | idle | armed | running | waiting | ended
  deriving DecidableEq, Repr

/-- The runtime of a channel (R149). `due` is the due time of the period timer, absent when stopped. -/
structure ChanRun where
  state : ChanState
  pointer : Pos
  remaining : Nat
  blockRem : Nat
  blockStart : Pos
  job : Bool
  pendingTrigger : Bool
  overrun : Nat
  due : Option Nat
  deriving DecidableEq, Repr

/-- Status codes of a reply (R176), in the order of their codes; `locked` is PROTECTED. -/
inductive Status where
  | done | badArgument | locked | busy | conflict | walkOpen | noWalk | channelActive | moving | unknown
  deriving DecidableEq, Repr

/-- Reasons of an alert frame (R123), in the order of their codes (12.4). -/
inductive Reason where
  | raised | cleared | reset | repeated
  deriving DecidableEq, Repr

/-- What a wheel frame shows of its position (R123, R157). -/
structure WheelView where
  position : Pos
  level : Level
  active : CondSet
  state : PosState
  uncompensated : Bool
  saturated : Bool
  ackedAny : Bool
  filtered : Option Nat
  hot : Option Nat
  temp : Option Nat
  age : Option Nat
  deriving DecidableEq, Repr

/-- One field of a frame layout: its value and its width in bits. -/
structure Field where
  value : Nat
  width : Nat
  deriving DecidableEq, Repr

/-- The content of a queued frame: an ALERT wheel frame, a REPORT wheel frame, an END frame, a SERVICE frame of
length 2, or a SERVICE frame of length 8 with the fields that follow its kind (R157, R176). -/
inductive Body where
  | alert (view : WheelView) (reason : Reason)
  | report (view : WheelView) (channel : ChanNo)
  | endFrame (channel : ChanNo)
  | reply (kind : Byte) (status : Status)
  | long (kind : Nat) (fields : List Field)
  deriving DecidableEq, Repr

/-- Frame classes (R158). -/
inductive FrameClass where
  | alert | service | report
  deriving DecidableEq, Repr

/-- What waits for a queued reply to be sent: a pending node number (R167) or a pending restart (R170). -/
inductive Await where
  | node | restart
  deriving DecidableEq, Repr

/-- A frame of the transmit queue (R158). `offered` is the offered mark, and holds the identifier under which the
link was offered the frame (R167). -/
structure Frame where
  cls : FrameClass
  entry : Nat
  body : Body
  offered : Option (BitVec 11)
  awaited : Option Await
  deriving DecidableEq, Repr

/-- The transmit queue, its four counts and the link's state (R158, R160). -/
structure TxQueue where
  frames : List Frame
  reportEvictions : Nat
  staleDiscards : Nat
  refusedAlerts : Nat
  lostService : Nat
  busOff : Bool
  deriving DecidableEq, Repr

/-! ## Chapters 10 and 11: management unit and image store -/

/-- What the management unit holds besides the settings (R85, R167, R170). -/
structure Mgmt where
  summary : Bool
  nodeInForce : Nat
  nodePending : Option Nat
  restartPending : Bool
  deriving DecidableEq, Repr

/-- The nonvolatile image: its content, the check it holds, and the mark STORE sets before it writes (R171, R172). -/
structure Image where
  content : Content
  check : BitVec 16
  markedInvalid : Bool
  deriving DecidableEq, Repr

/-- A store in progress: the snapshot and the device time by which the write completes (R172). -/
structure StoreJob where
  snapshot : Content
  latest : Nat
  deriving DecidableEq, Repr

/-- The image store (R171, R172). `lastOk` is the result of the last store completed since start-up, absent for none.
`readBacks` is the model's own and not the part's: it numbers the completions, for the free value that a read-back is
(notes/assumptions/17.md). -/
structure ImageStore where
  image : Image
  job : Option StoreJob
  lastOk : Option Bool
  changed : Bool
  configured : Bool
  readBacks : Nat
  deriving DecidableEq, Repr

/-! ## The whole -/

/-- The state of the part. `content` is the live stored content (R171); `time` is device time in ms (section 2.4);
`pending` is the model's queue of waiting commands, first in, first out. -/
structure State where
  time : Nat
  content : Content
  frontPort : PortState
  rearPort : PortState
  dup : DupList
  table : TableState
  strangers : StrangerList
  vehicle : Vehicle
  pos : Vector PosRec 32
  truckWalk : WalkSlot
  trailerWalk : WalkSlot
  chan : Vector ChanRun 4
  tx : TxQueue
  mgmt : Mgmt
  store : ImageStore
  pending : List Instr
  deriving DecidableEq, Repr

/-- Faults of the machine. The spec names no event that stops the part, so there is none. -/
inductive Fault where
  deriving DecidableEq, Repr

/-- Refusals of the model. -/
inductive Refusal where
  /-- Raised by `exec` for a command that has no meaning yet; safe: the run stops. No arm raises it. -/
  | notModelled (mnemonic : String)
  deriving DecidableEq, Repr

/-! ## The state after reset -/

/-- A port after start-up (R1). -/
def PortState.reset : PortState := { framing := .hunting, taken := 0, badCheck := 0, badFraming := 0 }

/-- The vehicle state after start-up (R38). -/
def Vehicle.reset : Vehicle :=
  { load := .laden, motion := .moving, ambient := 203, lift := 0, set := 0, stale := false
    staleDue := some Config.staleMs }

/-- No condition marked. -/
def CondSet.none : CondSet :=
  { hot := false, twin := false, leak := false, silent := false, fault := false, battery := false }

/-- The condition record after a runtime clear (R110). -/
def Cond.clear : Cond :=
  { level := .normal, pendingLevel := Option.none, active := CondSet.none, ackLevel := false, acked := CondSet.none
    batteryClear := 0, lastAlert := Option.none, repeatDue := Option.none, owed := false }

/-- The history record after a runtime clear (R89, R96). -/
def History.empty : History := { expiry := none, sum := 0, count := 0, ring := [], leak := none }

/-- The threshold cache derived from unconfigured profiles (R108). -/
def Cache.unconfigured : Cache :=
  { checks := false, low := 0, critical := 0, high := 0, band := 2, hotLimit := 0, twinLimit := 0 }

/-- A VACANT position with a clear runtime and an unconfigured cache (R56, R57). -/
def PosRec.vacant : PosRec :=
  { state := .vacant, bound := none, cold := none, hot := none, temp := none, held := none, acc := none
    filtered := none, lastTime := none, lastKind := none, battery := false, fault := false, uncompensated := false
    saturated := false, readings := 0, silence := 0, history := History.empty, cache := Cache.unconfigured
    cond := Cond.clear }

/-- A walk slot after start-up (R130). -/
def WalkSlot.closed : WalkSlot :=
  { walk := none, lastBound := none, bound := 0, implausible := 0, ambiguous := 0, result := none }

/-- A channel made IDLE at start-up (R149). -/
def ChanRun.idle : ChanRun :=
  { state := .idle, pointer := 0, remaining := 0, blockRem := 1, blockStart := 0, job := false
    pendingTrigger := false, overrun := 0, due := none }

/-- The transmit queue emptied at start-up, the link not bus-off (R158; notes/assumptions/3.md for the link). -/
def TxQueue.empty : TxQueue :=
  { frames := [], reportEvictions := 0, staleDiscards := 0, refusedAlerts := 0, lostService := 0, busOff := false }

/-- The image of a part that has never stored: marked invalid (notes/assumptions/2.md). -/
def Image.blank : Image := { content := Content.unconfigured, check := 0, markedInvalid := true }

/-- The STARTUP notice, kind 0x1B, its one field configured or unconfigured (R174 step 5, 12.5.3). -/
def startupFrame (configured : Bool) : Frame :=
  { cls := .service, entry := 0, body := .long 0x1B [{ value := configured.toNat, width := 1 }], offered := none
    awaited := none }

/-- The machine right after reset: start-up (R174) on a part whose image is invalid, its STARTUP notice queued. -/
def State.reset : State :=
  { time := 0
    content := Content.unconfigured
    frontPort := PortState.reset
    rearPort := PortState.reset
    dup := { entries := [], merges := 0, evictions := 0 }
    table := { accepted := Vector.replicate 48 none, inactiveSet := 0, lateRepeat := 0, unplaced := 0 }
    strangers := { entries := [], replaced := 0 }
    vehicle := Vehicle.reset
    pos := Vector.replicate 32 PosRec.vacant
    truckWalk := WalkSlot.closed
    trailerWalk := WalkSlot.closed
    chan := Vector.replicate 4 ChanRun.idle
    tx := { TxQueue.empty with frames := [startupFrame false] }
    mgmt := { summary := false, nodeInForce := 0, nodePending := none, restartPending := false }
    store := { image := Image.blank, job := none, lastOk := none, changed := false, configured := false, readBacks := 0 }
    pending := [] }

end Sys2Proof.Machine
end

