-- ==== Sys2Proof/Machine/Ops.lean ====
section
/-! DEFINITION. The named operations on the state that the blocks share: table access, positions and their geometry,
the sets, the counts, the check sequences, and the transmit queue's placing of a frame (R158). -/

namespace Sys2Proof.Machine

open Sys2Proof

/-- What executing a command answers. -/
abbrev Result := Host.Outcome State Fault Refusal

/-! ## Table access -/

/-- The position record of p. -/
def posRec (s : State) (p : Pos) : PosRec := pick s.pos p

/-- The position record of p changed. -/
def modPos (p : Pos) (f : PosRec → PosRec) (s : State) : State := { s with pos := put s.pos p (f (posRec s p)) }

/-- The condition record of p changed. -/
def modCond (p : Pos) (f : Cond → Cond) (s : State) : State := modPos p (fun r => { r with cond := f r.cond }) s

/-- The geometry record of p (R49). -/
def geometry (s : State) (p : Pos) : Geometry := pick s.content.geometry p

/-- The stored fields of sensor-table entry e (R19). -/
def entryAt (s : State) (e : EntryNo) : Entry := pick s.content.sensors e

/-- The configuration of channel c (R148). -/
def chanConfig (s : State) (c : ChanNo) : ChanConfig := pick s.content.channels c

/-- The runtime of channel c (R149). -/
def chanRun (s : State) (c : ChanNo) : ChanRun := pick s.chan c

/-- The runtime of channel c changed. -/
def modChan (c : ChanNo) (f : ChanRun → ChanRun) (s : State) : State := { s with chan := put s.chan c (f (chanRun s c)) }

/-- The walk slot of a half (R130). -/
def walkSlot (s : State) : Half → WalkSlot
  | .truck => s.truckWalk
  | .trailer => s.trailerWalk

/-- The walk slot of a half changed. -/
def modWalk (h : Half) (f : WalkSlot → WalkSlot) (s : State) : State :=
  match h with
  | .truck => { s with truckWalk := f s.truckWalk }
  | .trailer => { s with trailerWalk := f s.trailerWalk }

/-- The state of a receiver port (R1). -/
def portState (s : State) : Port → PortState
  | .front => s.frontPort
  | .rear => s.rearPort

/-- The state of a receiver port changed. -/
def modPort (port : Port) (f : PortState → PortState) (s : State) : State :=
  match port with
  | .front => { s with frontPort := f s.frontPort }
  | .rear => { s with rearPort := f s.rearPort }

/-! ## Positions, axles and partners (section 2.5, 4.1) -/

/-- The global axle of a position. -/
def axleOf (p : Pos) : AxleNo := ⟨p.val / 4, by omega⟩

/-- The half a position lies in. -/
def halfOf (p : Pos) : Half := if p.val < 16 then .truck else .trailer

/-- The other slot on the same side of the same axle. -/
def mateOf (p : Pos) : Pos := if p.val % 2 = 0 then Fin.ofNat 32 (p.val + 1) else Fin.ofNat 32 (p.val - 1)

/-- The twin partner of p, if it has one (R51). -/
def partnerOf (s : State) (p : Pos) : Option Pos :=
  if (geometry s p).fitted && (geometry s (mateOf p)).fitted then some (mateOf p) else none

/-- Whether a position's axle is in the lift mask in force (R43, R63). -/
def lifted (s : State) (p : Pos) : Bool := s.vehicle.lift.getLsbD (axleOf p).val

/-- Whether a state is one in which a position holds a bound entry (R56). -/
def hasBinding : PosState → Bool
  | .waiting | .live | .silent => true
  | .vacant | .unbound => false

/-! ## Sets and lookups (2.1, 2.2) -/

/-- Whether a set is active (R21). -/
def isActive (s : State) (g : SetNo) : Bool := g == 0 || g == s.vehicle.set

/-- The valid entry that holds a sensor ID (R20, R22). -/
def findId (s : State) (sid : SensorId) : Option EntryNo :=
  (List.finRange 48).find? (fun e => (entryAt s e).valid && (entryAt s e).sid == sid)

/-- The valid entry that names a set and a position (R20, R31). -/
def findPlace (s : State) (g : SetNo) (p : Pos) : Option EntryNo :=
  (List.finRange 48).find? (fun e => (entryAt s e).valid && (entryAt s e).set == g && (entryAt s e).pos == p)

/-- The valid entry of an active set that names a position (R53, R56, R60). -/
def entryFor (s : State) (p : Pos) : Option EntryNo :=
  (List.finRange 48).find? (fun e => (entryAt s e).valid && isActive s (entryAt s e).set && (entryAt s e).pos == p)

/-- The lowest-index FREE entry (R31). -/
def findFree (s : State) : Option EntryNo := (List.finRange 48).find? (fun e => !(entryAt s e).valid)

/-- Entry e written: its stored fields replaced, its last accepted sequence and time absent, and the
changed-since-snapshot flag set (R19, R27, R31). -/
def writeEntry (e : EntryNo) (new : Entry) (s : State) : State :=
  { s with
    content := { s.content with sensors := put s.content.sensors e new }
    table := { s.table with accepted := put s.table.accepted e none }
    store := { s.store with changed := true } }

/-- Entry e made FREE (R19, R29, R31). -/
def freeEntry (e : EntryNo) (s : State) : State := writeEntry e Entry.free s

/-- The stranger entry for an ID removed, with no frame and no count (R36). -/
def dropStranger (sid : SensorId) (s : State) : State :=
  { s with strangers := { s.strangers with entries := s.strangers.entries.filter (fun x => x.sid != sid) } }

/-- The changed-since-snapshot flag set by an accepted write of stored content (R19, R49, R50, R104, R148, R166). -/
def markChanged (s : State) : State := { s with store := { s.store with changed := true } }

/-- A diagnostic count raised by one (section 2.6). -/
def countUp (n : Nat) : Nat := satSucc Config.countCap n

/-! ## Check sequences (section 2.8) -/

/-- One bit of the telegram check, x⁸ + x² + x + 1. -/
def crc8Bit (c : BitVec 8) : BitVec 8 := if c.msb then (c <<< 1) ^^^ 0x07#8 else c <<< 1

/-- The telegram check: CRC-8 from 0, most significant bit first. -/
def crc8 (bytes : List Byte) : BitVec 8 := bytes.foldl (fun c b => Nat.repeat crc8Bit 8 (c ^^^ b)) 0#8

/-- One bit of the image check, x¹⁶ + x¹² + x⁵ + 1. -/
def crc16Bit (c : BitVec 16) : BitVec 16 := if c.msb then (c <<< 1) ^^^ 0x1021#16 else c <<< 1

/-- The image check: CRC-16 from all ones, most significant bit first. -/
def crc16 (bytes : List Byte) : BitVec 16 :=
  bytes.foldl (fun (c : BitVec 16) (b : Byte) => Nat.repeat crc16Bit 8 (c ^^^ (b ++ 0#8))) 0xFFFF#16

/-! ## The transmit queue (R158) -/

/-- The order of the classes in the queue: ALERT ahead of SERVICE ahead of REPORT. -/
def classRank : FrameClass → Nat
  | .alert => 0
  | .service => 1
  | .report => 2

/-- A frame joined at the tail of its class. -/
def insertFrame (f : Frame) : List Frame → List Frame
  | [] => [f]
  | g :: rest => if classRank g.cls ≤ classRank f.cls then g :: insertFrame f rest else f :: g :: rest

/-- The queue without its youngest REPORT frame other than the offered one; none where there is no such frame. -/
def evictReport : List Frame → Option (List Frame)
  | [] => none
  | f :: rest =>
    match evictReport rest with
    | some rest' => some (f :: rest')
    | none => if f.cls == .report && f.offered.isNone then some rest else none

/-- Whether the queue has room for a frame. -/
def hasRoom (s : State) : Bool := s.tx.frames.length < Config.queueCap

/-- What offering a frame to the queue answers: the queue, and whether the frame was placed. -/
structure Placing where
  tx : TxQueue
  placed : Bool

/-- A frame offered to the queue (R158). A REPORT frame finding no room is not counted: its channel waits (R154). -/
def offerFrame (f : Frame) (tx : TxQueue) : Placing :=
  if tx.frames.length < Config.queueCap then { tx := { tx with frames := insertFrame f tx.frames }, placed := true }
  else
    match f.cls with
    | .report => { tx := tx, placed := false }
    | .alert =>
      match evictReport tx.frames with
      | some q => { tx := { tx with frames := insertFrame f q, reportEvictions := countUp tx.reportEvictions }, placed := true }
      | none => { tx := { tx with refusedAlerts := countUp tx.refusedAlerts }, placed := false }
    | .service =>
      match evictReport tx.frames with
      | some q => { tx := { tx with frames := insertFrame f q, reportEvictions := countUp tx.reportEvictions }, placed := true }
      | none => { tx := { tx with lostService := countUp tx.lostService }, placed := false }

/-- A new frame of a class, as it enters the queue now. -/
def newFrame (s : State) (cls : FrameClass) (body : Body) (awaited : Option Await) : Frame :=
  { cls := cls, entry := s.time, body := body, offered := none, awaited := awaited }

/-- A SERVICE frame placed or refused (R158). -/
def placeService (body : Body) (s : State) : State :=
  { s with tx := (offerFrame (newFrame s .service body none) s.tx).tx }

/-- A reply frame of length 2 placed or refused (R162, R176). -/
def reply (kind : Byte) (st : Status) (s : State) : State := placeService (.reply kind st) s

/-- Several SERVICE frames placed or refused one after the other (R162). -/
def placeAll (bodies : List Body) (s : State) : State := bodies.foldl (fun s b => placeService b s) s

/-! ## Walk, node number and restart tests that several blocks read -/

/-- Whether a walk is open in a half (R130). -/
def walkOpen (s : State) (h : Half) : Bool := (walkSlot s h).walk.isSome

/-- Whether a reply that something waits for is still in the queue (R167, R170). -/
def replyQueued (s : State) (a : Await) : Bool := s.tx.frames.any (fun f => f.awaited == some a)

/-- A pending restart whose reply has been sent or was refused, so that start-up is due (R170). -/
def restartDue (s : State) : Bool := s.mgmt.restartPending && !replyQueued s .restart

/-- A pending node number brought into force if its reply has been sent or was refused (R167). -/
def settleNode (s : State) : State :=
  match s.mgmt.nodePending with
  | none => s
  | some n => if replyQueued s .node then s else { s with mgmt := { s.mgmt with nodeInForce := n, nodePending := none } }

/-- The node number in force (R167): a pending value whose reply has gone counts from that moment, before the step
NODE_NUMBER_IN_FORCE records it. -/
def nodeNow (s : State) : Nat := (settleNode s).mgmt.nodeInForce

end Sys2Proof.Machine
end

