-- ==== Sys2Proof/Machine/Frames.lean ====
section
/-! DEFINITION. The layouts of the frames the part sends (chapter 12): the codes of named values, the fields of each
SERVICE reply and notice, and the bytes and identifier of any queued frame. -/

namespace Sys2Proof.Machine

open Sys2Proof

/-! ## Codes -/

/-- Load state codes (12.3). -/
def loadCode : LoadState → Nat
  | .empty => 0
  | .laden => 1
  | .tipping => 2

/-- Motion codes (12.3). -/
def motionCode : Motion → Nat
  | .stationary => 0
  | .moving => 1

/-- Level codes (12.4). -/
def levelCode : Level → Nat
  | .normal => 0
  | .low => 1
  | .critical => 2
  | .high => 3

/-- Position state codes (12.4). -/
def posStateCode : PosState → Nat
  | .vacant => 0
  | .unbound => 1
  | .waiting => 2
  | .live => 3
  | .silent => 4

/-- Alert reason codes (12.4). -/
def reasonCode : Reason → Nat
  | .raised => 0
  | .cleared => 1
  | .reset => 2
  | .repeated => 3

/-- Status codes (R176). -/
def statusCode : Status → Byte
  | .done => 0
  | .badArgument => 1
  | .locked => 2
  | .busy => 3
  | .conflict => 4
  | .walkOpen => 5
  | .noWalk => 6
  | .channelActive => 7
  | .moving => 8
  | .unknown => 9

/-- Telegram kind codes (12.1). -/
def kindCode : TelKind → Nat
  | .periodic => 0
  | .rapid => 1
  | .motion => 2
  | .learn => 3

/-- Half codes (section 2.5, 12.5). -/
def halfCode : Half → Nat
  | .truck => 0
  | .trailer => 1

/-- Walk result codes (12.5.1). -/
def resultCode : WalkResult → Nat
  | .complete => 0
  | .timeout => 1
  | .stopped => 2
  | .setChanged => 3
  | .tableFull => 4

/-- Order codes: 0 SEQUENTIAL (12.5.1), 1 INTERLEAVED (DEDUCED, unsafe: notes/assumptions/22.md). -/
def orderCode : Order → Nat
  | .sequential => 0
  | .interleaved => 1

/-- Length codes of a walk: 0 to 4 for 1, 2, 4, 8, 16 (12.5.1). -/
def lengthCode (len : Nat) : Nat := Nat.log2 len

/-- Channel state codes (12.5.1). -/
def chanStateCode : ChanState → Nat
  | .idle => 0
  | .armed => 1
  | .running => 2
  | .waiting => 3
  | .ended => 4

/-- Trigger codes (12.5.1). -/
def triggerCode : Trigger → Nat
  | .sample => 0
  | .period => 1
  | .alert => 2
  | .request => 3

/-- Mode codes (12.5.1). -/
def modeCode : Mode → Nat
  | .single => 0
  | .run => 1
  | .block => 2

/-- Step codes (12.5.1). -/
def stepCode : PtrStep → Nat
  | .hold => 0
  | .up => 1
  | .down => 2
  | .upReturn => 3

/-! ## Fields -/

/-- A field of a whole number. -/
def fld (width value : Nat) : Field := { value := value, width := width }

/-- A one-bit field. -/
def bit (b : Bool) : Field := fld 1 b.toNat

/-- A count or age that saturates at its field's largest value (R176). -/
def satFld (width value : Nat) : Field := fld width (min value (2 ^ width - 1))

/-- A field that can be absent, with its absent code (R176). -/
def optFld (width absent : Nat) (v : Option Nat) : Field := fld width (v.getD absent)

/-- A signed field in two's complement (chapter 12). -/
def signedFld (width : Nat) (v : Int) : Field := fld width (BitVec.ofInt width v).toNat

/-- The value of fields packed from the least significant bit upward, in order (section 2.7). -/
def packFields : List Field → Nat
  | [] => 0
  | f :: rest => f.value % 2 ^ f.width + 2 ^ f.width * packFields rest

/-- A whole number as n bytes, least significant first (section 2.7). -/
def bytesOf : Nat → Nat → List Byte
  | 0, _ => []
  | n + 1, v => BitVec.ofNat 8 v :: bytesOf n (v / 256)

/-- The six condition flags in the order of the wheel frame (12.4). -/
def condFields (c : CondSet) : List Field :=
  [bit c.hot, bit c.twin, bit c.leak, bit c.silent, bit c.fault, bit c.battery]

/-- The wheel frame layout (12.4), with the two bits of channel number or reason. -/
def wheelFields (v : WheelView) (two : Nat) : List Field :=
  [fld 5 v.position.val, fld 2 two, bit false, fld 2 (levelCode v.level)] ++ condFields v.active ++
    [fld 3 (posStateCode v.state), bit v.uncompensated, bit v.saturated, bit v.ackedAny, bit false, bit v.age.isNone,
      optFld 12 4095 v.filtered, optFld 12 4095 v.hot, optFld 8 0 v.temp, optFld 8 0 v.age]

/-- The data bytes of a frame (12.4, R176); padding bits are 0 (R175). -/
def bodyBytes : Body → List Byte
  | .alert v r => bytesOf 8 (packFields (wheelFields v (reasonCode r)))
  | .report v c => bytesOf 8 (packFields (wheelFields v c.val))
  | .endFrame c => bytesOf 8 (packFields [fld 5 0, fld 2 c.val, bit true])
  | .reply k st => [k, statusCode st]
  | .long k fields => bytesOf 8 (packFields (fld 5 k :: fields))

/-- The identifier of a class of frames under a node number (12.2). -/
def frameIdent (cls : FrameClass) (node : Nat) : BitVec 11 :=
  match cls with
  | .alert => BitVec.ofNat 11 (0x3A0 + node)
  | .report => BitVec.ofNat 11 (0x4A0 + node)
  | .service => BitVec.ofNat 11 (0x5D0 + node)

/-! ## What a wheel frame shows -/

/-- Whole seconds of an age, saturating at 255 in a frame (section 2.4). -/
def ageByte (ms : Nat) : Nat := min (wholeSeconds ms) 255

/-- Whether at least one active level or condition is acknowledged (R123). -/
def ackedAny (c : Cond) : Bool :=
  (c.level != .normal && c.ackLevel) || (c.active.hot && c.acked.hot) || (c.active.twin && c.acked.twin) ||
    (c.active.leak && c.acked.leak) || (c.active.silent && c.acked.silent) || (c.active.fault && c.acked.fault) ||
    (c.active.battery && c.acked.battery)

/-- What a wheel frame built now shows of position p (R123, R157). -/
def viewOf (s : State) (p : Pos) : WheelView :=
  let r := posRec s p
  { position := p, level := r.cond.level, active := r.cond.active, state := r.state
    uncompensated := r.uncompensated, saturated := r.saturated, ackedAny := ackedAny r.cond, filtered := r.filtered
    hot := r.hot, temp := r.temp, age := r.lastTime.map (fun t => ageByte (s.time - t)) }

/-! ## SERVICE replies with data (12.5.1, 12.5.2) -/

/-- READ SENSOR ENTRY (R29). Last sequence and age, for which the layout states no absent code, are 0 without an
acceptance (notes/assumptions/25.md). -/
def sensorEntryReply (s : State) (e : EntryNo) : Body :=
  let x := entryAt s e
  let a := pick s.table.accepted e
  .long 0x03 [fld 32 x.sid.toNat, fld 4 (x.pos.val % 16), fld 2 x.set.val, bit (isActive s x.set), bit a.isSome,
    optFld 4 0 (a.map (fun k => k.seq.val)), optFld 8 0 (a.map (fun k => ageByte (s.time - k.time))),
    signedFld 7 x.offset]

/-- READ POSITION, first frame (R68). -/
def positionReplyA (s : State) (p : Pos) : Body :=
  let r := posRec s p
  let g := geometry s p
  .long 0x06 [fld 1 0, fld 5 p.val, fld 3 (posStateCode r.state), bit g.fitted, fld 3 g.cls.val,
    optFld 6 63 (r.bound.map (fun e => e.val)), optFld 3 7 (r.lastKind.map kindCode),
    optFld 8 0 (r.lastTime.map (fun t => ageByte (s.time - t))), satFld 16 r.readings, bit r.battery, bit r.fault,
    bit r.uncompensated, bit r.saturated]

/-- READ POSITION, second frame (R68). -/
def positionReplyB (s : State) (p : Pos) : Body :=
  let r := posRec s p
  .long 0x06 [fld 1 1, fld 5 p.val, optFld 12 4095 r.cold, optFld 12 4095 r.hot, optFld 12 4095 r.filtered,
    optFld 8 0 r.temp, satFld 8 (wholeSeconds r.silence)]

/-- The ring places READ HISTORY returns, in order (R102). -/
def historyPlaces (n start count : Nat) : List Nat :=
  if n = 0 then [] else (List.range (min count n)).map (fun i => (start % n + i) % n)

/-- READ HISTORY, header frame (R101). The leak rate, for which the layout states no absent code, is 0 where it is absent
(notes/assumptions/25.md). -/
def historyHeader (s : State) (p : Pos) (returned : Nat) : Body :=
  let h := (posRec s p).history
  .long 0x08 [fld 2 0, fld 5 p.val, fld 4 h.ring.length, fld 4 (h.ring.filter Option.isSome).length, fld 4 returned,
    satFld 8 (h.leak.getD 0), bit h.leak.isSome, bit h.expiry.isSome,
    satFld 8 (if h.expiry.isSome then h.count else 0),
    satFld 12 ((h.expiry.map (fun e => wholeSeconds (e - s.time))).getD 0), fld 6 s.content.settings.intervalLength]

/-- READ HISTORY, one record frame of up to three records (R101). -/
def historyRecord (s : State) (p : Pos) (number : Nat) (places : List Nat) : Body :=
  .long 0x08 ([fld 2 number, fld 5 p.val] ++
    places.flatMap (fun k => [fld 3 k, optFld 12 4095 (((posRec s p).history.ring[k]?).join)]))

/-- READ HISTORY, the whole reply: the header and the records three to a frame (R101). -/
def historyReply (s : State) (p : Pos) (start count : Nat) : List Body :=
  let places := historyPlaces (posRec s p).history.ring.length start count
  let frames := [(1, places.take 3), (2, (places.drop 3).take 3), (3, (places.drop 6).take 3)]
  historyHeader s p places.length ::
    (frames.filter (fun f => !f.2.isEmpty)).map (fun f => historyRecord s p f.1 f.2)

/-- WALK STATUS (R146). -/
def walkStatusReply (s : State) (h : Half) : Body :=
  let slot := walkSlot s h
  let counts := [fld 5 slot.bound, satFld 8 slot.implausible, satFld 8 slot.ambiguous]
  match slot.walk with
  | some w => .long 0x0D ([fld 1 (halfCode h), bit true, fld 2 w.target.val, fld 3 (lengthCode w.length),
      fld 1 (orderCode w.order), fld 5 w.current.val, fld 4 w.step, satFld 10 (wholeSeconds (w.expiry - s.time)),
      fld 3 7] ++ counts)
  | none => .long 0x0D ([fld 1 (halfCode h), bit false, fld 2 0, fld 3 0, fld 1 0, fld 5 0, fld 4 0, fld 10 0,
      optFld 3 7 (slot.result.map resultCode)] ++ counts)

/-- CHANNEL STATUS (R161). The period seconds, for which the layout states no absent code, are 0 while the timer is
stopped (notes/assumptions/25.md). -/
def channelStatusReply (s : State) (c : ChanNo) : Body :=
  let r := chanRun s c
  .long 0x13 [fld 2 c.val, fld 3 (chanStateCode r.state), fld 5 r.pointer.val, fld 17 r.remaining, fld 6 r.blockRem,
    bit r.pendingTrigger, satFld 8 r.overrun, bit r.due.isSome,
    satFld 8 ((r.due.map (fun d => wholeSeconds (d - s.time))).getD 0)]

/-- READ SETTINGS, first settings frame (R166). -/
def settingsReplyA (s : State) : Body :=
  let c := s.content.settings
  .long 0x15 [fld 3 0, signedFld 8 c.tref, fld 11 c.silenceTimeout, fld 6 c.repeatPeriod, fld 6 c.intervalLength]

/-- READ SETTINGS, second settings frame (R166): the node number as written (R167). -/
def settingsReplyB (s : State) : Body :=
  let c := s.content.settings
  .long 0x15 [fld 3 1, fld 14 c.reportLifetime, fld 10 c.walkWindow, fld 4 c.node, fld 2 c.protect]

/-- READ SETTINGS, the frame of one channel (R166, R148). -/
def settingsReplyChan (s : State) (c : ChanNo) : Body :=
  let k := chanConfig s c
  .long 0x15 [fld 3 (2 + c.val), fld 2 (triggerCode k.trigger), fld 2 (modeCode k.mode), fld 2 (stepCode k.step),
    fld 5 k.start.val, fld 6 k.blockLen, fld 16 k.count, fld 8 k.period, bit k.skipVacant, bit k.cyclic, bit k.powerUp]

/-- READ SETTINGS, the six frames (R166). -/
def settingsReply (s : State) : List Body :=
  [settingsReplyA s, settingsReplyB s, settingsReplyChan s 0, settingsReplyChan s 1, settingsReplyChan s 2,
    settingsReplyChan s 3]

/-- READ COUNTERS, one frame of counts (R168). -/
def countersFrame (number : Nat) (counts : List Nat) : Body := .long 0x17 (fld 3 number :: counts.map (satFld 16))

/-- READ COUNTERS, the six frames in the order of R168 (notes/assumptions/12.md). -/
def countersReply (s : State) : List Body :=
  [countersFrame 0 [s.frontPort.taken, s.frontPort.badCheck, s.frontPort.badFraming],
    countersFrame 1 [s.rearPort.taken, s.rearPort.badCheck, s.rearPort.badFraming],
    countersFrame 2 [s.dup.merges, s.dup.evictions, s.table.inactiveSet],
    countersFrame 3 [s.table.lateRepeat, s.table.unplaced, s.strangers.replaced],
    countersFrame 4 [s.tx.reportEvictions, s.tx.staleDiscards, s.tx.refusedAlerts],
    countersFrame 5 [s.tx.lostService]]

/-- STATUS (R169). -/
def statusReply (s : State) : Body :=
  let v := s.vehicle
  .long 0x18 [bit s.store.configured, bit s.store.job.isSome,
    fld 2 (match s.store.lastOk with
      | none => 0
      | some true => 1
      | some false => 2),
    bit s.store.changed, bit s.mgmt.summary, bit v.stale, fld 2 (loadCode v.load), fld 1 (motionCode v.motion),
    fld 8 v.ambient, fld 8 v.lift.toNat, fld 2 v.set.val, fld 2 s.content.settings.protect, bit s.tx.busOff,
    bit (walkOpen s .truck), bit (walkOpen s .trailer)]

/-! ## Notices (12.5.3) -/

/-- STARTUP (R174 step 5). -/
def startupNotice (configured : Bool) : Body := .long 0x1B [bit configured]

/-- STORE DONE or STORE FAILED (R172). -/
def storeNotice (ok : Bool) : Body := .long 0x1C [bit (!ok)]

/-- Outcomes of a binding (R31, R140). -/
inductive BindOutcome where
  | new | moved | confirmed | displaced
  deriving DecidableEq, Repr

/-- Outcome codes (12.5.3). -/
def outcomeCode : BindOutcome → Nat
  | .new => 0
  | .moved => 1
  | .confirmed => 2
  | .displaced => 3

/-- LEARN (R140). -/
def learnNotice (h : Half) (p : Pos) (sid : SensorId) (o : BindOutcome) (e : EntryNo) : Body :=
  .long 0x1D [fld 1 (halfCode h), fld 5 p.val, fld 32 sid.toNat, fld 2 (outcomeCode o), fld 6 e.val]

/-- WALK END (R145). -/
def walkEndNotice (h : Half) (r : WalkResult) (slot : WalkSlot) : Body :=
  .long 0x1E [fld 1 (halfCode h), fld 3 (resultCode r), fld 5 slot.bound, satFld 8 slot.implausible,
    satFld 8 slot.ambiguous]

/-- A best RSSI as a STRANGER notice carries it: 127 absent, above 126 carried as 126 (12.5.3). -/
def rssiFld (r : Option Nat) : Field := optFld 7 127 (r.map (fun v => min v 126))

/-- STRANGER (R35): the time known counts to the moment of the update, `now`. -/
def strangerNotice (now : Nat) (x : Stranger) : Body :=
  .long 0x1F [fld 32 x.sid.toNat, satFld 4 x.heard, rssiFld x.front, rssiFld x.rear, fld 8 (ageByte (now - x.first))]

end Sys2Proof.Machine
end

