-- ==== Sys2Proof/Machine/Flags.lean ====
section
/-! DEFINITION. The alert state: thresholds (R107, R108), the pressure level (R111 to R114), the conditions (R115 to
R120), the leak verdict (R97, R98), severity (R121) and acknowledgements (R129), each as a function of records. -/

namespace Sys2Proof.Machine

open Sys2Proof

/-! ## Conditions by name -/

/-- The six conditions (R110). -/
inductive Condition where
  | hot | twin | leak | silent | fault | battery
  deriving DecidableEq, Repr

/-- The six conditions in the order of the wheel frame. -/
def allConditions : List Condition := [.hot, .twin, .leak, .silent, .fault, .battery]

/-- The mark of one condition. -/
def condGet (c : CondSet) : Condition → Bool
  | .hot => c.hot
  | .twin => c.twin
  | .leak => c.leak
  | .silent => c.silent
  | .fault => c.fault
  | .battery => c.battery

/-- The mark of one condition set or cleared. -/
def condSet (c : CondSet) (k : Condition) (b : Bool) : CondSet :=
  match k with
  | .hot => { c with hot := b }
  | .twin => { c with twin := b }
  | .leak => { c with leak := b }
  | .silent => { c with silent := b }
  | .fault => { c with fault := b }
  | .battery => { c with battery := b }

/-- Whether any condition is marked. -/
def condAny (c : CondSet) : Bool := allConditions.any (condGet c)

/-- A condition made active (R115 to R120). -/
def raiseCond (k : Condition) (c : Cond) : Cond := { c with active := condSet c.active k true }

/-- A condition made not active, its acknowledgement removed (R129). -/
def clearCond (k : Condition) (c : Cond) : Cond :=
  { c with active := condSet c.active k false, acked := condSet c.acked k false }

/-- A condition made active or not active as b says. -/
def putCond (k : Condition) (b : Bool) (c : Cond) : Cond := if b then raiseCond k c else clearCond k c

/-! ## Thresholds (R107, R108) -/

/-- The place of a profile in its table: 8 × load state code + class (R104). -/
def profileNo (load : LoadState) (cls : Fin 8) : Fin 24 :=
  ⟨loadCode load * 8 + cls.val, by
    have := cls.isLt
    cases load <;> simp only [loadCode] <;> omega⟩

/-- The profile of a load state and a class (R104). -/
def profileFor (s : State) (load : LoadState) (cls : Fin 8) : Profile :=
  pick s.content.profiles (profileNo load cls)

/-- The main profile of a position (R107). -/
def mainProfile (s : State) (p : Pos) : Profile := profileFor s s.vehicle.load (geometry s p).cls

/-- The low profile of a position: that of EMPTY on a lifted axle (R107). -/
def lowProfile (s : State) (p : Pos) : Profile :=
  if lifted s p then profileFor s .empty (geometry s p).cls else mainProfile s p

/-- The thresholds derived from a main and a low profile (R108). -/
def deriveCache (main low : Profile) : Cache :=
  { checks := main.nominal != 0 && low.nominal != 0
    low := low.nominal * low.lowPct / 100
    critical := low.nominal * low.critPct / 100
    high := main.nominal * main.highPct / 100
    band := max 2 (main.nominal / 50)
    hotLimit := main.hotLimit
    twinLimit := main.twinLimit }

/-- The threshold cache of a position as R108 derives it now. -/
def cacheFor (s : State) (p : Pos) : Cache := deriveCache (mainProfile s p) (lowProfile s p)

/-! ## The pressure level -/

/-- The candidate level (R112). -/
def candidate (k : Cache) (level : Level) (f : Nat) : Level :=
  match level with
  | .normal => if f ≤ k.critical then .critical else if f ≤ k.low then .low else if k.high ≤ f then .high else .normal
  | .low =>
    if f ≤ k.critical then .critical
    else if k.low + k.band ≤ f ∧ k.high ≤ f then .high
    else if k.low + k.band ≤ f then .normal
    else .low
  | .critical => if k.low + k.band ≤ f then .normal else if k.critical + k.band ≤ f then .low else .critical
  | .high =>
    if f + k.band ≤ k.high ∧ f ≤ k.critical then .critical
    else if f + k.band ≤ k.high ∧ f ≤ k.low then .low
    else if f + k.band ≤ k.high then .normal
    else .high

/-- The level changed to `new`: the acknowledgement is kept where nothing changes and from CRITICAL to LOW, and
removed otherwise (R121, R129). -/
def setLevel (new : Level) (c : Cond) : Cond :=
  { c with
    level := new
    ackLevel := c.ackLevel && (new == c.level || (c.level == .critical && new == .low)) }

/-- A candidate level taken in two consecutive judgements (R113), or at once for LOW and CRITICAL at a RAPID reading
(R114). -/
def takeCandidate (kind : TelKind) (cand : Level) (c : Cond) : Cond :=
  if kind = .rapid ∧ (cand = .low ∨ cand = .critical) then { setLevel cand c with pendingLevel := none }
  else if cand = c.level then { c with pendingLevel := none }
  else if c.pendingLevel = some cand then { setLevel cand c with pendingLevel := none }
  else { c with pendingLevel := some cand }

/-- The level judged at a pressure-bearing reading (R111). -/
def judgeLevel (k : Cache) (kind : TelKind) (f : Nat) (c : Cond) : Cond :=
  if k.checks then takeCandidate kind (candidate k c.level f) c else { setLevel .normal c with pendingLevel := none }

/-! ## The conditions judged at a reading -/

/-- HOT (R115); the judging temperature is a code, absent at an uncompensated reading. -/
def judgeHot (limit : Nat) (judging : Option Nat) (c : Cond) : Cond :=
  if limit = 0 then (if c.active.hot then clearCond .hot c else c)
  else
    match judging with
    | none => c
    | some t =>
      if !c.active.hot && decide ((limit : Int) ≤ (t : Int) - 50) then raiseCond .hot c
      else if c.active.hot && decide ((t : Int) - 50 < (limit : Int) - 5) then clearCond .hot c
      else c

/-- FAULT (R119). -/
def judgeFault (faultState : Bool) (c : Cond) : Cond := putCond .fault faultState c

/-- BATTERY with its clear count (R120). -/
def judgeBattery (flag : Bool) (c : Cond) : Cond :=
  if flag then { raiseCond .battery c with batteryClear := 0 }
  else if !c.active.battery then c
  else if c.batteryClear < 2 then { c with batteryClear := c.batteryClear + 1 }
  else { clearCond .battery c with batteryClear := 0 }

/-- What a twin judgement does at both partners (R116). -/
inductive TwinVerdict where
  | raise | clear | keep
  deriving DecidableEq, Repr

/-- TWIN at a reading of p with partner q (R116): the smaller twin limit, the clear band of p, the difference of the
filtered cold gauges. -/
def twinVerdict (p q : PosRec) (fp fq : Nat) : TwinVerdict :=
  let limit := min p.cache.twinLimit q.cache.twinLimit
  let d := max fp fq - min fp fq
  if limit = 0 then (if p.cond.active.twin then .clear else .keep)
  else if !p.cond.active.twin && decide (limit ≤ d) then .raise
  else if p.cond.active.twin && decide (d + p.cache.band < limit) then .clear
  else .keep

/-! ## The leak estimate and verdict -/

/-- The ring places that hold an average, with their numbers, oldest first. -/
def averages (ring : List (Option Nat)) : List (Nat × Nat) :=
  ((List.range ring.length).zip ring).filterMap (fun x => x.2.map (fun v => (x.1, v)))

/-- The leak rate in pu/h estimated on a ring, if at least 4 records are averages (R97). -/
def leakRate (ring : List (Option Nat)) (intervalLength : Nat) : Option Nat :=
  let av := averages ring
  if av.length < 4 then none
  else
    match av.head?, av.getLast? with
    | some a, some z =>
      some (if z.2 < a.2 then min ((a.2 - z.2) * 60 / ((z.1 - a.1) * intervalLength)) Config.countCap else 0)
    | _, _ => none

/-- The LEAK verdict taken by the condition record (R98). -/
def judgeLeak (limit : Nat) (rate : Option Nat) (c : Cond) : Cond :=
  if c.active.leak then
    match rate with
    | none => clearCond .leak c
    | some r => if limit = 0 then clearCond .leak c else if r < limit / 2 then clearCond .leak c else c
  else
    match rate with
    | none => c
    | some r => if limit ≠ 0 ∧ limit ≤ r then raiseCond .leak c else c

/-! ## Severity and acknowledgement -/

/-- Severity of a level (R121). -/
def levelSeverity : Level → Nat
  | .critical => 3
  | .low => 2
  | .high => 1
  | .normal => 0

/-- Severity of a condition (R121). -/
def condSeverity : Condition → Nat
  | .hot | .silent | .leak => 2
  | .twin | .fault | .battery => 1

/-- Severity of a position: the greatest among its active level and conditions (R121). -/
def severity (c : Cond) : Nat :=
  allConditions.foldl (fun m k => if condGet c.active k then max m (condSeverity k) else m) (levelSeverity c.level)

/-- Whether an active level or condition of severity 2 or 3 is not acknowledged (R125). -/
def unansweredSerious (c : Cond) : Bool :=
  (decide (2 ≤ levelSeverity c.level) && !c.ackLevel) ||
    allConditions.any (fun k => decide (2 ≤ condSeverity k) && condGet c.active k && !condGet c.acked k)

/-- Whether something is active: a level other than NORMAL or a condition (R110). -/
def anyActive (c : Cond) : Bool := c.level != .normal || condAny c.active

/-- Whether a change of level is a raise (R121). -/
def levelRaised (old new : Level) : Bool :=
  match new with
  | .normal => false
  | .low => old == .normal || old == .high
  | .critical => old != .critical
  | .high => old != .high

/-- Whether an event that took the alert state from `old` to `new` made a raise (R121, R122). -/
def madeRaise (old new : Cond) : Bool :=
  levelRaised old.level new.level || allConditions.any (fun k => !condGet old.active k && condGet new.active k)

/-- Whether it made a clear (R121, R122). -/
def madeClear (old new : Cond) : Bool :=
  (old.level != new.level && !levelRaised old.level new.level) ||
    allConditions.any (fun k => condGet old.active k && !condGet new.active k)

/-- The reason of the alert frame an event generates for a position, if it generates one (R122). -/
def alertReason (runtimeCleared : Bool) (old new : Cond) : Option Reason :=
  if runtimeCleared && (anyActive old || old.owed) then some .reset
  else if madeRaise old new then some .raised
  else if madeClear old new then some .cleared
  else none

end Sys2Proof.Machine
end

