-- ==== Sys2Proof/Machine/Channels.lean ====
section
/-! DEFINITION. The report channels at work: triggers (R152), jobs (R153), the placing of frames (R154, R155) and the
grant of a freed slot (R156). -/

namespace Sys2Proof.Machine

open Sys2Proof

/-- A block length with 0 read as 32 (R148). -/
def blockSize (k : ChanConfig) : Nat := if k.blockLen = 0 then 32 else k.blockLen

/-- A count with 0 read as 65536 (R148). -/
def fullCount (k : ChanConfig) : Nat := if k.count = 0 then 65536 else k.count

/-- Whether a position lies in a channel's watch block (R148). -/
def watches (k : ChanConfig) (p : Pos) : Bool := (p.val + 32 - k.start.val) % 32 < blockSize k

/-- The pointer moved by the configured step (R154 step 4). -/
def stepPointer (st : PtrStep) (p : Pos) : Pos :=
  match st with
  | .hold => p
  | .up | .upReturn => Fin.ofNat 32 (p.val + 1)
  | .down => Fin.ofNat 32 (p.val + 31)

/-- What the search of R154 step 2 answers: where the pointer stands, and whether a position to report was found. -/
structure Seek where
  pointer : Pos
  found : Bool

/-- The search for a position to report, examining at most the given number of positions (R154 step 2). -/
def seekPosition (s : State) (k : ChanConfig) : Nat → Pos → Seek
  | 0, p => { pointer := p, found := false }
  | n + 1, p =>
    if k.skipVacant && (posRec s p).state == .vacant then
      if k.step = .hold then { pointer := p, found := false } else seekPosition s k n (stepPointer k.step p)
    else { pointer := p, found := true }

/-- A REPORT frame placed at the tail of the queue (R154 step 3, R155); the caller has found room. -/
def placeReport (body : Body) (s : State) : State :=
  { s with tx := (offerFrame (newFrame s .report body none) s.tx).tx }

/-- Pointer, block and counts after a frame (R154 steps 4 and 5, R155 block end). -/
def afterFrame (k : ChanConfig) (r : ChanRun) : ChanRun :=
  let moved := stepPointer k.step r.pointer
  let remaining := if k.mode = .block then r.remaining else r.remaining - 1
  if r.blockRem ≤ 1 then
    let pointer := if k.step = .upReturn then r.blockStart else moved
    { r with
      pointer := pointer
      blockStart := pointer
      blockRem := blockSize k
      remaining := r.remaining - 1 }
  else { r with pointer := moved, blockRem := r.blockRem - 1, remaining := remaining }

/-- Whether a job goes on after a frame (R153): at a count end it owes its END frame, a RUN goes on until then, a
BLOCK until its block is finished. -/
def jobGoesOn (k : ChanConfig) (before after : ChanRun) : Bool :=
  after.remaining == 0 || k.mode == .run || (k.mode == .block && decide (1 < before.blockRem))

/-- A channel whose job has ended short of its count end (R153). -/
def jobEnded (r : ChanRun) : ChanRun := { r with state := .armed, job := false }

/-- A channel after its END frame (R155 count end): reloaded if cyclic, else ENDED. -/
def afterEnd (k : ChanConfig) (r : ChanRun) : ChanRun :=
  if k.cyclic then
    { r with
      state := .armed, job := false, pointer := k.start, blockStart := k.start, remaining := fullCount k
      blockRem := blockSize k }
  else { r with state := .ended, job := false, pendingTrigger := false, due := none }

/-- A channel whose job starts (R153). -/
def jobStarted (r : ChanRun) : ChanRun := { r with state := .running, job := true }

/-- One slot of a RUNNING channel: WAITING where the queue is full, else an END frame that is owed, a REPORT frame, or
the end of a job that finds nothing to report (R154, R155). -/
def runSlot (c : ChanNo) (s : State) : State :=
  let k := chanConfig s c
  let r := chanRun s c
  if !hasRoom s then modChan c (fun r => { r with state := .waiting }) s
  else if r.remaining = 0 then modChan c (afterEnd k) (placeReport (.endFrame c) s)
  else
    let found := seekPosition s k 32 r.pointer
    let r1 := { r with pointer := found.pointer }
    if found.found then
      let r2 := afterFrame k r1
      modChan c (fun _ => if jobGoesOn k r1 r2 then r2 else jobEnded r2)
        (placeReport (.report (viewOf s found.pointer) c) s)
    else modChan c (fun _ => jobEnded r1) s

/-- A pending trigger of an ARMED channel starts a new job at once (R153). -/
def startPending (c : ChanNo) (s : State) : State :=
  let r := chanRun s c
  if r.state = .armed ∧ r.pendingTrigger then modChan c (fun r => { jobStarted r with pendingTrigger := false }) s else s

/-- The job of a RUNNING channel carried on until it ends or waits. Every round but the last places a frame or takes
up the one pending trigger, and the queue holds 24 frames, so 32 rounds are enough. -/
def runJob : Nat → ChanNo → State → State
  | 0, _, s => s
  | n + 1, c, s => if (chanRun s c).state = .running then runJob n c (startPending c (runSlot c s)) else s

/-- The rounds given to a job. -/
def jobRounds : Nat := 32

/-- A trigger received by a channel (R152). -/
def trigger (c : ChanNo) (s : State) : State :=
  let r := chanRun s c
  match r.state with
  | .idle | .ended => s
  | .armed => runJob jobRounds c (modChan c jobStarted s)
  | .running | .waiting =>
    if r.pendingTrigger then modChan c (fun r => { r with overrun := satSucc 255 r.overrun }) s
    else modChan c (fun r => { r with pendingTrigger := true }) s

/-- The triggers one event brings one channel: an ALERT trigger for each generated frame in its watch block, in the
order of the frames, or a SAMPLE trigger (R152). -/
def tellChannel (alerts : List Pos) (sample : Option Pos) (s : State) (c : ChanNo) : State :=
  let k := chanConfig s c
  match k.trigger with
  | .alert => (alerts.filter (watches k)).foldl (fun s _ => trigger c s) s
  | .sample =>
    match sample with
    | some p => if watches k p then trigger c s else s
    | none => s
  | .period | .request => s

/-- The channels told of an event, in ascending channel number (R152). -/
def tellChannels (alerts : List Pos) (sample : Option Pos) (s : State) : State :=
  (List.finRange 4).foldl (tellChannel alerts sample) s

/-- A slot offered to a channel by a grant: a WAITING channel goes on with its job if a slot is free (R156), as far as the
free slots reach (notes/assumptions/29.md). -/
def grantTo (s : State) (c : ChanNo) : State :=
  if hasRoom s && (chanRun s c).state == .waiting then
    runJob jobRounds c (modChan c (fun r => { r with state := .running }) s)
  else s

/-- A freed slot granted to the WAITING channel with the lowest number, and on to the next one while a job ends
without a frame (R156). -/
def grantSlot (s : State) : State := (List.finRange 4).foldl grantTo s

/-- A channel loaded and made ARMED (R150); its overrun count is kept. -/
def loadChannel (c : ChanNo) (s : State) : State :=
  let k := chanConfig s c
  modChan c (fun r =>
    { r with
      state := .armed, pointer := k.start, blockStart := k.start, remaining := fullCount k, blockRem := blockSize k
      job := false, pendingTrigger := false
      due := if k.trigger = .period then some (s.time + k.period * 1000) else none }) s

end Sys2Proof.Machine
end

