-- ==== Sys2Proof/Machine/Alerts.lean ====
section
/-! DEFINITION. Alert frames: their generation, repeat timer and owed flag (R123, R125, R126), and the close of an
event that reached the condition unit (R122). -/

namespace Sys2Proof.Machine

open Sys2Proof

/-- The repeat period in ms (R124). -/
def repeatMs (s : State) : Nat := s.content.settings.repeatPeriod * 1000

/-- The due time of the repeat timer after a frame generated now (R125). -/
def repeatAfter (now period : Nat) (placed : Bool) (c : Cond) : Option Nat :=
  if !placed then some (now + period)
  else if unansweredSerious c then some (now + period)
  else if 2 ≤ severity c then some (now + 12 * period)
  else none

/-- One alert frame generated for p: built from the records, offered to the queue, with the last alert time, the owed
flag and the repeat timer set, whether it was placed or refused (R123, R125, R126). -/
def generateAlert (p : Pos) (why : Reason) (s : State) : State :=
  let out := offerFrame (newFrame s .alert (.alert (viewOf s p) why) none) s.tx
  modCond p (fun c =>
    { c with
      lastAlert := some s.time
      owed := !out.placed
      repeatDue := repeatAfter s.time (repeatMs s) out.placed c }) { s with tx := out.tx }

/-- What the close of an event answers: the state, and the positions of the frames generated, in order. -/
structure Closing where
  state : State
  alerts : List Pos

/-- The close of an event at one position (R122): `before` is the state at the event's start, `cleared` says whose
runtime the event cleared. -/
def closeAt (before : State) (cleared : Pos → Bool) (acc : Closing) (p : Pos) : Closing :=
  match alertReason (cleared p) (posRec before p).cond (posRec acc.state p).cond with
  | some why => { state := generateAlert p why acc.state, alerts := acc.alerts ++ [p] }
  | none => acc

/-- The close of an event at every position, in ascending order (R122). A position the event did not reach has the
alert state it had, and gets no frame. -/
def closeEvent (before : State) (cleared : Pos → Bool) (s : State) : Closing :=
  (List.finRange 32).foldl (closeAt before cleared) { state := s, alerts := [] }

/-- An event of the condition unit brought to its end: its alert frames generated, then the channels told of them and
of the reading, if any (R122, R123, R61 step 6). `touched` are the positions whose runtime the event clears where they
held a binding before it (R57). -/
def finishEvent (before : State) (touched : List Pos) (sample : Option Pos) (s : State) : State :=
  let closing := closeEvent before (fun p => touched.contains p && hasBinding (posRec before p).state) s
  tellChannels closing.alerts sample closing.state

end Sys2Proof.Machine
end

