-- ==== Sys2Proof/Machine/Positions.lean ====
section
/-! DEFINITION. The position table's notices: the runtime clear (R57), bind and unbind (R58, R59), the re-derivation of
the trailer half (R60), silence (R63, R64), the partner notice (R117) and the re-derived caches (R109). None of these
generates a frame: the command that makes an event of them closes it (Machine/Alerts.lean). -/

namespace Sys2Proof.Machine

open Sys2Proof

/-- A position record with its runtime cleared; state, bound entry and threshold cache are kept (R57, R96, R110). -/
def clearedRec (r : PosRec) : PosRec :=
  { PosRec.vacant with state := r.state, bound := r.bound, cache := r.cache }

/-- TWIN cleared at both partners when a position leaves LIVE with TWIN active (R117). `partner` is the partner it had
just before the change. -/
def partnerNotice (p : Pos) (partner : Option Pos) (s : State) : State :=
  match partner with
  | none => s
  | some q => if (posRec s p).cond.active.twin then modCond q (clearCond .twin) (modCond p (clearCond .twin) s) else s

/-- The partner notice sent if the position is LIVE, as part of its leaving LIVE (R51). -/
def noticeIfLive (p : Pos) (partner : Option Pos) (s : State) : State :=
  if (posRec s p).state = .live then partnerNotice p partner s else s

/-- The runtime of p cleared, with the partner notice of a LIVE position (R57). -/
def clearRuntime (p : Pos) (partner : Option Pos) (s : State) : State :=
  modPos p clearedRec (noticeIfLive p partner s)

/-- The state and bound entry of a position set. -/
def setBinding (p : Pos) (st : PosState) (e : Option EntryNo) (s : State) : State :=
  modPos p (fun r => { r with state := st, bound := e }) s

/-- A bind notice: position p is now bound to entry e (R58). -/
def bindPos (p : Pos) (e : EntryNo) (s : State) : State :=
  match (posRec s p).state with
  | .vacant => s
  | .unbound => setBinding p .waiting (some e) s
  | .waiting | .live | .silent => setBinding p .waiting (some e) (clearRuntime p (partnerOf s p) s)

/-- An unbind notice: position q has lost its entry (R59). -/
def unbindPos (q : Pos) (s : State) : State :=
  match (posRec s q).state with
  | .vacant | .unbound => s
  | .waiting | .live | .silent => setBinding q .unbound none (clearRuntime q (partnerOf s q) s)

/-- A position that keeps its binding cleared to WAITING (R67). -/
def clearPos (p : Pos) (s : State) : State :=
  match (posRec s p).state with
  | .vacant | .unbound => s
  | .waiting | .live | .silent =>
    modPos p (fun r => { r with state := .waiting }) (clearRuntime p (partnerOf s p) s)

/-- One trailer position re-derived (R60). -/
def rederivePos (s : State) (p : Pos) : State :=
  match (posRec s p).state with
  | .vacant => s
  | _ =>
    let s1 := unbindPos p s
    match entryFor s1 p with
    | some e => setBinding p .waiting (some e) s1
    | none => setBinding p .unbound none s1

/-- The trailer positions, 16 to 31. -/
def trailerPositions : List Pos := (List.finRange 32).filter (fun p => decide (16 ≤ p.val))

/-- The TRAILER half re-derived, in ascending order (R60). -/
def rederiveTrailer (s : State) : State := trailerPositions.foldl rederivePos s

/-! ## Silence -/

/-- Whether a position counts silence (R63). -/
def countsSilence (s : State) (p : Pos) : Bool :=
  hasBinding (posRec s p).state && s.vehicle.motion == .moving && !lifted s p

/-- The silence timeout in ms. -/
def silenceMs (s : State) : Nat := s.content.settings.silenceTimeout * 1000

/-- Whether a position is WAITING or LIVE with the silence timeout reached (R64, R65). -/
def silenceReached (s : State) (p : Pos) : Bool :=
  ((posRec s p).state == .waiting || (posRec s p).state == .live) && decide (silenceMs s ≤ (posRec s p).silence)

/-- Whether the silence expiry of a counting position is due (R64). -/
def silenceDue (s : State) (p : Pos) : Bool := countsSilence s p && silenceReached s p

/-- The record of a position as an announcement leaves it that may stop counting: one that stops at the very moment of
its expiry, taken first, has counted to just short of the timeout, one ms by the clock of the part (R64,
notes/assumptions/27.md). `old` is the state before the announcement. -/
def stoppedRec (old s : State) (p : Pos) : PosRec :=
  let r := posRec s p
  if silenceDue old p && !countsSilence s p then { r with silence := silenceMs s - 1 } else r

/-- Silence counting stopped, at every position, by the conditions now in force (R47, R63, R64). -/
def stopSilence (old s : State) : State := { s with pos := Vector.ofFn (stoppedRec old s) }

/-- The silence expiry at p: SILENT, with the SILENT condition raised (R64, R118) and TWIN cleared at a position that
was LIVE (R117). -/
def goSilent (p : Pos) (s : State) : State :=
  modPos p (fun r => { r with state := .silent, cond := raiseCond .silent r.cond })
    (noticeIfLive p (partnerOf s p) s)

/-- The silence expiry of p, an event of its own in which the SILENT raise is reported (R64, R118, R122). -/
def silenceEvent (p : Pos) (s : State) : State := finishEvent s [] none (goSilent p s)

/-! ## Threshold caches -/

/-- The threshold cache of p re-derived, its pending level discarded (R109). -/
def rederiveCache (s : State) (p : Pos) : State :=
  modPos p (fun r => { r with cache := cacheFor s p, cond := { r.cond with pendingLevel := none } }) s

/-- The caches of the positions a test names re-derived, in ascending order (R109). -/
def rederiveCaches (which : Pos → Bool) (s : State) : State :=
  ((List.finRange 32).filter which).foldl rederiveCache s

end Sys2Proof.Machine
end

