-- ==== Sys2Proof/Machine/Readings.lean ====
section
/-! DEFINITION. A reading applied to its position (R61): the compensation of chapter 5, the history of chapter 6 and
the judgement of chapter 7, and the interval expiry of R93. -/

namespace Sys2Proof.Machine

open Sys2Proof

/-- A reading handed to the position table (R24, R61): the offset and time beside the telegram's values. -/
structure Reading where
  offset : Int
  telegram : Telegram
  time : Nat
  deriving DecidableEq, Repr

/-- Whether a telegram carries a pressure: its code is not 4095 (section 5.2). -/
def bearsPressure (t : Telegram) : Bool := t.pressure != 4095

/-! ## Compensation (chapter 5) -/

/-- A pressure and whether forming it clamped it. -/
structure Clamped where
  value : Nat
  clamped : Bool
  deriving DecidableEq, Repr

/-- Stage 1, the calibrated absolute pressure (R73). -/
def calibrate (p : Nat) (offset : Int) : Clamped :=
  let v := (p : Int) + offset
  if v < 0 then { value := 0, clamped := true }
  else if 4094 < v then { value := 4094, clamped := true }
  else { value := v.toNat, clamped := false }

/-- The temperature choice of stage 2 (R74): the kelvin value Tk (R76), the held temperature after it, and the judging
temperature, absent in the reference case (R86). -/
structure TempChoice where
  kelvin : Nat
  held : Option Held
  judging : Option Nat
  deriving DecidableEq, Repr

/-- The kelvin value of the reference temperature (R76). -/
def kelvinRef (tref : Int) : Nat := (tref + 273).toNat

/-- Stage 2 (R74, R75, R76). -/
def chooseTemp (tref : Int) (t time : Nat) (held : Option Held) : TempChoice :=
  if t ≠ 255 then { kelvin := t + 223, held := some { code := t, time := time }, judging := some t }
  else
    match held with
    | some h =>
      if time < h.time + Config.heldMs then { kelvin := h.code + 223, held := held, judging := some h.code }
      else { kelvin := kelvinRef tref, held := held, judging := none }
    | none => { kelvin := kelvinRef tref, held := held, judging := none }

/-- Stage 3, the cold-equivalent absolute pressure, an exact half rounded up (R77). -/
def coldEquivalent (pabs trk tk : Nat) : Clamped :=
  let q := (2 * pabs * trk + tk) / (2 * tk)
  if 4094 < q then { value := 4094, clamped := true } else { value := q, clamped := false }

/-- Stage 5, the filter accumulator after a cold gauge x (R79). -/
def filterStep (kind : TelKind) (x : Nat) (acc : Option Nat) : Nat :=
  match acc with
  | none => 4 * x
  | some a => if kind = .rapid then 4 * x else a - a / 4 + x

/-- The filtered cold gauge of an accumulator (R79). -/
def filteredOf (acc : Nat) : Nat := (acc + 2) / 4

/-- What a compensated reading is: the record it leaves, whether a clamp occurred (R84, R85), and the judging
temperature handed on (R86). -/
structure Compensated where
  out : PosRec
  clamped : Bool
  judging : Option Nat

/-- The computation of one reading (R72 to R82) on a record, under the Tref setting and the ambient in force. -/
def compensate (tref : Int) (ambient : Nat) (rd : Reading) (r : PosRec) : Compensated :=
  let t := rd.telegram
  let choice := chooseTemp tref t.temp rd.time r.held
  let r1 := { r with
    battery := t.battery
    fault := t.fault || !bearsPressure t
    temp := some t.temp
    held := choice.held
    uncompensated := choice.judging.isNone }
  if bearsPressure t then
    let pabs := calibrate t.pressure rd.offset
    let cabs := coldEquivalent pabs.value (kelvinRef tref) choice.kelvin
    let x := cabs.value - ambient
    let acc := filterStep t.kind x r.acc
    let clamp := pabs.clamped || cabs.clamped
    { out := { r1 with
        cold := some x
        hot := some (pabs.value - ambient)
        acc := some acc
        filtered := some (filteredOf acc)
        saturated := r.saturated || clamp }
      clamped := clamp
      judging := choice.judging }
  else { out := r1, clamped := false, judging := choice.judging }

/-! ## History (chapter 6) -/

/-- The interval length in ms for a setting of L minutes (R90). -/
def intervalMs (minutes : Nat) : Nat := minutes * 60000

/-- The first interval started at a reading, if none runs (R91). -/
def openInterval (minutes time : Nat) (h : History) : History :=
  match h.expiry with
  | some _ => h
  | none => { h with expiry := some (time + intervalMs minutes), sum := 0, count := 0 }

/-- A cold gauge taken into the running interval (R92). -/
def takeCold (x : Option Nat) (h : History) : History :=
  match x with
  | none => h
  | some v => if h.count < 65535 then { h with sum := h.sum + v, count := h.count + 1 } else h

/-- The record of an ended interval: its average rounded to nearest, or EMPTY (R93). -/
def intervalRecord (h : History) : Option Nat := if h.count = 0 then none else some ((h.sum + h.count / 2) / h.count)

/-- A record joined to the ring at its tail, the oldest leaving a full ring first (R94). -/
def ringAppend (x : Option Nat) (ring : List (Option Nat)) : List (Option Nat) :=
  if ring.length < Config.ringCap then ring ++ [x] else ring.drop 1 ++ [x]

/-- The history record after an interval ended at `expiry` (R93 steps 1 to 3, R97). -/
def endInterval (minutes expiry : Nat) (h : History) : History :=
  let ring := ringAppend (intervalRecord h) h.ring
  { expiry := some (expiry + intervalMs minutes), sum := 0, count := 0, ring := ring, leak := leakRate ring minutes }

/-- The interval expiry at p, whose interval ends at `expiry`, with the LEAK verdict (R93, R98). -/
def expireInterval (p : Pos) (expiry : Nat) (s : State) : State :=
  modPos p (fun r =>
    let h := endInterval s.content.settings.intervalLength expiry r.history
    { r with history := h, cond := judgeLeak (mainProfile s p).leakLimit h.leak r.cond }) s

/-! ## The reading (R61) -/

/-- Steps 1 and 2: LIVE, SILENT ended, and the record of the reading (R61, R118). -/
def hearReading (rd : Reading) (r : PosRec) : PosRec :=
  { r with
    state := .live
    cond := if r.state = .silent then clearCond .silent r.cond else r.cond
    lastTime := some rd.time
    lastKind := some rd.telegram.kind
    readings := countUp r.readings
    silence := 0 }

/-- Step 4 on the compensated record (R91, R92). -/
def recordHistory (minutes : Nat) (rd : Reading) (r : PosRec) : PosRec :=
  { r with
    history := takeCold (if bearsPressure rd.telegram then r.cold else none) (openInterval minutes rd.time r.history) }

/-- Step 5 at the position itself: level, HOT, FAULT and BATTERY (R111, R115, R119, R120). -/
def judgeReading (rd : Reading) (judging : Option Nat) (r : PosRec) : PosRec :=
  let t := rd.telegram
  let level := match r.filtered with
    | some f => if bearsPressure t then judgeLevel r.cache t.kind f r.cond else r.cond
    | none => r.cond
  { r with cond := judgeBattery r.battery (judgeFault r.fault (judgeHot r.cache.hotLimit judging level)) }

/-- Step 5 at the position and its partner: TWIN (R116). -/
def judgeTwin (p : Pos) (s : State) : State :=
  match partnerOf s p with
  | none => s
  | some q =>
    if (posRec s q).state = .live then
      match (posRec s p).filtered, (posRec s q).filtered with
      | some fp, some fq =>
        match twinVerdict (posRec s p) (posRec s q) fp fq with
        | .raise => modCond q (raiseCond .twin) (modCond p (raiseCond .twin) s)
        | .clear => modCond q (clearCond .twin) (modCond p (clearCond .twin) s)
        | .keep => s
      | _, _ => s
    else s

/-- The record a reading leaves at its position before TWIN is judged (R61 steps 1 to 5). -/
def readRec (s : State) (rd : Reading) (r : PosRec) : Compensated :=
  let c := compensate s.content.settings.tref s.vehicle.ambient rd (hearReading rd r)
  { c with
    out := judgeReading rd c.judging (recordHistory s.content.settings.intervalLength rd c.out) }

/-- A reading applied to p, steps 1 to 5 of R61 without the frames; a clamp sets the device summary flag (R85). -/
def applyReading (p : Pos) (rd : Reading) (s : State) : State :=
  let c := readRec s rd (posRec s p)
  let s1 := modPos p (fun _ => c.out) s
  judgeTwin p { s1 with mgmt := { s1.mgmt with summary := s1.mgmt.summary || c.clamped } }

end Sys2Proof.Machine
end

