-- ==== Sys2Proof/Machine/Strangers.lean ====
section
/-! DEFINITION. The stranger list: evidence of unknown sensors (R33 to R35) and ageing out (R37), with the meaning of
STRANGER_AGE_OUT. -/

namespace Sys2Proof.Machine

open Sys2Proof

/-- The evidence a duplicate entry hands on (R14). -/
structure Evidence where
  sid : SensorId
  seq : Fin 16
  front : Option Nat
  rear : Option Nat
  telegram : Telegram
  deriving DecidableEq, Repr

/-- The greater of two best RSSI values, where absent yields to present (R10, R33). -/
def bestRssi : Option Nat → Option Nat → Option Nat
  | some a, some b => some (max a b)
  | some a, none => some a
  | none, b => b

/-- Whether motion in force is MOVING (R33, R47). -/
def isMoving (s : State) : Bool := s.vehicle.motion == .moving

/-- A stranger entry updated by evidence delivered now (R33). -/
def heardAgain (now : Nat) (moving : Bool) (ev : Evidence) (x : Stranger) : Stranger :=
  { x with
    last := now
    heard := satSucc 255 x.heard
    moving := if moving then satSucc 255 x.moving else x.moving
    front := bestRssi x.front ev.front
    rear := bestRssi x.rear ev.rear }

/-- A new stranger entry (R34). -/
def newStranger (now : Nat) (moving : Bool) (ev : Evidence) : Stranger :=
  { sid := ev.sid, first := now, last := now, heard := 1, moving := if moving then 1 else 0, front := ev.front
    rear := ev.rear, reported := false }

/-- The lowest heard count on a list. -/
def leastHeard : List Stranger → Nat
  | [] => 0
  | [x] => x.heard
  | x :: rest => min x.heard (leastHeard rest)

/-- The list without the entry of the lowest heard count, the least recently heard among equals (R34). -/
def dropLeastHeard (xs : List Stranger) : List Stranger := xs.eraseP (fun x => x.heard == leastHeard xs)

/-- An update of an entry on the list (R33), with the STRANGER notice at a moving count of 8 (R35). -/
def updateStranger (x : Stranger) (ev : Evidence) (s : State) : State :=
  let y := heardAgain s.time (isMoving s) ev x
  let report := y.moving == Config.strangerMoving && !y.reported
  let rest := s.strangers.entries.filter (fun z => z.sid != ev.sid)
  let s1 := { s with strangers := { s.strangers with entries := rest ++ [{ y with reported := y.reported || report }] } }
  if report then placeService (strangerNotice s.time y) s1 else s1

/-- A new entry appended, room made by a replacement where the list is full (R34). -/
def addStranger (ev : Evidence) (s : State) : State :=
  let x := newStranger s.time (isMoving s) ev
  if s.strangers.entries.length < Config.strangerCap then
    { s with strangers := { s.strangers with entries := s.strangers.entries ++ [x] } }
  else
    { s with strangers :=
        { entries := dropLeastHeard s.strangers.entries ++ [x], replaced := countUp s.strangers.replaced } }

/-- Evidence of an unknown sensor taken by the stranger list (R33, R34). -/
def hearStranger (ev : Evidence) (s : State) : State :=
  match s.strangers.entries.find? (fun x => x.sid == ev.sid) with
  | some x => updateStranger x ev s
  | none => addStranger ev s

/-- Whether a stranger entry is due to age out (R37). -/
def strangerDue (now : Nat) (x : Stranger) : Bool := decide (x.last + Config.strangerAgeMs ≤ now)

/-- STRANGER_AGE_OUT (R37): the entry at the head leaves when it is due. One command takes one entry: entries of one last
heard time leave by as many commands, at one device time (notes/assumptions/26.md). -/
def ageOutHead (s : State) : State :=
  match s.strangers.entries with
  | x :: rest => if strangerDue s.time x then { s with strangers := { s.strangers with entries := rest } } else s
  | [] => s

/-- Meaning of STRANGER_AGE_OUT (R37). -/
def execStrangerAgeOut (s : State) : Result := .next (ageOutHead s)

end Sys2Proof.Machine
end

