-- ==== Sys2Proof/Machine/Walks.lean ====
section
/-! DEFINITION. Learn walks: the visiting order and the advance (R133, R134), plausibility (R137), the binding of the
sensor table and the position (R31, R139), the delivery of evidence (R136, R138, R142) and the end of a walk (R145),
with the meaning of WALK_WINDOW_EXPIRY. -/

namespace Sys2Proof.Machine

open Sys2Proof

/-! ## Visiting order -/

/-- The offset within the block at step k (R133). -/
def visitOffset (o : Order) (start len k : Nat) : Nat :=
  match o with
  | .sequential => (start + k) % len
  | .interleaved => start ^^^ k

/-- The position a walk visits at step k (R133). -/
def visitAt (w : OpenWalk) (k : Nat) : Pos := Fin.ofNat 32 (w.blockStart + visitOffset w.order w.start w.length k)

/-- The first step, from a given one, whose position is fitted (R134). -/
def nextStep (s : State) (w : OpenWalk) (from_ : Nat) : Option Nat :=
  (List.range w.length).find? (fun k => decide (from_ ≤ k) && (geometry s (visitAt w k)).fitted)

/-! ## The end of a walk and its advance -/

/-- A walk ended with a result: the slot CLOSED, its counts and last bound kept, and the WALK END notice placed or
refused (R145). -/
def finishWalk (h : Half) (r : WalkResult) (s : State) : State :=
  placeService (walkEndNotice h r (walkSlot s h)) (modWalk h (fun slot => { slot with walk := none, result := some r }) s)

/-- A walk in a half ended if one is open there. -/
def endWalkIfOpen (h : Half) (r : WalkResult) (s : State) : State := if walkOpen s h then finishWalk h r s else s

/-- The current position found from a step on, its window started now; COMPLETE where none remains (R134, R135). -/
def advanceWalk (h : Half) (w : OpenWalk) (from_ : Nat) (s : State) : State :=
  match nextStep s w from_ with
  | some k =>
    modWalk h (fun slot =>
      { slot with walk := some { w with step := k, current := visitAt w k, expiry := s.time + w.window * 1000 } }) s
  | none => finishWalk h .complete s

/-! ## Judging evidence -/

/-- The near-and-far test of R137. -/
def nearTest (near far : Option Nat) (margin : Nat) : Bool :=
  match near with
  | none => false
  | some n =>
    match far with
    | none => true
    | some f => decide (f ≤ n + margin)

/-- Whether evidence is plausible against an axle record (R137). -/
def plausible (a : AxleRec) (ev : Evidence) : Bool :=
  match a.near with
  | .either => true
  | .front => nearTest ev.front ev.rear a.margin
  | .rear => nearTest ev.rear ev.front a.margin

/-- Whether evidence is plausible at an open walk, on the axle record of its current position as it stands (R137). -/
def plausibleAt (s : State) (w : OpenWalk) (ev : Evidence) : Bool :=
  plausible (pick s.content.axles (axleOf w.current)) ev

/-- Whether evidence repeats the latest binding of a slot's open walk (R136). -/
def repeatsSlot (slot : WalkSlot) (ev : Evidence) : Bool := slot.walk.isSome && slot.lastBound == some (ev.sid, ev.seq)

/-- Whether the open walks judge a piece of evidence (R136). -/
def isJudged (s : State) (ev : Evidence) : Bool :=
  ev.telegram.kind == .learn && !repeatsSlot s.truckWalk ev && !repeatsSlot s.trailerWalk ev

/-! ## Binding -/

/-- What the sensor table reports of a binding (R31): the state, the entry that now holds the sensor, the outcome, and
the old position of the sensor where its set is active. -/
structure TableBinding where
  state : State
  entry : EntryNo
  outcome : BindOutcome
  vacated : Option Pos

/-- Step 1 of R31: the entry of set g at position p, which another sensor holds, made FREE. -/
def displace (g : SetNo) (p : Pos) (s : State) : State :=
  match findPlace s g p with
  | some d => freeEntry d s
  | none => s

/-- Whether step 1 of R31 frees an entry. -/
def displaces (g : SetNo) (p : Pos) (s : State) : Bool := (findPlace s g p).isSome

/-- A walk binding of sensor `sid` into set g at position p (R31); none where the table is full (R141). -/
def bindTable (sid : SensorId) (g : SetNo) (p : Pos) (s : State) : Option TableBinding :=
  match findId s sid with
  | some e =>
    let old := entryAt s e
    if old.set = g ∧ old.pos = p then some { state := s, entry := e, outcome := .confirmed, vacated := none }
    else
      some
        { state := writeEntry e { old with set := g, pos := p } (displace g p s)
          entry := e
          outcome := if displaces g p s then .displaced else .moved
          vacated := if isActive s old.set then some old.pos else none }
  | none =>
    let s1 := displace g p s
    match findFree s1 with
    | some e =>
      some
        { state := dropStranger sid (writeEntry e { valid := true, sid := sid, set := g, pos := p, offset := 0 } s1)
          entry := e
          outcome := if displaces g p s then .displaced else .new
          vacated := none }
    | none => none

/-- Steps 1 to 3 of a binding: the notices of the table, then the carried reading, with the device time of the binding
and the offset of the entry as the binding left it (R139, R88). -/
def bindAndRead (b : TableBinding) (p : Pos) (ev : Evidence) : State :=
  let s1 := match b.vacated with
    | some q => unbindPos q b.state
    | none => b.state
  let s2 := bindPos p b.entry s1
  applyReading p { offset := (entryAt s2 b.entry).offset, telegram := ev.telegram, time := s2.time } s2

/-- Step 5 of a binding: last bound and bound count, then the advance (R139). -/
def countBinding (h : Half) (w : OpenWalk) (ev : Evidence) (s : State) : State :=
  advanceWalk h w (w.step + 1)
    (modWalk h (fun slot => { slot with lastBound := some (ev.sid, ev.seq), bound := slot.bound + 1 }) s)

/-- A binding carried out (R139): one event of the condition unit, then the LEARN notice, then the walk. -/
def carryBinding (h : Half) (w : OpenWalk) (ev : Evidence) (b : TableBinding) (before : State) : State :=
  let s1 := finishEvent before (w.current :: b.vacated.toList) (some w.current) (bindAndRead b w.current ev)
  countBinding h w ev (placeService (learnNotice h w.current ev.sid b.outcome b.entry) s1)

/-! ## Delivery -/

/-- Evidence that binds nothing: to the stranger list if its ID is unknown, else no further (R142). -/
def handOn (ev : Evidence) (s : State) : State := if (findId s ev.sid).isNone then hearStranger ev s else s

/-- Evidence bound at a walk, or the walk ended with TABLE_FULL (R139, R141). -/
def bindAtWalk (h : Half) (w : OpenWalk) (ev : Evidence) (s : State) : State :=
  match bindTable ev.sid w.target w.current s with
  | some b => carryBinding h w ev b s
  | none => handOn ev (finishWalk h .tableFull s)

/-- The implausible count of a walk raised (R138). -/
def countImplausible (h : Half) (s : State) : State :=
  modWalk h (fun slot => { slot with implausible := countUp slot.implausible }) s

/-- The ambiguous count of a walk raised (R138). -/
def countAmbiguous (h : Half) (s : State) : State :=
  modWalk h (fun slot => { slot with ambiguous := countUp slot.ambiguous }) s

/-- Evidence judged at the one open walk (R138). -/
def judgeOne (h : Half) (w : OpenWalk) (ev : Evidence) (s : State) : State :=
  if plausibleAt s w ev then bindAtWalk h w ev s else handOn ev (countImplausible h s)

/-- Evidence judged at two open walks (R138). -/
def judgeTwo (t r : OpenWalk) (ev : Evidence) (s : State) : State :=
  match plausibleAt s t ev, plausibleAt s r ev with
  | true, false => bindAtWalk .truck t ev s
  | false, true => bindAtWalk .trailer r ev s
  | true, true => handOn ev (countAmbiguous .trailer (countAmbiguous .truck s))
  | false, false => handOn ev (countImplausible .trailer (countImplausible .truck s))

/-- Evidence delivered to the learn unit (R14, R136, R138). -/
def deliver (ev : Evidence) (s : State) : State :=
  if isJudged s ev then
    match s.truckWalk.walk, s.trailerWalk.walk with
    | some t, some r => judgeTwo t r ev s
    | some t, none => judgeOne .truck t ev s
    | none, some r => judgeOne .trailer r ev s
    | none, none => handOn ev s
  else handOn ev s

/-- The window of an open walk expires (R135); a window that has time left does not. -/
def expireWindow (h : Half) (s : State) : State :=
  match (walkSlot s h).walk with
  | some w => if w.expiry ≤ s.time then finishWalk h .timeout s else s
  | none => s

/-- Meaning of WALK_WINDOW_EXPIRY (R135). -/
def execWalkWindowExpiry (h : Half) (s : State) : Result := .next (expireWindow h s)

end Sys2Proof.Machine
end

