-- ==== Sys2Proof/Machine/SensorTable.lean ====
section
/-! DEFINITION. The sensor table: the lookup of a forwarded telegram (R22 to R25) and the management writes with their
notices to the position table (R27 to R29). -/

namespace Sys2Proof.Machine

open Sys2Proof

/-! ## Lookup -/

/-- Whether a telegram is a late repeat of an entry's last acceptance (R23). -/
def isLateRepeat (last : Option Accepted) (seq : Fin 16) (arrival : Nat) : Bool :=
  match last with
  | some a => a.seq == seq && decide (arrival < a.time + Config.lateMs)
  | none => false

/-- An accepted telegram: the entry's runtime updated, and the reading taken by the position table (R24, R61). -/
def acceptTelegram (e : EntryNo) (seq : Fin 16) (t : Telegram) (s : State) : State :=
  let x := entryAt s e
  let s1 := { s with table := { s.table with accepted := put s.table.accepted e (some { seq := seq, time := s.time }) } }
  finishEvent s1 [] (some x.pos) (applyReading x.pos { offset := x.offset, telegram := t, time := s1.time } s1)

/-- What the lookup answers: the state, and whether the duplicate entry is to be marked (R11, R22). -/
structure Answer where
  state : State
  mark : Bool

/-- The lookup of a telegram forwarded now as a first copy (R22, R25). -/
def lookup (sid : SensorId) (seq : Fin 16) (t : Telegram) (s : State) : Answer :=
  let learn := t.kind == .learn
  match findId s sid with
  | none => { state := s, mark := true }
  | some e =>
    if !isActive s (entryAt s e).set then
      { state := { s with table := { s.table with inactiveSet := countUp s.table.inactiveSet } }, mark := learn }
    else if isLateRepeat (pick s.table.accepted e) seq s.time then
      { state := { s with table := { s.table with lateRepeat := countUp s.table.lateRepeat } }, mark := learn }
    else if (posRec s (entryAt s e).pos).state = .vacant then
      { state := { s with table := { s.table with unplaced := countUp s.table.unplaced } }, mark := learn }
    else { state := acceptTelegram e seq t s, mark := learn }

/-! ## Management writes -/

/-- Whether a write of `new` at index e clashes with another valid entry (R20, R27). -/
def clashes (s : State) (e : EntryNo) (new : Entry) : Bool :=
  (List.finRange 48).any (fun i =>
    i != e && (entryAt s i).valid &&
      ((entryAt s i).sid == new.sid || ((entryAt s i).set == new.set && (entryAt s i).pos == new.pos)))

/-- The position of an active set that an entry names, if the entry is valid (R28). -/
def activePlace (s : State) (x : Entry) : Option Pos := if x.valid && isActive s x.set then some x.pos else none

/-- The positions told of a write from `old` to `new` (R28): the one that loses its entry, then the one that is bound. -/
structure Notices where
  unbind : Option Pos
  bind : Option Pos

/-- The notices of a write (R28). -/
def noticesOf (s : State) (old new : Entry) : Notices :=
  if old.valid && new.valid && old.set == new.set && old.pos == new.pos then
    if old.sid == new.sid then { unbind := none, bind := none } else { unbind := none, bind := activePlace s new }
  else { unbind := activePlace s old, bind := activePlace s new }

/-- The notices applied, the unbind first (R59). -/
def applyNotices (n : Notices) (e : EntryNo) (s : State) : State :=
  let s1 := match n.unbind with
    | some q => unbindPos q s
    | none => s
  match n.bind with
  | some r => bindPos r e s1
  | none => s1

/-- Entry e replaced, with its notices and the alert frames of the event (R28, R122). -/
def replaceEntry (e : EntryNo) (new : Entry) (s : State) : State :=
  let n := noticesOf s (entryAt s e) new
  finishEvent s (n.unbind.toList ++ n.bind.toList) none (applyNotices n e (dropStranger new.sid (writeEntry e new s)))

/-- WRITE SENSOR ENTRY past its checks (R27). -/
def writeSensor (e : EntryNo) (new : Entry) (s : State) : State :=
  if clashes s e new then reply 0x01 .conflict s else reply 0x01 .done (replaceEntry e new s)

/-- CLEAR SENSOR ENTRY past its checks (R29): a FREE entry stays as it is, and the flag is set either way. -/
def clearSensor (e : EntryNo) (s : State) : State :=
  if (entryAt s e).valid then
    let n : Notices := { unbind := activePlace s (entryAt s e), bind := none }
    reply 0x02 .done (finishEvent s n.unbind.toList none (applyNotices n e (freeEntry e s)))
  else reply 0x02 .done (markChanged s)

end Sys2Proof.Machine
end

