-- ==== Sys2Proof/Machine/Receiver.lean ====
section
/-! DEFINITION. Reception: the receiver ports (R2 to R6), the telegram (R7), and the duplicate list (R9 to R14), with
the meanings of CHARACTER_TAKEN, FRAMING_FAULT, IDLE_TIMER_EXPIRY and DUPLICATE_WINDOW_EXPIRY. -/

namespace Sys2Proof.Machine

open Sys2Proof

/-! ## The duplicate list -/

/-- A telegram handed on by a port (R6, R7): identity and burst beside the fields an entry keeps. -/
structure Copy where
  port : Port
  sid : SensorId
  seq : Fin 16
  rssi : Nat
  telegram : Telegram
  deriving DecidableEq, Repr

/-- Whether an entry holds the burst of a copy (R10). -/
def sameBurst (c : Copy) (e : DupEntry) : Bool := e.sid == c.sid && e.seq == c.seq

/-- A copy merged into an entry: the best RSSI of its port raised, all else unchanged (R10). -/
def mergeCopy (c : Copy) (e : DupEntry) : DupEntry :=
  match c.port with
  | .front => { e with front := bestRssi e.front (some c.rssi) }
  | .rear => { e with rear := bestRssi e.rear (some c.rssi) }

/-- The new entry of a first copy (R11). -/
def newEntry (now : Nat) (c : Copy) : DupEntry :=
  { sid := c.sid, seq := c.seq, firstArrival := now, telegram := c.telegram
    front := if c.port = .front then some c.rssi else none
    rear := if c.port = .rear then some c.rssi else none, flagged := false }

/-- The evidence of an entry (R14). -/
def evidenceOf (e : DupEntry) : Evidence :=
  { sid := e.sid, seq := e.seq, front := e.front, rear := e.rear, telegram := e.telegram }

/-- The entries of the duplicate list replaced. -/
def setDupEntries (xs : List DupEntry) (s : State) : State := { s with dup := { s.dup with entries := xs } }

/-- An entry that has left the list delivers its evidence if it is flagged (R12, R13). -/
def expiryProcessing (e : DupEntry) (s : State) : State := if e.flagged then deliver (evidenceOf e) s else s

/-- The head evicted from a full list, counted, its expiry processing done at once (R12). -/
def evictIfFull (s : State) : State :=
  if s.dup.entries.length < Config.dupCap then s
  else
    match s.dup.entries with
    | [] => s
    | e :: rest => expiryProcessing e { s with dup := { s.dup with entries := rest, evictions := countUp s.dup.evictions } }

/-- A first copy: appended, forwarded to the sensor table, and flagged if the table answers mark (R11). -/
def firstCopy (c : Copy) (s : State) : State :=
  let s1 := setDupEntries (s.dup.entries ++ [newEntry s.time c]) s
  let a := lookup c.sid c.seq c.telegram s1
  if a.mark then
    setDupEntries (a.state.dup.entries.map (fun e => if sameBurst c e then { e with flagged := true } else e)) a.state
  else a.state

/-- A copy taken by the duplicate list (R10, R11). -/
def takeCopy (c : Copy) (s : State) : State :=
  if s.dup.entries.any (sameBurst c) then
    { s with dup :=
        { s.dup with
          entries := s.dup.entries.map (fun e => if sameBurst c e then mergeCopy c e else e)
          merges := countUp s.dup.merges } }
  else firstCopy c (evictIfFull s)

/-- Whether an entry's window has run out (R13). -/
def windowDue (now : Nat) (e : DupEntry) : Bool := decide (e.firstArrival + Config.dupWindowMs ≤ now)

/-- The window of the head entry expires (R13). -/
def expireDupHead (s : State) : State :=
  match s.dup.entries with
  | e :: rest => if windowDue s.time e then expiryProcessing e (setDupEntries rest s) else s
  | [] => s

/-! ## Records and telegrams -/

/-- The logical byte of a record at a place (12.1). -/
def recordByte (bytes : List Byte) (i : Nat) : Byte := bytes.getD i 0

/-- The sensor ID of a record, least significant byte first (12.1). -/
def recordId (bytes : List Byte) : SensorId :=
  recordByte bytes 3 ++ recordByte bytes 2 ++ recordByte bytes 1 ++ recordByte bytes 0

/-- A telegram kind from its code (12.1). -/
def kindOfCode (k : BitVec 2) : TelKind :=
  if k = 0 then .periodic else if k = 1 then .rapid else if k = 2 then .motion else .learn

/-- A good record decoded (R7, 12.1). -/
def decodeRecord (port : Port) (bytes : List Byte) : Copy :=
  let b4 := recordByte bytes 4
  { port := port
    sid := recordId bytes
    seq := Fin.ofNat 16 (b4.extractLsb' 2 4).toNat
    rssi := (recordByte bytes 9).toNat
    telegram :=
      { kind := kindOfCode (b4.extractLsb' 0 2)
        pressure := ((recordByte bytes 6 ++ recordByte bytes 5).extractLsb' 0 12).toNat
        fault := b4.getLsbD 6
        battery := b4.getLsbD 7
        temp := (recordByte bytes 7).toNat } }

/-- Whether a complete record is a good telegram: the check matches and the ID is one a sensor may have (R6). -/
def recordGood (bytes : List Byte) : Bool :=
  crc8 (bytes.take 8) == recordByte bytes 8 && recordId bytes != 0 && recordId bytes != BitVec.allOnes 32

/-- A complete record counted and judged (R6). -/
def judgeRecord (port : Port) (bytes : List Byte) (s : State) : State :=
  let s1 := modPort port (fun p => { p with taken := countUp p.taken }) s
  if recordGood bytes then takeCopy (decodeRecord port bytes) s1
  else modPort port (fun p => { p with badCheck := countUp p.badCheck }) s1

/-! ## The ports -/

/-- The framing state of a port set. -/
def setFraming (port : Port) (f : Framing) (s : State) : State := modPort port (fun p => { p with framing := f }) s

/-- A record broken: bad framing counted, and the framing state that follows (R3, R4, R5). -/
def breakRecord (port : Port) (f : Framing) (s : State) : State :=
  modPort port (fun p => { p with framing := f, badFraming := countUp p.badFraming }) s

/-- COLLECTING with the bytes given and the idle timer restarted now (R3, R5). -/
def collectingNow (s : State) (bytes : List Byte) (escape : Bool) : Framing :=
  .collecting bytes escape (s.time + Config.idleMs)

/-- A logical byte added to the record in progress; the tenth completes it (R3). -/
def addByte (port : Port) (bytes : List Byte) (b : Byte) (s : State) : State :=
  if bytes.length < 9 then setFraming port (collectingNow s (bytes ++ [b]) false) s
  else judgeRecord port (bytes ++ [b]) (setFraming port .hunting s)

/-- A character taken by a port in COLLECTING (R3). -/
def takeCollecting (port : Port) (bytes : List Byte) (escape : Bool) (c : Byte) (s : State) : State :=
  if c = Config.syncChar then
    if bytes = [] then setFraming port (collectingNow s [] false) s
    else breakRecord port (collectingNow s [] false) s
  else if escape then
    if c = 0xC5#8 ∨ c = 0xC6#8 then addByte port bytes (c ^^^ 0x20#8) s else breakRecord port .hunting s
  else if c = Config.escapeChar then setFraming port (collectingNow s bytes true) s
  else addByte port bytes c s

/-- A character taken by a port (R2, R3). -/
def takeChar (port : Port) (c : Byte) (s : State) : State :=
  match (portState s port).framing with
  | .hunting => if c = Config.syncChar then setFraming port (collectingNow s [] false) s else s
  | .collecting bytes escape _ => takeCollecting port bytes escape c s

/-- A character with a framing fault (R4). -/
def takeFramingFault (port : Port) (s : State) : State :=
  match (portState s port).framing with
  | .hunting => s
  | .collecting _ _ _ => breakRecord port .hunting s

/-- The idle timer of a collecting port expires (R5); one that has time left does not. -/
def expireIdle (port : Port) (s : State) : State :=
  match (portState s port).framing with
  | .hunting => s
  | .collecting _ _ due => if due ≤ s.time then breakRecord port .hunting s else s

/-! ## Meanings -/

/-- Meaning of CHARACTER_TAKEN (R2, R3, R6). -/
def execCharacterTaken (port : Port) (c : Byte) (s : State) : Result := .next (takeChar port c s)

/-- Meaning of FRAMING_FAULT (R4). -/
def execFramingFault (port : Port) (s : State) : Result := .next (takeFramingFault port s)

/-- Meaning of IDLE_TIMER_EXPIRY (R5). -/
def execIdleTimerExpiry (port : Port) (s : State) : Result := .next (expireIdle port s)

/-- Meaning of DUPLICATE_WINDOW_EXPIRY (R13). -/
def execDuplicateWindowExpiry (s : State) : Result := .next (expireDupHead s)

end Sys2Proof.Machine
end

