-- ==== Sys2Proof/Machine/VehicleUnit.lean ====
section
/-! DEFINITION. The vehicle state unit (chapter 3): the VEHICLE CONDITION frame, staleness and the announcements, with
the meanings of VEHICLE_CONDITION and STALENESS_EXPIRY. -/

namespace Sys2Proof.Machine

open Sys2Proof

/-- The load state a code names, or the one in force for a code the part cannot use (R40, 12.3). -/
def heldLoad (code : Byte) (inForce : LoadState) : LoadState :=
  if code = 0 then .empty else if code = 1 then .laden else if code = 2 then .tipping else inForce

/-- The trailer set a value names, or the one in force for a value above 3 (R40). -/
def heldSet (v : Byte) (inForce : SetNo) : SetNo := if v.toNat ≤ 3 then Fin.ofNat 4 v.toNat else inForce

/-- The motion a code sets (R41). -/
def motionOf (code : Byte) : Motion := if code = 0 then .stationary else .moving

/-- The ambient pressure a value sets (R42). -/
def clampAmbient (v : Nat) : Nat := max 100 (min v 220)

/-- The axles whose record is liftable, as a mask (R43). -/
def liftableMask (s : State) : BitVec 8 :=
  (List.finRange 8).foldl (fun m a => if (pick s.content.axles a).liftable then m ||| (1#8 <<< a.val) else m) 0#8

/-- The vehicle state with every field of a valid frame in force (R39 steps 1 and 2). -/
def frameValues (load motion : Byte) (ambient : BitVec 16) (lift set : Byte) (s : State) : Vehicle :=
  { load := heldLoad load s.vehicle.load
    motion := motionOf motion
    ambient := clampAmbient ambient.toNat
    lift := lift &&& liftableMask s
    set := heldSet set s.vehicle.set
    stale := false
    staleDue := some (s.time + Config.staleMs) }

/-- The load state announcement (R45, R109). -/
def announceLoad (old : Vehicle) (s : State) : State :=
  if old.load = s.vehicle.load then s else rederiveCaches (fun _ => true) s

/-- The lift mask announcement: the positions on each axle whose membership changed (R45, R109). -/
def announceLift (old : Vehicle) (s : State) : State :=
  rederiveCaches (fun p => (old.lift ^^^ s.vehicle.lift).getLsbD (axleOf p).val) s

/-- The announcement of the attached trailer set: the sensor table keeps its entries, the position table re-derives the
TRAILER half as one event, and then the learn unit ends an open TRAILER walk (R46, R60, R144). -/
def announceSet (old : Vehicle) (before s : State) : State :=
  if old.set = s.vehicle.set then s
  else endWalkIfOpen .trailer .setChanged (finishEvent before trailerPositions none (rederiveTrailer s))

/-- A valid VEHICLE CONDITION frame taken whole (R39): its values in force, then the announcements. Whether a position
counts silence is read from the motion and the lift mask in force, so their change starts and stops the counting, which
ends short of the timeout where the expiry falls together with it (R47, R63, R64). -/
def takeVehicleFrame (load motion : Byte) (ambient : BitVec 16) (lift set : Byte) (s : State) : State :=
  announceSet s.vehicle s
    (announceLift s.vehicle (announceLoad s.vehicle
      (stopSilence s { s with vehicle := frameValues load motion ambient lift set s })))

/-- Whether the staleness timer has run out (R44). -/
def stalenessDue (s : State) : Bool :=
  match s.vehicle.staleDue with
  | some due => !s.vehicle.stale && decide (due ≤ s.time)
  | none => false

/-- The staleness timer expires (R44); one that has time left, or does not run, does not. -/
def expireStaleness (s : State) : State :=
  if stalenessDue s then { s with vehicle := { s.vehicle with stale := true, motion := .moving, staleDue := none } }
  else s

/-- An axle taken out of the lift mask in force, announced (R43, R45). -/
def dropLift (a : AxleNo) (s : State) : State :=
  announceLift s.vehicle { s with vehicle := { s.vehicle with lift := s.vehicle.lift &&& ~~~(1#8 <<< a.val) } }

/-- Meaning of VEHICLE_CONDITION (R39): a frame of another data length is discarded. -/
def execVehicleCondition (len : Nat) (load motion : Byte) (ambient : BitVec 16) (lift set : Byte) (s : State) : Result :=
  .next (if len = 6 then takeVehicleFrame load motion ambient lift set s else s)

/-- Meaning of STALENESS_EXPIRY (R44). -/
def execStalenessExpiry (s : State) : Result := .next (expireStaleness s)

end Sys2Proof.Machine
end

