-- ==== Sys2Proof/Machine/Timers.lean ====
section
/-! DEFINITION. The timers of a position and of a channel, and the acknowledgement: the meanings of SILENCE_EXPIRY,
INTERVAL_EXPIRY, REPEAT_TIMER_EXPIRY, PERIOD_TIMER_EXPIRY, CHANNEL_GRANT and ACK. An expiry commanded while its timer
has time left or does not run is no event, and leaves the state as it is (notes/assumptions/5.md). -/

namespace Sys2Proof.Machine

open Sys2Proof

/-- The silence expiry of p, if it is due (R64). -/
def expireSilence (p : Pos) (s : State) : State := if silenceDue s p then silenceEvent p s else s

/-- Meaning of SILENCE_EXPIRY (R64). -/
def execSilenceExpiry (p : Pos) (s : State) : Result := .next (expireSilence p s)

/-- The interval expiry of p as an event (R93, R122). -/
def endIntervalAt (p : Pos) (s : State) : State :=
  match (posRec s p).history.expiry with
  | some t => if t ≤ s.time then finishEvent s [] none (expireInterval p t s) else s
  | none => s

/-- Meaning of INTERVAL_EXPIRY (R93). -/
def execIntervalExpiry (p : Pos) (s : State) : Result := .next (endIntervalAt p s)

/-- The repeat timer of p reaches its due time: a REPEAT frame, of which the channels are told (R125, R123). -/
def expireRepeat (p : Pos) (s : State) : State :=
  match (posRec s p).cond.repeatDue with
  | some due => if due ≤ s.time then tellChannels [p] none (generateAlert p .repeated s) else s
  | none => s

/-- Meaning of REPEAT_TIMER_EXPIRY (R125). -/
def execRepeatTimerExpiry (p : Pos) (s : State) : Result := .next (expireRepeat p s)

/-- The period timer of channel c reaches its due time: restarted one period later, then a PERIOD trigger (R152). -/
def expirePeriod (c : ChanNo) (s : State) : State :=
  match (chanRun s c).due with
  | some due =>
    if due ≤ s.time then
      let s1 := modChan c (fun r => { r with due := some (due + (chanConfig s c).period * 1000) }) s
      if (chanConfig s c).trigger = .period then trigger c s1 else s1
    else s
  | none => s

/-- Meaning of PERIOD_TIMER_EXPIRY (R152). -/
def execPeriodTimerExpiry (c : ChanNo) (s : State) : Result := .next (expirePeriod c s)

/-- Meaning of CHANNEL_GRANT (R156). -/
def execChannelGrant (s : State) : Result := .next (grantSlot s)

/-! ## Acknowledgement (R128) -/

/-- The items of an ACK (12.3). -/
inductive AckItem where
  | level
  | cond (k : Condition)
  deriving DecidableEq, Repr

/-- The item a code names (12.3). -/
def ackItem (code : Byte) : Option AckItem :=
  match code.toNat with
  | 0 => some .level
  | 1 => some (.cond .hot)
  | 2 => some (.cond .twin)
  | 3 => some (.cond .leak)
  | 4 => some (.cond .silent)
  | 5 => some (.cond .fault)
  | 6 => some (.cond .battery)
  | _ => none

/-- Whether an item is active (R128). -/
def itemActive (c : Cond) : AckItem → Bool
  | .level => c.level != .normal
  | .cond k => condGet c.active k

/-- Whether an item is acknowledged. -/
def itemAcked (c : Cond) : AckItem → Bool
  | .level => c.ackLevel
  | .cond k => condGet c.acked k

/-- An item marked acknowledged. -/
def markAcked (item : AckItem) (c : Cond) : Cond :=
  match item with
  | .level => { c with ackLevel := true }
  | .cond k => { c with acked := condSet c.acked k true }

/-- A running repeat timer slowed after an ACK: where something of severity 2 or 3 is active, every such item is
acknowledged and nothing is owed, it is due 12 repeat periods after the last alert (R128). -/
def slowRepeat (period : Nat) (c : Cond) : Cond :=
  if c.repeatDue.isSome && decide (2 ≤ severity c) && !unansweredSerious c && !c.owed then
    { c with repeatDue := c.lastAlert.map (fun t => t + 12 * period) }
  else c

/-- An ACK taken by the condition record (R128): an item that is not active is ignored, and acknowledging an item that
is already acknowledged changes nothing. -/
def takeAck (period : Nat) (item : AckItem) (c : Cond) : Cond :=
  if itemActive c item && !itemAcked c item then slowRepeat period (markAcked item c) else c

/-- Meaning of ACK (R128): a frame of another length, a position above 31 or an unknown item code is discarded. -/
def execAck (len : Nat) (position item : Byte) (s : State) : Result :=
  .next
    (match ackItem item with
      | some k => if len = 2 ∧ position.toNat < 32 then modCond (Fin.ofNat 32 position.toNat) (takeAck (repeatMs s) k) s else s
      | none => s)

end Sys2Proof.Machine
end

