-- ==== Sys2Proof/Machine/ImageUnit.lean ====
section
/-! DEFINITION. The image store (chapter 11): validity of an image (R171), the completion of a store (R172), and
start-up (R174), with the meanings of STORE_COMPLETION, POWER_ON and RESTART_START_UP. -/

namespace Sys2Proof.Machine

open Sys2Proof

/-! ## The load test (R171) -/

/-- Whether every setting lies in its range (R166). -/
def settingsOk (c : Settings) : Bool :=
  decide (-20 ≤ c.tref) && decide (c.tref ≤ 50) && decide (60 ≤ c.silenceTimeout) && decide (c.silenceTimeout ≤ 1800) &&
    decide (2 ≤ c.repeatPeriod) && decide (c.repeatPeriod ≤ 60) && decide (1 ≤ c.intervalLength) &&
    decide (c.intervalLength ≤ 60) && decide (200 ≤ c.reportLifetime) && decide (c.reportLifetime ≤ 10000) &&
    decide (30 ≤ c.walkWindow) && decide (c.walkWindow ≤ 600) && decide (c.node ≤ 15) && decide (c.protect ≤ 3)

/-- Whether N and the three percentages of a profile lie in their ranges (R104). -/
def profileAOk (nominal low crit high : Nat) : Bool :=
  decide (nominal ≤ 4094) && decide (50 ≤ low) && decide (low ≤ 99) && decide (30 ≤ crit) && decide (crit < low) &&
    decide (101 ≤ high) && decide (high ≤ 150)

/-- Whether the three limits of a profile lie in their ranges (R104, R106). -/
def profileBOk (hot twin leak : Nat) : Bool :=
  (hot == 0 || (decide (40 ≤ hot) && decide (hot ≤ 150))) && decide (twin ≤ 255) && decide (leak ≤ 255)

/-- Whether a profile entry passes the load test: an entry whose N and percentages are all 0 is in range (R171). -/
def profileOk (p : Profile) : Bool :=
  (profileAOk p.nominal p.lowPct p.critPct p.highPct ||
      (p.nominal == 0 && p.lowPct == 0 && p.critPct == 0 && p.highPct == 0)) &&
    profileBOk p.hotLimit p.twinLimit p.leakLimit

/-- Whether a position is one its set allows (R19). -/
def placeOk (g : SetNo) (pos : Nat) : Bool := if g = 0 then decide (pos < 16) else decide (16 ≤ pos ∧ pos < 32)

/-- Whether the stored fields of a valid entry lie in their ranges (R19). -/
def entryOk (x : Entry) : Bool :=
  x.sid != 0 && x.sid != BitVec.allOnes 32 && placeOk x.set x.pos.val && decide (-64 ≤ x.offset) && decide (x.offset ≤ 63)

/-- Whether a channel configuration lies in its ranges (R148). -/
def chanOk (k : ChanConfig) : Bool :=
  decide (k.blockLen ≤ 32) && decide (k.count ≤ 65535) && decide (1 ≤ k.period) && decide (k.period ≤ 255)

/-- Whether two entries of a content clash: both valid, with one ID, or with one set and position (R20). -/
def entriesClash (c : Content) (i j : EntryNo) : Bool :=
  let a := pick c.sensors i
  let b := pick c.sensors j
  a.valid && b.valid && (a.sid == b.sid || (a.set == b.set && a.pos == b.pos))

/-- The load test (R171). The other fields of a FREE entry, which R19 calls meaningful only when the entry is valid, are
not tested, and start-up loads them as they stand (notes/assumptions/24.md). -/
def loadTest (c : Content) : Bool :=
  settingsOk c.settings && (List.finRange 8).all (fun a => decide ((pick c.axles a).margin ≤ 40)) &&
    (List.finRange 24).all (fun i => profileOk (pick c.profiles i)) &&
    (List.finRange 48).all (fun e => !(pick c.sensors e).valid || entryOk (pick c.sensors e)) &&
    (List.finRange 48).all (fun i => (List.finRange 48).all (fun j => i == j || !entriesClash c i j)) &&
    (List.finRange 4).all (fun k => chanOk (pick c.channels k))

/-- Whether an image is valid (R171): not marked invalid, its check holds, and its content passes the load test. -/
def imageValid (i : Image) : Bool :=
  !i.markedInvalid && crc16 (Config.imageBytes i.content) == i.check && loadTest i.content

/-- The image a store that verified leaves: valid, holding the snapshot (R172). -/
def writtenImage (c : Content) : Image :=
  { content := c, check := crc16 (Config.imageBytes c), markedInvalid := false }

/-! ## Store completion (R172) -/

/-- The completion of the store in progress (R172). -/
def completeStore (job : StoreJob) (r : ReadBack) (s : State) : State :=
  let k := s.store.readBacks + 1
  match r with
  | .matches =>
    placeService (storeNotice true)
      { s with store :=
          { s.store with image := writtenImage job.snapshot, job := none, lastOk := some true, readBacks := k } }
  | .differs =>
    placeService (storeNotice false)
      { s with store :=
          { s.store with
            image := { s.store.image with markedInvalid := true }, job := none, lastOk := some false, changed := true
            readBacks := k } }

/-- Meaning of STORE_COMPLETION (R172): without a store in progress there is none to complete. -/
def execStoreCompletion (r : ReadBack) (s : State) : Result :=
  .next
    (match s.store.job with
      | some job => completeStore job r s
      | none => s)

/-! ## Start-up (R174) -/

/-- The content start-up loads: the image's if it is valid, the unconfigured content otherwise (R174 step 2). -/
def loadedContent (i : Image) : Content := if imageValid i then i.content else Content.unconfigured

/-- Step 1 and the content of step 2, with the node number in force of step 3: the image, the waiting commands and the
model's number of read-backs are all that is kept. -/
def startUpBase (s : State) : State :=
  { State.reset with
    content := loadedContent s.store.image
    tx := TxQueue.empty
    mgmt := { State.reset.mgmt with nodeInForce := (loadedContent s.store.image).settings.node }
    store :=
      { State.reset.store with
        image := s.store.image, configured := imageValid s.store.image, readBacks := s.store.readBacks }
    pending := s.pending }

/-- The state and binding of a position at start-up (R56), with its threshold cache (R108). -/
def startPosition (s : State) (p : Pos) : State :=
  modPos p (fun r =>
    let e := if (geometry s p).fitted then entryFor s p else none
    { r with
      state := if (geometry s p).fitted then (if e.isSome then .waiting else .unbound) else .vacant
      bound := e
      cache := cacheFor s p }) s

/-- A channel marked start at power-up started (R150, R174 step 4). -/
def startIfMarked (s : State) (c : ChanNo) : State := if (chanConfig s c).powerUp then loadChannel c s else s

/-- Start-up (R174). -/
def startUp (s : State) : State :=
  placeService (startupNotice (imageValid s.store.image))
    ((List.finRange 4).foldl startIfMarked ((List.finRange 32).foldl startPosition (startUpBase s)))

/-- Meaning of POWER_ON (R174, R173). -/
def execPowerOn (s : State) : Result := .next (startUp s)

/-- Start-up taken where it is due: at a pending restart whose reply is no longer in the queue (R170). -/
def startIfDue (s : State) : State := if restartDue s then startUp s else s

/-- Meaning of RESTART_START_UP (R170): start-up where it is due. The event that makes it due takes it already, so no run
comes to a state where it is (notes/assumptions/8.md). -/
def execRestartStartUp (s : State) : Result := .next (startIfDue s)

end Sys2Proof.Machine
end

