-- ==== Sys2Proof/Machine/Link.lean ====
section
/-! DEFINITION. The link port (R159, R160): the head of the queue taken, a frame sent, bus-off and recovery, and a
pending node number coming into force (R167). -/

namespace Sys2Proof.Machine

open Sys2Proof

/-- Whether the link holds an offered frame (R159). -/
def linkHolds (s : State) : Bool := s.tx.frames.any (fun f => f.offered.isSome)

/-- Whether the queue takes its head: the link is not bus-off and holds no frame (R159), and no start-up is due that
would empty the queue (R170). -/
def linkReady (s : State) : Bool := !s.tx.busOff && !linkHolds s && !restartDue s

/-- The frames of the queue replaced. -/
def setFrames (fs : List Frame) (s : State) : State := { s with tx := { s.tx with frames := fs } }

/-- Whether a frame at the head is a REPORT frame older than the report lifetime (R159). -/
def isStale (s : State) (f : Frame) : Bool :=
  f.cls == .report && decide (s.content.settings.reportLifetime < s.time - f.entry)

/-- The slot of a frame that has left the queue: granted at once, or left for the placement that is taken first
(R156). -/
def slotFreed (race : SlotRace) (s : State) : State :=
  match race with
  | .grantFirst => grantSlot s
  | .placementFirst => s

/-- The head offered to the link, under the identifier of the node number in force at this moment (R159, R167). -/
def offerHead (f : Frame) (rest : List Frame) (s : State) : State :=
  setFrames ({ f with offered := some (frameIdent f.cls (nodeNow s)) } :: rest) s

/-- The head taken: stale REPORT frames discarded one after the other, each freeing its slot, until a head is offered
or the queue is empty (R159). A frame placed by a grant has age 0, so the rounds are as many as the frames held. That the
one operand settles the order of R156 for every slot the event frees is a DESIGN CHOICE, unsafe (notes/assumptions/29.md). -/
def takeHead (race : SlotRace) : Nat → State → State
  | 0, s => s
  | n + 1, s =>
    match s.tx.frames with
    | [] => s
    | f :: rest =>
      if isStale s f then
        takeHead race n
          (slotFreed race { s with tx := { s.tx with frames := rest, staleDiscards := countUp s.tx.staleDiscards } })
      else offerHead f rest s

/-- The queue takes its head if the link is ready for it (R159). -/
def queueStep (race : SlotRace) (s : State) : State :=
  if linkReady s then takeHead race (s.tx.frames.length + 1) s else s

/-- Meaning of QUEUE_TAKES_HEAD (R159). -/
def execQueueTakesHead (race : SlotRace) (s : State) : Result := .next (queueStep race s)

/-- The queue without its offered frame. -/
def dropOffered (fs : List Frame) : List Frame := fs.eraseP (fun f => f.offered.isSome)

/-- The offered frame leaves the queue: its slot frees, and the queue takes its next head (R159, R156). -/
def frameLeaves (race : SlotRace) (s : State) : State :=
  queueStep race (slotFreed race (setFrames (dropOffered s.tx.frames) s))

/-- The link reports the offered frame sent: it leaves the queue (R159), and where it is the reply that a pending restart
waits for, the start-up begins (R170). -/
def sendFrame (race : SlotRace) (s : State) : State :=
  if linkHolds s then startIfDue (frameLeaves race s) else s

/-- Meaning of FRAME_SENT (R159): a report while no frame is offered is no event (notes/assumptions/5.md). -/
def execFrameSent (race : SlotRace) (s : State) : Result := .next (sendFrame race s)

/-- The link enters bus-off: the offered frame loses its mark and stays in its place (R160). -/
def enterBusOff (s : State) : State :=
  { s with tx := { s.tx with frames := s.tx.frames.map (fun f => { f with offered := none }), busOff := true } }

/-- Meaning of BUS_OFF (R160). -/
def execBusOff (s : State) : Result := .next (enterBusOff s)

/-- The link recovers, and the queue takes its head (R160). -/
def leaveBusOff (race : SlotRace) (s : State) : State :=
  if s.tx.busOff then queueStep race { s with tx := { s.tx with busOff := false } } else s

/-- Meaning of BUS_OFF_RECOVERY (R160). -/
def execBusOffRecovery (race : SlotRace) (s : State) : Result := .next (leaveBusOff race s)

/-- Meaning of NODE_NUMBER_IN_FORCE (R167): the pending value comes into force once its reply has been sent or
refused. -/
def execNodeNumberInForce (s : State) : Result := .next (settleNode s)

/-- Meaning of DISCARDED_FRAME (R175, R162): no state changes and nothing is counted. -/
def execDiscardedFrame (_ : CanFrame) (s : State) : Result := .next s

end Sys2Proof.Machine
end

