-- ==== Sys2Proof/Machine/Operands.lean ====
section
/-! DEFINITION. The operands of management requests: the codes that arguments carry (12.5.1), their ranges (R163
check 2), and the gate every request passes before it reaches its owner (R162 to R164). -/

namespace Sys2Proof.Machine

open Sys2Proof

/-! ## Codes of arguments (12.5.1) -/

/-- A position named by a byte, 0 to 31. -/
def posArg (b : Byte) : Option Pos := if h : b.toNat < 32 then some ⟨b.toNat, h⟩ else none

/-- A sensor-table index named by a byte, 0 to 47. -/
def entryArg (b : Byte) : Option EntryNo := if h : b.toNat < 48 then some ⟨b.toNat, h⟩ else none

/-- A global axle named by a byte, 0 to 7. -/
def axleArg (b : Byte) : Option AxleNo := if h : b.toNat < 8 then some ⟨b.toNat, h⟩ else none

/-- A channel named by a byte, 0 to 3. -/
def chanArg (b : Byte) : Option ChanNo := if h : b.toNat < 4 then some ⟨b.toNat, h⟩ else none

/-- A half named by a byte: 0 TRUCK, 1 TRAILER (R143, R146). -/
def halfArg (b : Byte) : Option Half :=
  match b.toNat with
  | 0 => some .truck
  | 1 => some .trailer
  | _ => none

/-- The half a bit of OPEN WALK names: 0 TRUCK. -/
def halfBit (b : Bool) : Half := if b then .trailer else .truck

/-- The order a bit of OPEN WALK names: 0 SEQUENTIAL, 1 INTERLEAVED (DEDUCED, unsafe: notes/assumptions/22.md). -/
def orderBit (b : Bool) : Order := if b then .interleaved else .sequential

/-- The length a code of OPEN WALK names: 0 to 4 for 1, 2, 4, 8, 16. -/
def lengthArg (b : BitVec 3) : Option Nat := if b.toNat ≤ 4 then some (2 ^ b.toNat) else none

/-- A load state code: 0 EMPTY, 1 LADEN, 2 TIPPING. -/
def loadArg (b : BitVec 2) : Option LoadState :=
  match b.toNat with
  | 0 => some .empty
  | 1 => some .laden
  | 2 => some .tipping
  | _ => none

/-- A near receiver code: 0 FRONT, 1 REAR, 2 EITHER. -/
def nearArg (b : BitVec 2) : Option Near :=
  match b.toNat with
  | 0 => some .front
  | 1 => some .rear
  | 2 => some .either
  | _ => none

/-- A trigger code: 0 SAMPLE, 1 PERIOD, 2 ALERT, 3 REQUEST. -/
def triggerArg (b : BitVec 2) : Trigger :=
  match b.toNat with
  | 0 => .sample
  | 1 => .period
  | 2 => .alert
  | _ => .request

/-- A mode code: 0 SINGLE, 1 RUN, 2 BLOCK. -/
def modeArg (b : BitVec 2) : Option Mode :=
  match b.toNat with
  | 0 => some .single
  | 1 => some .run
  | 2 => some .block
  | _ => none

/-- A step code: 0 HOLD, 1 UP, 2 DOWN, 3 UP_RETURN. -/
def stepArg (b : BitVec 2) : PtrStep :=
  match b.toNat with
  | 0 => .hold
  | 1 => .up
  | 2 => .down
  | _ => .upReturn

/-! ## Arguments with their ranges -/

/-- The entry a WRITE SENSOR ENTRY asks for, if its fields lie in the ranges of R19. -/
def sensorArg (sid : SensorId) (pos : BitVec 6) (set : BitVec 2) (offset : Byte) : Option Entry :=
  let x : Entry :=
    { valid := true, sid := sid, set := Fin.ofNat 4 set.toNat, pos := Fin.ofNat 32 pos.toNat, offset := offset.toInt }
  if pos.toNat < 32 ∧ entryOk x then some x else none

/-- The axle record a WRITE AXLE asks for (R50). -/
def axleRecArg (near : BitVec 2) (margin : BitVec 6) (liftable : Bool) : Option AxleRec :=
  match nearArg near with
  | some n => if margin.toNat ≤ 40 then some { near := n, margin := margin.toNat, liftable := liftable } else none
  | none => none

/-- The start place and count of a READ HISTORY lie in their ranges (R101). -/
def historyArgsOk (start count : BitVec 4) : Bool := decide (start.toNat ≤ 7) && decide (1 ≤ count.toNat ∧ count.toNat ≤ 8)

/-- What an OPEN WALK asks for, its ranges checked (R131 step 1). A `window` of 0 stands for the setting. -/
structure WalkArgs where
  start : Pos
  half : Half
  order : Order
  length : Nat
  target : SetNo
  window : Nat
  deriving DecidableEq, Repr

/-- The ranges of OPEN WALK (R131 step 1). -/
def walkArgs (start : Byte) (half order : Bool) (code : BitVec 3) (target : BitVec 2) (window : BitVec 10) :
    Option WalkArgs :=
  match posArg start, lengthArg code with
  | some p, some len =>
    if halfOf p = halfBit half ∧ (window.toNat = 0 ∨ 30 ≤ window.toNat ∧ window.toNat ≤ 600) then
      some { start := p, half := halfBit half, order := orderBit order, length := len,
             target := Fin.ofNat 4 target.toNat, window := window.toNat }
    else none
  | _, _ => none

/-- A value of a setting whose range is low to high (R166). -/
def rangeArg (low high : Nat) (v : BitVec 16) : Option Nat :=
  if low ≤ v.toNat ∧ v.toNat ≤ high then some v.toNat else none

/-- The value of the reference temperature, signed, −20 to +50 (R166). -/
def trefArg (v : BitVec 16) : Option Int := if -20 ≤ v.toInt ∧ v.toInt ≤ 50 then some v.toInt else none

/-! ## The gate (R162 to R164) -/

/-- Which requests a protect level and a store in progress lock (R164): the lowest level that locks it, if any, and
whether a store does. -/
structure Lock where
  level : Option Nat
  store : Bool
  deriving DecidableEq, Repr

/-- WRITE POSITION, WRITE AXLE, WRITE PROFILE A and WRITE PROFILE B (R164). -/
def lockTables : Lock := { level := some 1, store := true }
/-- WRITE SENSOR ENTRY and CLEAR SENSOR ENTRY (R164). -/
def lockSensors : Lock := { level := some 2, store := true }
/-- OPEN WALK (R164). -/
def lockWalk : Lock := { level := some 2, store := false }
/-- WRITE SETTING of a setting other than the protect level, CONFIGURE CHANNEL A and B (R164). -/
def lockSettings : Lock := { level := some 3, store := true }
/-- STORE and RESTART (R164). -/
def lockStore : Lock := { level := none, store := true }
/-- All other requests, and WRITE SETTING of the protect level (R164). -/
def lockNone : Lock := { level := none, store := false }

/-- Whether the protect level in force locks a request (R164). -/
def protectLocks (l : Lock) (s : State) : Bool :=
  match l.level with
  | some n => decide (n ≤ s.content.settings.protect)
  | none => false

/-- Whether a store in progress locks a request (R164). -/
def storeLocks (l : Lock) (s : State) : Bool := l.store && s.store.job.isSome

/-- A request taken by the management unit: discarded while a restart is pending (R162), refused by the first check
that fails (R163), or handed to its owner with its arguments. `args` is absent where the length is wrong or an
argument lies out of its range. -/
def serve {α : Type} (kind : Byte) (l : Lock) (args : Option α) (owner : α → State → State) (s : State) : State :=
  if s.mgmt.restartPending then s
  else
    match args with
    | none => reply kind .badArgument s
    | some a =>
      if protectLocks l s then reply kind .locked s
      else if storeLocks l s then reply kind .busy s
      else owner a s

/-- Two arguments, both in range. -/
def both {α β : Type} (a : Option α) (b : Option β) : Option (α × β) :=
  match a, b with
  | some x, some y => some (x, y)
  | _, _ => none

/-- Arguments under the frame length their kind requires (R163 check 2). -/
def ofLength {α : Type} (len required : Nat) (args : Option α) : Option α := if len = required then args else none

end Sys2Proof.Machine
end

