-- ==== Sys2Proof/Machine/ChannelRequests.lean ====
section
/-! DEFINITION. The requests that reach the report channels: configuration (R148), START, STOP and TRIGGER CHANNEL
(R150 to R152) and CHANNEL STATUS (R161). -/

namespace Sys2Proof.Machine

open Sys2Proof

/-- Whether a channel is at work, so that it is neither configured nor started (R148, R150). -/
def channelActive (s : State) (c : ChanNo) : Bool :=
  match (chanRun s c).state with
  | .idle | .ended => false
  | .armed | .running | .waiting => true

/-- A channel's configuration changed; the write sets the changed-since-snapshot flag (R148). -/
def modConfig (c : ChanNo) (f : ChanConfig → ChanConfig) (s : State) : State :=
  markChanged { s with content := { s.content with channels := put s.content.channels c (f (chanConfig s c)) } }

/-- CONFIGURE CHANNEL past its checks (R148). -/
def configure (kind : Byte) (c : ChanNo) (f : ChanConfig → ChanConfig) (s : State) : State :=
  if channelActive s c then reply kind .channelActive s else reply kind .done (modConfig c f s)

/-- The fields of CONFIGURE CHANNEL A, ranges checked (R148). -/
def configAArg (trigger mode step : BitVec 2) (start : BitVec 5) (blockLen : BitVec 6) :
    Option (ChanConfig → ChanConfig) :=
  match modeArg mode with
  | some m =>
    if blockLen.toNat ≤ 32 then
      some (fun k =>
        { k with
          trigger := triggerArg trigger, mode := m, step := stepArg step, start := Fin.ofNat 32 start.toNat
          blockLen := blockLen.toNat })
    else none
  | none => none

/-- Meaning of CONFIGURE_CHANNEL_A (R148). -/
def execConfigureChannelA (len : Nat) (channel : Byte) (trigger mode step : BitVec 2) (start : BitVec 5)
    (blockLen : BitVec 6) (s : State) : Result :=
  .next
    (serve 0x0E lockSettings (ofLength len 5 (both (chanArg channel) (configAArg trigger mode step start blockLen)))
      (fun a => configure 0x0E a.1 a.2) s)

/-- Meaning of CONFIGURE_CHANNEL_B (R148): a period of 0 is out of range. -/
def execConfigureChannelB (len : Nat) (channel : Byte) (count : BitVec 16) (period : Byte)
    (skipVacant cyclic powerUp : Bool) (s : State) : Result :=
  .next
    (serve 0x0F lockSettings (ofLength len 6 (if period = 0 then none else chanArg channel))
      (fun c => configure 0x0F c (fun k =>
        { k with
          count := count.toNat, period := period.toNat, skipVacant := skipVacant, cyclic := cyclic
          powerUp := powerUp })) s)

/-- START CHANNEL past its checks (R150). -/
def startChan (c : ChanNo) (s : State) : State :=
  if channelActive s c then reply 0x10 .channelActive s else reply 0x10 .done (loadChannel c s)

/-- Meaning of START_CHANNEL (R150). -/
def execStartChannel (len : Nat) (channel : Byte) (s : State) : Result :=
  .next (serve 0x10 lockNone (ofLength len 2 (chanArg channel)) startChan s)

/-- A channel stopped (R151). -/
def stopped (r : ChanRun) : ChanRun := { r with state := .idle, job := false, pendingTrigger := false, due := none }

/-- Meaning of STOP_CHANNEL (R151). -/
def execStopChannel (len : Nat) (channel : Byte) (s : State) : Result :=
  .next (serve 0x11 lockNone (ofLength len 2 (chanArg channel)) (fun c s => reply 0x11 .done (modChan c stopped s)) s)

/-- Meaning of TRIGGER_CHANNEL (R152): the reply comes before any frame the trigger causes. -/
def execTriggerChannel (len : Nat) (channel : Byte) (s : State) : Result :=
  .next (serve 0x12 lockNone (ofLength len 2 (chanArg channel)) (fun c s => trigger c (reply 0x12 .done s)) s)

/-- Meaning of CHANNEL_STATUS (R161). -/
def execChannelStatus (len : Nat) (channel : Byte) (s : State) : Result :=
  .next
    (serve 0x13 lockNone (ofLength len 2 (chanArg channel)) (fun c s => placeService (channelStatusReply s c) s) s)

end Sys2Proof.Machine
end

