-- ==== Sys2Proof/Machine/SettingRequests.lean ====
section
/-! DEFINITION. The requests the management unit and the image store serve themselves: the device settings (R165 to
R167), diagnostics (R168), STATUS (R169), STORE (R172), RESTART (R170) and a request of no kind (R163). -/

namespace Sys2Proof.Machine

open Sys2Proof

/-! ## Settings (R166) -/

/-- A setting written; the write sets the changed-since-snapshot flag (R166). -/
def modSettings (f : Settings → Settings) (s : State) : State :=
  markChanged { s with content := { s.content with settings := f s.content.settings } }

/-- A setting replaced and the request answered DONE. -/
def setAndReply (f : Settings → Settings) (s : State) : State := reply 0x14 .done (modSettings f s)

/-- Meaning of WRITE_SETTING_TREF (R71). -/
def execWriteSettingTref (len : Nat) (value : BitVec 16) (s : State) : Result :=
  .next
    (serve 0x14 lockSettings (ofLength len 4 (trefArg value)) (fun v => setAndReply (fun c => { c with tref := v })) s)

/-- The position reaches its silence expiry at the write if it has counted to the timeout now in force (R65). -/
def silenceAtWrite (s : State) (p : Pos) : State := if silenceReached s p then silenceEvent p s else s

/-- The silence timeout written. A write that changes it makes the positions that have reached the new one SILENT in
ascending order (R65), each in a silence expiry, an event of its own (R118), taken whole before that of the next position
(notes/assumptions/28.md); a write of the value held does not (notes/assumptions/18.md). -/
def writeSilence (v : Nat) (s : State) : State :=
  let s1 := modSettings (fun c => { c with silenceTimeout := v }) s
  reply 0x14 .done
    (if v = s.content.settings.silenceTimeout then s1
    else (List.finRange 32).foldl silenceAtWrite s1)

/-- Meaning of WRITE_SETTING_SILENCE_TIMEOUT (R65). -/
def execWriteSettingSilenceTimeout (len : Nat) (value : BitVec 16) (s : State) : Result :=
  .next (serve 0x14 lockSettings (ofLength len 4 (rangeArg 60 1800 value)) writeSilence s)

/-- Meaning of WRITE_SETTING_REPEAT_PERIOD (R124). -/
def execWriteSettingRepeatPeriod (len : Nat) (value : BitVec 16) (s : State) : Result :=
  .next
    (serve 0x14 lockSettings (ofLength len 4 (rangeArg 2 60 value))
      (fun v => setAndReply (fun c => { c with repeatPeriod := v })) s)

/-- Meaning of WRITE_SETTING_INTERVAL_LENGTH (R90). -/
def execWriteSettingIntervalLength (len : Nat) (value : BitVec 16) (s : State) : Result :=
  .next
    (serve 0x14 lockSettings (ofLength len 4 (rangeArg 1 60 value))
      (fun v => setAndReply (fun c => { c with intervalLength := v })) s)

/-- Meaning of WRITE_SETTING_REPORT_LIFETIME (R159). -/
def execWriteSettingReportLifetime (len : Nat) (value : BitVec 16) (s : State) : Result :=
  .next
    (serve 0x14 lockSettings (ofLength len 4 (rangeArg 200 10000 value))
      (fun v => setAndReply (fun c => { c with reportLifetime := v })) s)

/-- Meaning of WRITE_SETTING_WALK_WINDOW (R130). -/
def execWriteSettingWalkWindow (len : Nat) (value : BitVec 16) (s : State) : Result :=
  .next
    (serve 0x14 lockSettings (ofLength len 4 (rangeArg 30 600 value))
      (fun v => setAndReply (fun c => { c with walkWindow := v })) s)

/-- A reply that something waits for placed or refused (R167). -/
def replyAwaited (kind : Byte) (a : Await) (s : State) : State :=
  { s with tx := (offerFrame (newFrame s .service (.reply kind .done) (some a)) s.tx).tx }

/-- An earlier reply no longer waited for (R167): the later write waits for its own reply. -/
def forget (a : Await) (f : Frame) : Frame := if f.awaited = some a then { f with awaited := none } else f

/-- The frames of the queue with no reply that a node number waits for. -/
def forgetNode (s : State) : State := { s with tx := { s.tx with frames := s.tx.frames.map (forget .node) } }

/-- The node number written: the setting at once, the value in force once its reply is sent, or at once if the queue
refused it (R167). -/
def writeNode (v : Nat) (s : State) : State :=
  let s1 := modSettings (fun c => { c with node := v }) (forgetNode (settleNode s))
  settleNode (replyAwaited 0x14 .node { s1 with mgmt := { s1.mgmt with nodePending := some v } })

/-- Meaning of WRITE_SETTING_NODE_NUMBER (R167). -/
def execWriteSettingNodeNumber (len : Nat) (value : BitVec 16) (s : State) : Result :=
  .next (serve 0x14 lockSettings (ofLength len 4 (rangeArg 0 15 value)) writeNode s)

/-- The protect level written; it is lowered only while the vehicle is known to be standing (R165). -/
def writeProtect (v : Nat) (s : State) : State :=
  if v < s.content.settings.protect ∧ (s.vehicle.motion ≠ .stationary ∨ s.vehicle.stale) then reply 0x14 .moving s
  else setAndReply (fun c => { c with protect := v }) s

/-- Meaning of WRITE_SETTING_PROTECT_LEVEL (R165). -/
def execWriteSettingProtectLevel (len : Nat) (value : BitVec 16) (s : State) : Result :=
  .next (serve 0x14 lockNone (ofLength len 4 (rangeArg 0 3 value)) writeProtect s)

/-- Meaning of READ_SETTINGS (R166): six frames. -/
def execReadSettings (len : Nat) (s : State) : Result :=
  .next (serve 0x15 lockNone (ofLength len 1 (some ())) (fun _ s => placeAll (settingsReply s) s) s)

/-! ## Diagnostics (R168) and STATUS (R169) -/

/-- The counts of a port cleared (R168, R1). -/
def clearPort (x : PortState) : PortState := { x with taken := 0, badCheck := 0, badFraming := 0 }

/-- Every diagnostic count, the summary flag and the saturated flags cleared (R168). -/
def clearCounts (s : State) : State :=
  { s with
    frontPort := clearPort s.frontPort
    rearPort := clearPort s.rearPort
    dup := { s.dup with merges := 0, evictions := 0 }
    table := { s.table with inactiveSet := 0, lateRepeat := 0, unplaced := 0 }
    strangers := { s.strangers with replaced := 0 }
    tx := { s.tx with reportEvictions := 0, staleDiscards := 0, refusedAlerts := 0, lostService := 0 }
    chan := s.chan.map (fun r => { r with overrun := 0 })
    mgmt := { s.mgmt with summary := false }
    pos := s.pos.map (fun r => { r with saturated := false }) }

/-- Meaning of CLEAR_DIAGNOSTICS (R168). -/
def execClearDiagnostics (len : Nat) (s : State) : Result :=
  .next (serve 0x16 lockNone (ofLength len 1 (some ())) (fun _ s => reply 0x16 .done (clearCounts s)) s)

/-- Meaning of READ_COUNTERS (R168): six frames, built before any of them is placed. -/
def execReadCounters (len : Nat) (s : State) : Result :=
  .next (serve 0x17 lockNone (ofLength len 1 (some ())) (fun _ s => placeAll (countersReply s) s) s)

/-- Meaning of STATUS (R169). -/
def execStatus (len : Nat) (s : State) : Result :=
  .next (serve 0x18 lockNone (ofLength len 1 (some ())) (fun _ s => placeService (statusReply s) s) s)

/-! ## STORE (R172) and RESTART (R170) -/

/-- A store begun: snapshot taken, flag cleared, image marked invalid, the write in progress (R172 steps 1 to 4). -/
def beginStore (s : State) : State :=
  { s with store :=
      { s.store with
        job := some { snapshot := s.content, latest := s.time + Config.storeMs }
        changed := false
        image := { s.store.image with markedInvalid := true } } }

/-- Meaning of STORE (R172). -/
def execStore (len : Nat) (s : State) : Result :=
  .next (serve 0x19 lockStore (ofLength len 1 (some ())) (fun _ s => reply 0x19 .done (beginStore s)) s)

/-- A restart made pending behind its reply, or start-up at once where the queue refuses the reply (R170). -/
def beginRestart (s : State) : State :=
  let out := offerFrame (newFrame s .service (.reply 0x1A .done) (some .restart)) s.tx
  if out.placed then { s with tx := out.tx, mgmt := { s.mgmt with restartPending := true } } else startUp s

/-- Meaning of RESTART (R170). -/
def execRestart (len : Nat) (s : State) : Result :=
  .next (serve 0x1A lockStore (ofLength len 1 (some ())) (fun _ => beginRestart) s)

/-! ## Requests of no kind (R163) -/

/-- Whether a request kind is one of section 10.2 (12.5.1). -/
def kindKnown (kind : Byte) : Bool := decide (1 ≤ kind.toNat ∧ kind.toNat ≤ 0x1A)

/-- Meaning of UNKNOWN_REQUEST (R163): UNKNOWN, or BAD_ARGUMENT for a WRITE SETTING whose code names no setting
(notes/assumptions/14.md). -/
def execUnknownRequest (kind : Byte) (s : State) : Result :=
  .next
    (if s.mgmt.restartPending then s
    else if kindKnown kind then reply kind .badArgument s
    else reply kind .unknown s)

end Sys2Proof.Machine
end

