-- ==== Sys2Proof/Machine/TableRequests.lean ====
section
/-! DEFINITION. The requests that reach the sensor table, the position table, the history unit and the condition unit:
their owners' effects past the gate, and their meanings. -/

namespace Sys2Proof.Machine

open Sys2Proof

/-! ## Sensor table (R27, R29) -/

/-- Meaning of WRITE_SENSOR_ENTRY (R27). -/
def execWriteSensorEntry (len : Nat) (index : Byte) (sid : SensorId) (pos : BitVec 6) (set : BitVec 2) (offset : Byte)
    (s : State) : Result :=
  .next
    (serve 0x01 lockSensors (ofLength len 8 (both (entryArg index) (sensorArg sid pos set offset)))
      (fun a => writeSensor a.1 a.2) s)

/-- Meaning of CLEAR_SENSOR_ENTRY (R29). -/
def execClearSensorEntry (len : Nat) (index : Byte) (s : State) : Result :=
  .next (serve 0x02 lockSensors (ofLength len 2 (entryArg index)) clearSensor s)

/-- Meaning of READ_SENSOR_ENTRY (R29). -/
def execReadSensorEntry (len : Nat) (index : Byte) (s : State) : Result :=
  .next (serve 0x03 lockNone (ofLength len 2 (entryArg index)) (fun e s => placeService (sensorEntryReply s e) s) s)

/-! ## Position table (R52 to R54, R67, R68) -/

/-- A geometry record written (R49). -/
def putGeometry (p : Pos) (g : Geometry) (s : State) : State :=
  { s with content := { s.content with geometry := put s.content.geometry p g } }

/-- Steps 1 and 2 of R53: the position made VACANT, or WAITING or UNBOUND. `old` and `partner` are its geometry and its
partner before the write. -/
def refit (p : Pos) (old new : Geometry) (partner : Option Pos) (s : State) : State :=
  if old.fitted && !new.fitted then
    setBinding p .vacant none (if hasBinding (posRec s p).state then clearRuntime p partner s else s)
  else if !old.fitted && new.fitted then
    match entryFor s p with
    | some e => setBinding p .waiting (some e) s
    | none => setBinding p .unbound none s
  else s

/-- The geometry of p replaced with everything that follows from the change, in the order of R53. -/
def regeometry (p : Pos) (new : Geometry) (s : State) : State :=
  let old := geometry s p
  let s1 := refit p old new (partnerOf s p) (markChanged (putGeometry p new s))
  if old.cls = new.cls then s1 else rederiveCache s1 p

/-- The position whose runtime a WRITE POSITION clears: the one it makes VACANT (R53 step 1). -/
def unfitted (p : Pos) (old new : Geometry) : List Pos := if old.fitted && !new.fitted then [p] else []

/-- WRITE POSITION past its checks (R52, R53). -/
def writePos (p : Pos) (new : Geometry) (s : State) : State :=
  if walkOpen s (halfOf p) then reply 0x04 .walkOpen s
  else reply 0x04 .done (finishEvent s (unfitted p (geometry s p) new) none (regeometry p new s))

/-- Meaning of WRITE_POSITION (R53). -/
def execWritePosition (len : Nat) (position : Byte) (fitted : Bool) (cls : BitVec 3) (s : State) : Result :=
  .next
    (serve 0x04 lockTables (ofLength len 3 (posArg position))
      (fun p => writePos p { fitted := fitted, cls := Fin.ofNat 8 cls.toNat }) s)

/-- The half an axle lies in (section 2.5). -/
def halfOfAxle (a : AxleNo) : Half := if a.val < 4 then .truck else .trailer

/-- An axle record written (R50). -/
def putAxle (a : AxleNo) (x : AxleRec) (s : State) : State :=
  { s with content := { s.content with axles := put s.content.axles a x } }

/-- The axle record of a replaced; an axle made not liftable leaves the lift mask in force (R54, R43). -/
def replaceAxle (a : AxleNo) (x : AxleRec) (s : State) : State :=
  let s1 := markChanged (putAxle a x s)
  if (pick s.content.axles a).liftable && !x.liftable && s.vehicle.lift.getLsbD a.val then dropLift a s1 else s1

/-- WRITE AXLE past its checks (R52, R54). -/
def writeAxleRec (a : AxleNo) (x : AxleRec) (s : State) : State :=
  if walkOpen s (halfOfAxle a) then reply 0x05 .walkOpen s else reply 0x05 .done (replaceAxle a x s)

/-- Meaning of WRITE_AXLE (R54). -/
def execWriteAxle (len : Nat) (axle : Byte) (near : BitVec 2) (margin : BitVec 6) (liftable : Bool) (s : State) : Result :=
  .next
    (serve 0x05 lockTables (ofLength len 4 (both (axleArg axle) (axleRecArg near margin liftable)))
      (fun a => writeAxleRec a.1 a.2) s)

/-- Meaning of READ_POSITION (R68): two frames. -/
def execReadPosition (len : Nat) (position : Byte) (s : State) : Result :=
  .next
    (serve 0x06 lockNone (ofLength len 2 (posArg position))
      (fun p s => placeAll [positionReplyA s p, positionReplyB s p] s) s)

/-- CLEAR POSITION past its checks, an event at the one position (R67, R122). -/
def clearPosition (p : Pos) (s : State) : State := reply 0x07 .done (finishEvent s [p] none (clearPos p s))

/-- Meaning of CLEAR_POSITION (R67). -/
def execClearPosition (len : Nat) (position : Byte) (s : State) : Result :=
  .next (serve 0x07 lockNone (ofLength len 2 (posArg position)) clearPosition s)

/-! ## History (R101, R102) -/

/-- Meaning of READ_HISTORY (R101). -/
def execReadHistory (len : Nat) (position : Byte) (start count : BitVec 4) (s : State) : Result :=
  .next
    (serve 0x08 lockNone (ofLength len 3 (if historyArgsOk start count then posArg position else none))
      (fun p s => placeAll (historyReply s p start.toNat count.toNat) s) s)

/-! ## Profiles (R105, R106) -/

/-- A profile entry replaced, the caches of the positions of its class re-derived (R105, R106, R109). -/
def replaceProfile (load : LoadState) (cls : Fin 8) (f : Profile → Profile) (s : State) : State :=
  let i := profileNo load cls
  rederiveCaches (fun p => (geometry s p).cls == cls)
    (markChanged
      { s with content := { s.content with profiles := put s.content.profiles i (f (pick s.content.profiles i)) } })

/-- Meaning of WRITE_PROFILE_A (R105): N and the three percentages are replaced together. -/
def execWriteProfileA (len : Nat) (load : BitVec 2) (cls : BitVec 3) (nominal : BitVec 12) (low crit high : Byte)
    (s : State) : Result :=
  .next
    (serve 0x09 lockTables
      (ofLength len 7 (if profileAOk nominal.toNat low.toNat crit.toNat high.toNat then loadArg load else none))
      (fun l s => reply 0x09 .done
        (replaceProfile l (Fin.ofNat 8 cls.toNat) (fun x =>
          { x with nominal := nominal.toNat, lowPct := low.toNat, critPct := crit.toNat, highPct := high.toNat }) s)) s)

/-- Meaning of WRITE_PROFILE_B (R106): the three limits are replaced together. -/
def execWriteProfileB (len : Nat) (load : BitVec 2) (cls : BitVec 3) (hot twin leak : Byte) (s : State) : Result :=
  .next
    (serve 0x0A lockTables
      (ofLength len 5 (if profileBOk hot.toNat twin.toNat leak.toNat then loadArg load else none))
      (fun l s => reply 0x0A .done
        (replaceProfile l (Fin.ofNat 8 cls.toNat) (fun x =>
          { x with hotLimit := hot.toNat, twinLimit := twin.toNat, leakLimit := leak.toNat }) s)) s)

end Sys2Proof.Machine
end

