-- ==== Sys2Proof/Machine/WalkRequests.lean ====
section
/-! DEFINITION. The requests that reach the learn unit: OPEN WALK (R131, R132), END WALK (R143) and WALK STATUS
(R146). -/

namespace Sys2Proof.Machine

open Sys2Proof

/-- Whether the target set of an OPEN WALK is the one its half asks for (R131 step 4). -/
def targetMatches (s : State) (half : Half) (target : SetNo) : Bool :=
  match half with
  | .truck => target == 0
  | .trailer => target == s.vehicle.set && target != 0

/-- The fields an opened walk starts with, before its current position is found (R132). -/
def openedWalk (s : State) (a : WalkArgs) : OpenWalk :=
  { target := a.target
    blockStart := a.start.val - a.start.val % a.length
    length := a.length
    order := a.order
    start := a.start.val % a.length
    step := 0
    current := a.start
    window := if a.window = 0 then s.content.settings.walkWindow else a.window
    expiry := s.time }

/-- The slot of an opened walk: last bound and last result absent, the counts 0 (R132). -/
def openedSlot (w : OpenWalk) : WalkSlot := { WalkSlot.closed with walk := some w }

/-- OPEN WALK past its range, protect and store checks (R131 steps 3 and 4, R132): the reply comes before any frame of
the opening. -/
def beginWalk (a : WalkArgs) (s : State) : State :=
  if walkOpen s a.half then reply 0x0B .walkOpen s
  else if !targetMatches s a.half a.target then reply 0x0B .badArgument s
  else
    let w := openedWalk s a
    advanceWalk a.half w 0 (reply 0x0B .done (modWalk a.half (fun _ => openedSlot w) s))

/-- Meaning of OPEN_WALK (R131, R132). -/
def execOpenWalk (len : Nat) (start : Byte) (half order : Bool) (lengthCode : BitVec 3) (target : BitVec 2)
    (window : BitVec 10) (s : State) : Result :=
  .next (serve 0x0B lockWalk (ofLength len 5 (walkArgs start half order lengthCode target window)) beginWalk s)

/-- END WALK past its checks: the reply comes before the WALK END frame (R143). -/
def stopWalk (h : Half) (s : State) : State :=
  if walkOpen s h then finishWalk h .stopped (reply 0x0C .done s) else reply 0x0C .noWalk s

/-- Meaning of END_WALK (R143). -/
def execEndWalk (len : Nat) (half : Byte) (s : State) : Result :=
  .next (serve 0x0C lockNone (ofLength len 2 (halfArg half)) stopWalk s)

/-- Meaning of WALK_STATUS (R146). -/
def execWalkStatus (len : Nat) (half : Byte) (s : State) : Result :=
  .next (serve 0x0D lockNone (ofLength len 2 (halfArg half)) (fun h s => placeService (walkStatusReply s h) s) s)

end Sys2Proof.Machine
end

