-- ==== Sys2Proof/Machine/Dispatch.lean ====
section
/-! DEFINITION. The meaning of each command: one arm for each constructor of Instr, in the order of
spec/opcode_table.json. -/

namespace Sys2Proof.Machine

open Sys2Proof

def exec (i : Instr) (s : State) : Host.Outcome State Fault Refusal :=
  match i with
  | .characterTaken port char => Sys2Proof.Machine.execCharacterTaken port char s
  | .framingFault port => Sys2Proof.Machine.execFramingFault port s
  | .idleTimerExpiry port => Sys2Proof.Machine.execIdleTimerExpiry port s
  | .duplicateWindowExpiry => Sys2Proof.Machine.execDuplicateWindowExpiry s
  | .strangerAgeOut => Sys2Proof.Machine.execStrangerAgeOut s
  | .vehicleCondition len load motion ambient lift g => Sys2Proof.Machine.execVehicleCondition len load motion ambient lift g s
  | .stalenessExpiry => Sys2Proof.Machine.execStalenessExpiry s
  | .silenceExpiry p => Sys2Proof.Machine.execSilenceExpiry p s
  | .intervalExpiry p => Sys2Proof.Machine.execIntervalExpiry p s
  | .repeatTimerExpiry p => Sys2Proof.Machine.execRepeatTimerExpiry p s
  | .ack len position item => Sys2Proof.Machine.execAck len position item s
  | .walkWindowExpiry h => Sys2Proof.Machine.execWalkWindowExpiry h s
  | .periodTimerExpiry ch => Sys2Proof.Machine.execPeriodTimerExpiry ch s
  | .channelGrant => Sys2Proof.Machine.execChannelGrant s
  | .queueTakesHead race => Sys2Proof.Machine.execQueueTakesHead race s
  | .frameSent race => Sys2Proof.Machine.execFrameSent race s
  | .busOff => Sys2Proof.Machine.execBusOff s
  | .busOffRecovery race => Sys2Proof.Machine.execBusOffRecovery race s
  | .nodeNumberInForce => Sys2Proof.Machine.execNodeNumberInForce s
  | .restartStartUp => Sys2Proof.Machine.execRestartStartUp s
  | .storeCompletion result => Sys2Proof.Machine.execStoreCompletion result s
  | .powerOn => Sys2Proof.Machine.execPowerOn s
  | .discardedFrame f => Sys2Proof.Machine.execDiscardedFrame f s
  | .unknownRequest kind => Sys2Proof.Machine.execUnknownRequest kind s
  | .writeSensorEntry len index sid pos g offset => Sys2Proof.Machine.execWriteSensorEntry len index sid pos g offset s
  | .clearSensorEntry len index => Sys2Proof.Machine.execClearSensorEntry len index s
  | .readSensorEntry len index => Sys2Proof.Machine.execReadSensorEntry len index s
  | .writePosition len position fitted cls => Sys2Proof.Machine.execWritePosition len position fitted cls s
  | .writeAxle len axle near margin liftable => Sys2Proof.Machine.execWriteAxle len axle near margin liftable s
  | .readPosition len position => Sys2Proof.Machine.execReadPosition len position s
  | .clearPosition len position => Sys2Proof.Machine.execClearPosition len position s
  | .readHistory len position start count => Sys2Proof.Machine.execReadHistory len position start count s
  | .writeProfileA len load cls nominal low crit high => Sys2Proof.Machine.execWriteProfileA len load cls nominal low crit high s
  | .writeProfileB len load cls hot twin leak => Sys2Proof.Machine.execWriteProfileB len load cls hot twin leak s
  | .openWalk len start h order lengthCode target window => Sys2Proof.Machine.execOpenWalk len start h order lengthCode target window s
  | .endWalk len h => Sys2Proof.Machine.execEndWalk len h s
  | .walkStatus len h => Sys2Proof.Machine.execWalkStatus len h s
  | .configureChannelA len channel trigger mode step start blockLen => Sys2Proof.Machine.execConfigureChannelA len channel trigger mode step start blockLen s
  | .configureChannelB len channel count period skipVacant cyclic powerUp => Sys2Proof.Machine.execConfigureChannelB len channel count period skipVacant cyclic powerUp s
  | .startChannel len channel => Sys2Proof.Machine.execStartChannel len channel s
  | .stopChannel len channel => Sys2Proof.Machine.execStopChannel len channel s
  | .triggerChannel len channel => Sys2Proof.Machine.execTriggerChannel len channel s
  | .channelStatus len channel => Sys2Proof.Machine.execChannelStatus len channel s
  | .writeSettingTref len value => Sys2Proof.Machine.execWriteSettingTref len value s
  | .writeSettingSilenceTimeout len value => Sys2Proof.Machine.execWriteSettingSilenceTimeout len value s
  | .writeSettingRepeatPeriod len value => Sys2Proof.Machine.execWriteSettingRepeatPeriod len value s
  | .writeSettingIntervalLength len value => Sys2Proof.Machine.execWriteSettingIntervalLength len value s
  | .writeSettingReportLifetime len value => Sys2Proof.Machine.execWriteSettingReportLifetime len value s
  | .writeSettingWalkWindow len value => Sys2Proof.Machine.execWriteSettingWalkWindow len value s
  | .writeSettingNodeNumber len value => Sys2Proof.Machine.execWriteSettingNodeNumber len value s
  | .writeSettingProtectLevel len value => Sys2Proof.Machine.execWriteSettingProtectLevel len value s
  | .readSettings len => Sys2Proof.Machine.execReadSettings len s
  | .clearDiagnostics len => Sys2Proof.Machine.execClearDiagnostics len s
  | .readCounters len => Sys2Proof.Machine.execReadCounters len s
  | .status len => Sys2Proof.Machine.execStatus len s
  | .store len => Sys2Proof.Machine.execStore len s
  | .restart len => Sys2Proof.Machine.execRestart len s

end Sys2Proof.Machine
end

