-- ==== Sys2Proof/Machine/Idle.lean ====
section
/-! DEFINITION. What comes about without a command from outside: the events of the part's own that are due, the passing
of a millisecond of device time, and the reception of a CAN frame into the queue of waiting commands (R175). -/

namespace Sys2Proof.Machine

open Sys2Proof

/-! ## Events that are due -/

/-- A command, if its event is due. -/
def whenDue (due : Bool) (i : Instr) : List Instr := if due then [i] else []

/-- Whether the idle timer of a port has run out (R5). -/
def idleDue (s : State) (port : Port) : Bool :=
  match (portState s port).framing with
  | .hunting => false
  | .collecting _ _ due => decide (due ≤ s.time)

/-- Whether the head of the duplicate list is due (R13). -/
def dupDue (s : State) : Bool := s.dup.entries.head?.any (windowDue s.time)

/-- Whether the head of the stranger list is due (R37). -/
def strangersDue (s : State) : Bool := s.strangers.entries.head?.any (strangerDue s.time)

/-- Whether the interval of a position has ended (R93). -/
def intervalDue (s : State) (p : Pos) : Bool := (posRec s p).history.expiry.any (fun t => decide (t ≤ s.time))

/-- Whether the repeat timer of a position is due (R125). -/
def repeatDue (s : State) (p : Pos) : Bool := (posRec s p).cond.repeatDue.any (fun t => decide (t ≤ s.time))

/-- Whether the window of a half's open walk has run out (R135). -/
def windowOver (s : State) (h : Half) : Bool := (walkSlot s h).walk.any (fun w => decide (w.expiry ≤ s.time))

/-- Whether the period timer of a channel is due (R152). -/
def periodDue (s : State) (c : ChanNo) : Bool := (chanRun s c).due.any (fun t => decide (t ≤ s.time))

/-- Whether a free slot and a WAITING channel stand side by side (R156). -/
def grantDue (s : State) : Bool := hasRoom s && (List.finRange 4).any (fun c => (chanRun s c).state == .waiting)

/-- Whether a pending node number is due to come into force (R167). -/
def nodeDue (s : State) : Bool := s.mgmt.nodePending.isSome && !replyQueued s .node

/-- Whether the write of a store in progress has taken its longest time (R172). -/
def storeDue (s : State) : Bool := s.store.job.any (fun job => decide (job.latest ≤ s.time))

/-- The read-back of the store in progress, where nothing from outside has brought it: a free value (R172). -/
def ownReadBack (s : State) : ReadBack := if Config.readBack s.store.readBacks then .matches else .differs

/-- The events of the part's own that are due, in the order the model takes them (notes/assumptions/4.md). -/
def dueEvents (s : State) : List Instr :=
  whenDue (restartDue s) .restartStartUp ++
  whenDue (nodeDue s) .nodeNumberInForce ++
  whenDue (storeDue s) (.storeCompletion (ownReadBack s)) ++
  [Port.front, Port.rear].flatMap (fun port => whenDue (idleDue s port) (.idleTimerExpiry port)) ++
  whenDue (dupDue s) .duplicateWindowExpiry ++
  whenDue (strangersDue s) .strangerAgeOut ++
  whenDue (stalenessDue s) .stalenessExpiry ++
  (List.finRange 32).flatMap (fun p => whenDue (silenceDue s p) (.silenceExpiry p)) ++
  (List.finRange 32).flatMap (fun p => whenDue (intervalDue s p) (.intervalExpiry p)) ++
  (List.finRange 32).flatMap (fun p => whenDue (repeatDue s p) (.repeatTimerExpiry p)) ++
  [Half.truck, Half.trailer].flatMap (fun h => whenDue (windowOver s h) (.walkWindowExpiry h)) ++
  (List.finRange 4).flatMap (fun c => whenDue (periodDue s c) (.periodTimerExpiry c)) ++
  whenDue (grantDue s) .channelGrant ++
  whenDue (linkReady s && !s.tx.frames.isEmpty) (.queueTakesHead .grantFirst)

/-! ## A millisecond passes -/

/-- The counted silence of a position after a millisecond (R63, R55). -/
def countSilence (s : State) (p : Pos) : PosRec :=
  let r := posRec s p
  if countsSilence s p then { r with silence := satSucc Config.silenceCapMs r.silence } else r

/-- A millisecond of device time passes (section 2.4): every position that counts silence counts it (R63). -/
def tick (s : State) : State := { s with time := s.time + 1, pos := Vector.ofFn (countSilence s) }

/-- The part with no command waiting (notes/assumptions/4.md): the events that are due join the queue, and where none
is due a millisecond passes. -/
def idle (s : State) : State :=
  match dueEvents s with
  | [] => tick s
  | i :: rest => { s with pending := i :: rest }

/-! ## Reception of a CAN frame (R175) -/

/-- A CAN frame received: its command joins the waiting commands, its identifier matched against the node number in
force at this moment. -/
def receiveFrame (f : CanFrame) (s : State) : State := { s with pending := s.pending ++ [decodeCan (nodeNow s) f] }

end Sys2Proof.Machine
end

