-- ==== Sys2Proof/Safety.lean ====
section
/-! DEFINITION. The laws of the state that the spec states for every moment, each as a proposition about a state, and
what the statements say of events and requests: when an event is due, how it closes, and the form of a request. -/

namespace Sys2Proof.Machine

open Sys2Proof

/-! ## The transmit queue (R158 to R160) -/

/-- The queue holds at most 24 frames, ALERT ahead of SERVICE ahead of REPORT (R158); at most one of them is offered
to the link (R159), and none while the link is bus-off (R160); only a reply is waited for, and a restart is pending only
while its reply stands in the queue (R167, R170). -/
def QueueLaw (s : State) : Prop :=
  s.tx.frames.length ≤ Config.queueCap ∧
  s.tx.frames.Pairwise (fun f g => classRank f.cls ≤ classRank g.cls) ∧
  (s.tx.frames.filter (fun f => f.offered.isSome)).length ≤ 1 ∧
  (s.tx.busOff = true → ∀ f ∈ s.tx.frames, f.offered = none) ∧
  (∀ f ∈ s.tx.frames, f.awaited ≠ none → f.cls = .service) ∧
  (s.mgmt.restartPending = true → ∃ f ∈ s.tx.frames, f.awaited = some .restart)

/-! ## Reception and strangers (R6, R9, R32 to R36) -/

/-- The duplicate list holds at most 16 entries, oldest first, no two of one burst, each of a valid sensor ID and heard
by a port (R6, R9 to R12). -/
def DupLaw (s : State) : Prop :=
  s.dup.entries.length ≤ Config.dupCap ∧
  s.dup.entries.Pairwise (fun a b => ¬(a.sid = b.sid ∧ a.seq = b.seq) ∧ a.firstArrival ≤ b.firstArrival) ∧
  ∀ e ∈ s.dup.entries,
    e.sid ≠ 0 ∧ e.sid ≠ BitVec.allOnes 32 ∧ e.firstArrival ≤ s.time ∧ (e.front.isSome = true ∨ e.rear.isSome = true)

/-- The stranger list holds at most 16 entries, least recently heard first, no two of one ID; its counts lie in their
ranges, and no ID on it is held by a valid sensor entry (R32 to R34, R36). -/
def StrangerLaw (s : State) : Prop :=
  s.strangers.entries.length ≤ Config.strangerCap ∧
  s.strangers.entries.Pairwise (fun a b => a.sid ≠ b.sid ∧ a.last ≤ b.last) ∧
  ∀ x ∈ s.strangers.entries,
    1 ≤ x.heard ∧ x.heard ≤ 255 ∧ x.moving ≤ x.heard ∧ x.last ≤ s.time ∧ findId s x.sid = none

/-! ## The vehicle state (R38 to R44) -/

/-- The ambient pressure lies in its range, only liftable axles are in the lift mask, and a stale state is MOVING with
its timer stopped (R42 to R44). -/
def VehicleLaw (s : State) : Prop :=
  (100 ≤ s.vehicle.ambient ∧ s.vehicle.ambient ≤ 220) ∧
  (∀ a : AxleNo, s.vehicle.lift.getLsbD a.val = true → (pick s.content.axles a).liftable = true) ∧
  (s.vehicle.stale = true ↔ s.vehicle.staleDue = none) ∧
  (s.vehicle.stale = true → s.vehicle.motion = .moving)

/-! ## Stored content and walks (R171, R130 to R134) -/

/-- The live stored content passes the load test: every field in its range, no two valid sensor entries sharing an ID,
or a set and a position (R20, R171). -/
def ContentLaw (s : State) : Prop := loadTest s.content = true

/-- The target set of an open walk: 0 in TRUCK, the attached set, which is not 0, in TRAILER (R131, R144). -/
def targetLaw (s : State) : Half → SetNo → Prop
  | .truck, g => g = 0
  | .trailer, g => g = s.vehicle.set ∧ g ≠ 0

/-- An open walk: its block lies aligned in its half, its current position is the one its order gives at its step, lies
in the half and is fitted, and it has bound no more sensors than it has steps behind it (R130, R132 to R134). -/
def openWalkLaw (s : State) (h : Half) (slot : WalkSlot) (w : OpenWalk) : Prop :=
  targetLaw s h w.target ∧
  (w.length = 1 ∨ w.length = 2 ∨ w.length = 4 ∨ w.length = 8 ∨ w.length = 16) ∧
  w.blockStart % w.length = 0 ∧ w.blockStart + w.length ≤ 32 ∧ w.start < w.length ∧ w.step < w.length ∧
  w.current = visitAt w w.step ∧ halfOf w.current = h ∧ (geometry s w.current).fitted = true ∧
  30 ≤ w.window ∧ w.window ≤ 600 ∧ slot.bound ≤ w.step ∧ slot.result = none

/-- The law of a walk slot (R130). -/
def slotLaw (s : State) (h : Half) : Prop :=
  match (walkSlot s h).walk with
  | some w => openWalkLaw s h (walkSlot s h) w
  | none => (walkSlot s h).bound ≤ 16

/-- The law of both walk slots. -/
def WalkLaw (s : State) : Prop := slotLaw s .truck ∧ slotLaw s .trailer

/-- The image is marked invalid while a store is in progress, whose write completes no more than 600 ms after the request
(R172); a pending node number is the one written, and the number in force is one of 0 to 15 (R166, R167). -/
def StoreLaw (s : State) : Prop :=
  (s.store.job.isSome = true → s.store.image.markedInvalid = true) ∧
  (∀ job, s.store.job = some job → s.time ≤ job.latest ∧ job.latest ≤ s.time + 600) ∧
  (∀ n, s.mgmt.nodePending = some n → n = s.content.settings.node) ∧
  s.mgmt.nodeInForce ≤ 15

/-- A port in COLLECTING holds 0 to 9 logical bytes, and its idle timer has at most its 5 ms to run (R1, R5). -/
def portLaw (now : Nat) (x : PortState) : Prop :=
  match x.framing with
  | .hunting => True
  | .collecting bytes _ due => bytes.length ≤ 9 ∧ due ≤ now + 5

/-- The law of both ports. -/
def PortLaw (s : State) : Prop := portLaw s.time s.frontPort ∧ portLaw s.time s.rearPort

/-- Content, walks, ports, duplicate list and store together: what a walk binds and what a start-up loads stays within
the ranges of the stored content. -/
def ConfiguredLaw (s : State) : Prop := ContentLaw s ∧ WalkLaw s ∧ DupLaw s ∧ StoreLaw s ∧ PortLaw s

/-! ## Positions (R56, R55, R118, R129) -/

/-- A position is VACANT exactly when it is not fitted; it holds a bound entry exactly in WAITING, LIVE and SILENT, and
that is the valid entry of an active set that names it (R56). -/
def bindingLawAt (s : State) (p : Pos) : Prop :=
  ((posRec s p).state = .vacant ↔ (geometry s p).fitted = false) ∧
  (posRec s p).bound = (if (geometry s p).fitted then entryFor s p else none) ∧
  hasBinding (posRec s p).state = (posRec s p).bound.isSome

/-- The law of bindings at every position (R56). -/
def BindingLaw (s : State) : Prop := ∀ p : Pos, bindingLawAt s p

/-- Whether a position record has had a reading since its runtime was last cleared. -/
def isHeard (r : PosRec) : Prop := r.lastTime.isSome = true

/-- The law of a position's record: the filtered cold gauge follows from the accumulator (R79); LIVE has been heard;
SILENT stands with its condition (R118); nothing but SILENT is marked at a position that has not been heard; only what
is active is acknowledged (R129); an owed frame has a running timer (R126); the ring holds at most 8 records, and none
before the first interval (R91, R94). -/
def recordLaw (r : PosRec) : Prop :=
  r.filtered = r.acc.map filteredOf ∧
  (r.state = .live → isHeard r) ∧
  (r.state = .silent ↔ r.cond.active.silent = true) ∧
  (¬isHeard r → r.filtered = none ∧ r.history.expiry = none ∧ r.cond.level = .normal ∧
    r.cond.active = { CondSet.none with silent := r.cond.active.silent }) ∧
  (r.cond.ackLevel = true → r.cond.level ≠ .normal) ∧
  (∀ k : Condition, condGet r.cond.acked k = true → condGet r.cond.active k = true) ∧
  (r.cond.owed = true → r.cond.repeatDue.isSome = true) ∧
  r.history.ring.length ≤ Config.ringCap ∧
  (r.history.expiry = none → r.history.ring = [] ∧ r.history.count = 0) ∧
  r.silence ≤ Config.silenceCapMs

/-- The law of records at every position. -/
def RecordLaw (s : State) : Prop := ∀ p : Pos, recordLaw (posRec s p)

/-- TWIN stands at two LIVE partners or at none (R116, R117). -/
def TwinLaw (s : State) : Prop :=
  ∀ p : Pos, (posRec s p).cond.active.twin = true →
    (posRec s p).state = .live ∧ (posRec s (mateOf p)).state = .live ∧ (posRec s (mateOf p)).cond.active.twin = true

/-! ## Channels (R149) -/

/-- The law of a channel between events: no work is under way but a WAITING channel's job; a pending trigger waits only
there; the period timer runs only in a channel that is ARMED or WAITING; and while it is, its remaining count is at most
the configured one and its block remaining at most the block length (R148, R149, R152, R153). -/
def channelLaw (k : ChanConfig) (r : ChanRun) : Prop :=
  r.state ≠ .running ∧
  (r.job = true ↔ r.state = .waiting) ∧
  (r.pendingTrigger = true → r.state = .waiting) ∧
  (r.due.isSome = true → r.state = .armed ∨ r.state = .waiting) ∧
  (r.state = .armed → 1 ≤ r.remaining) ∧
  (r.state = .armed ∨ r.state = .waiting →
    r.remaining ≤ fullCount k ∧ 1 ≤ r.blockRem ∧ r.blockRem ≤ blockSize k)

/-- The law of every channel. -/
def ChannelLaw (s : State) : Prop := ∀ c : ChanNo, channelLaw (chanConfig s c) (chanRun s c)

/-! ## Events (section 2.4, R122) -/

/-- Whether an event of the part's own is due: the time it waits for has come, or its place in the queue is free. Each
line spells out its rule (R5, R13, R37, R44, R64, R93, R125, R135, R152, R156, R159, R167, R170, R172). -/
def IsDue (s : State) : Instr → Prop
  | .idleTimerExpiry port =>
    ∃ bytes escape due, (portState s port).framing = .collecting bytes escape due ∧ due ≤ s.time
  | .duplicateWindowExpiry => ∃ e rest, s.dup.entries = e :: rest ∧ e.firstArrival + 2000 ≤ s.time
  | .strangerAgeOut => ∃ x rest, s.strangers.entries = x :: rest ∧ x.last + 600000 ≤ s.time
  | .stalenessExpiry => s.vehicle.stale = false ∧ ∃ due, s.vehicle.staleDue = some due ∧ due ≤ s.time
  | .silenceExpiry p =>
    ((posRec s p).state = .waiting ∨ (posRec s p).state = .live) ∧ s.vehicle.motion = .moving ∧
      s.vehicle.lift.getLsbD (p.val / 4) = false ∧ s.content.settings.silenceTimeout * 1000 ≤ (posRec s p).silence
  | .intervalExpiry p => ∃ due, (posRec s p).history.expiry = some due ∧ due ≤ s.time
  | .repeatTimerExpiry p => ∃ due, (posRec s p).cond.repeatDue = some due ∧ due ≤ s.time
  | .walkWindowExpiry h => ∃ w, (walkSlot s h).walk = some w ∧ w.expiry ≤ s.time
  | .periodTimerExpiry c => ∃ due, (chanRun s c).due = some due ∧ due ≤ s.time
  | .channelGrant => s.tx.frames.length < 24 ∧ ∃ c : ChanNo, (chanRun s c).state = .waiting
  | .queueTakesHead _ =>
    s.tx.frames ≠ [] ∧ s.tx.busOff = false ∧ (∀ f ∈ s.tx.frames, f.offered = none) ∧
      (s.mgmt.restartPending = true → ∃ f ∈ s.tx.frames, f.awaited = some .restart)
  | .nodeNumberInForce => s.mgmt.nodePending ≠ none ∧ ∀ f ∈ s.tx.frames, f.awaited ≠ some .node
  | .restartStartUp => s.mgmt.restartPending = true ∧ ∀ f ∈ s.tx.frames, f.awaited ≠ some .restart
  | .storeCompletion _ => ∃ job, s.store.job = some job ∧ job.latest ≤ s.time
  | _ => False

/-- The state t is the one an event leaves that began at `before` and whose work left u: the work, which touches neither
the queue nor the channels, is closed by its alert frames, and then the channels are told of them and of its reading, if
any. `touched` are the positions whose runtime it clears where they hold a binding (R57, R122, R123, R61 step 6). What the
close changes of u, and that it keeps all else, `Obligations.RepeatTimerExpires` says. -/
def ClosesEvent (before : State) (touched : List Pos) (sample : Option Pos) (u t : State) : Prop :=
  t = finishEvent before touched sample u ∧ u.tx = before.tx ∧ u.chan = before.chan

/-- The record r with its runtime cleared, under a new state and bound entry: nothing else but the threshold cache is
kept, and the alert state with its marks is that of R110 (R57). -/
def freshRec (st : PosState) (e : Option EntryNo) (r : PosRec) : PosRec :=
  { PosRec.vacant with state := st, bound := e, cache := r.cache }

/-- Whether TWIN ends with p leaving LIVE: it is active there, and p has a partner (R51, R117). -/
def twinEnds (s : State) (p : Pos) : Bool :=
  decide ((posRec s p).state = .live ∧ (posRec s p).cond.active.twin = true ∧ (geometry s p).fitted = true ∧
    (geometry s (mateOf p)).fitted = true)

/-- The record r with TWIN not active and not acknowledged, and nothing else changed (R117). -/
def withoutTwin (r : PosRec) : PosRec :=
  { r with
    cond := { r.cond with
      active := { r.cond.active with twin := false }
      acked := { r.cond.acked with twin := false } } }

/-- The record of q beside the positions that an event takes out of the state they are in: it loses TWIN where its
partner is one of them and leaves LIVE with TWIN active, and is not otherwise changed (R117). -/
def besideLeavers (s : State) (left : List Pos) (q : Pos) : PosRec :=
  if mateOf q ∈ left ∧ twinEnds s (mateOf q) = true then withoutTwin (posRec s q) else posRec s q

/-- The record r' is the one a reading leaves of the record r before TWIN is judged (R61 steps 1 to 5, R72, R91, R92,
R111, R115, R118, R119, R120). -/
def ReadingRecorded (s : State) (rd : Reading) (r r' : PosRec) : Prop :=
  let tel := rd.telegram
  let c := compensate s.content.settings.tref s.vehicle.ambient rd r
  let k0 := if r.state = .silent then clearCond .silent r.cond else r.cond
  let k1 := match c.out.filtered with
    | some f => if tel.pressure = 4095 then k0 else judgeLevel r.cache tel.kind f k0
    | none => k0
  let k := judgeBattery tel.battery (judgeFault c.out.fault (judgeHot r.cache.hotLimit c.judging k1))
  let h : History := if r.history.expiry.isSome then r.history
    else { r.history with
      expiry := some (rd.time + s.content.settings.intervalLength * 60000), sum := 0, count := 0 }
  r'.state = .live ∧ r'.lastTime = some rd.time ∧ r'.lastKind = some tel.kind ∧
  r'.readings = min (r.readings + 1) 65535 ∧ r'.silence = 0 ∧ r'.temp = some tel.temp ∧ r'.battery = tel.battery ∧
  (r'.fault = true ↔ tel.fault = true ∨ tel.pressure = 4095) ∧ r'.cold = c.out.cold ∧ r'.hot = c.out.hot ∧
  r'.acc = c.out.acc ∧ r'.filtered = c.out.filtered ∧ r'.held = c.out.held ∧ r'.uncompensated = c.out.uncompensated ∧
  r'.saturated = c.out.saturated ∧
  r'.history =
    (match c.out.cold with
      | some x => if tel.pressure = 4095 ∨ 65535 ≤ h.count then h
        else { h with sum := h.sum + x, count := h.count + 1 }
      | none => h) ∧
  r'.cond = k ∧ r'.cond.active.silent = (r.cond.active.silent && r.state != .silent) ∧ r'.bound = r.bound ∧ r'.cache = r.cache

/-- An ALERT frame as it enters the queue now (R123). -/
def alertFrame (s : State) (p : Pos) (why : Reason) : Frame :=
  { cls := .alert, entry := s.time, body := .alert (viewOf s p) why, offered := none, awaited := none }

/-! ## Requests (R162 to R164) -/

/-- A request that the gate lets through to its owner: no restart pending, and neither the protect level nor a store in
progress locks it (R162 to R164). -/
def Served (l : Lock) (s : State) : Prop :=
  s.mgmt.restartPending = false ∧ protectLocks l s = false ∧ storeLocks l s = false

/-- The form of a request: its kind, the data length it came with and the one its kind requires (12.5.1). -/
structure RequestForm where
  kind : Byte
  len : Nat
  required : Nat
  deriving DecidableEq, Repr

/-- The form of a command that is a request of section 10.2. -/
def requestForm : Instr → Option RequestForm
  | .writeSensorEntry len _ _ _ _ _ => some { kind := 0x01, len := len, required := 8 }
  | .clearSensorEntry len _ => some { kind := 0x02, len := len, required := 2 }
  | .readSensorEntry len _ => some { kind := 0x03, len := len, required := 2 }
  | .writePosition len _ _ _ => some { kind := 0x04, len := len, required := 3 }
  | .writeAxle len _ _ _ _ => some { kind := 0x05, len := len, required := 4 }
  | .readPosition len _ => some { kind := 0x06, len := len, required := 2 }
  | .clearPosition len _ => some { kind := 0x07, len := len, required := 2 }
  | .readHistory len _ _ _ => some { kind := 0x08, len := len, required := 3 }
  | .writeProfileA len _ _ _ _ _ _ => some { kind := 0x09, len := len, required := 7 }
  | .writeProfileB len _ _ _ _ _ => some { kind := 0x0A, len := len, required := 5 }
  | .openWalk len _ _ _ _ _ _ => some { kind := 0x0B, len := len, required := 5 }
  | .endWalk len _ => some { kind := 0x0C, len := len, required := 2 }
  | .walkStatus len _ => some { kind := 0x0D, len := len, required := 2 }
  | .configureChannelA len _ _ _ _ _ _ => some { kind := 0x0E, len := len, required := 5 }
  | .configureChannelB len _ _ _ _ _ _ => some { kind := 0x0F, len := len, required := 6 }
  | .startChannel len _ => some { kind := 0x10, len := len, required := 2 }
  | .stopChannel len _ => some { kind := 0x11, len := len, required := 2 }
  | .triggerChannel len _ => some { kind := 0x12, len := len, required := 2 }
  | .channelStatus len _ => some { kind := 0x13, len := len, required := 2 }
  | .writeSettingTref len _ => some { kind := 0x14, len := len, required := 4 }
  | .writeSettingSilenceTimeout len _ => some { kind := 0x14, len := len, required := 4 }
  | .writeSettingRepeatPeriod len _ => some { kind := 0x14, len := len, required := 4 }
  | .writeSettingIntervalLength len _ => some { kind := 0x14, len := len, required := 4 }
  | .writeSettingReportLifetime len _ => some { kind := 0x14, len := len, required := 4 }
  | .writeSettingWalkWindow len _ => some { kind := 0x14, len := len, required := 4 }
  | .writeSettingNodeNumber len _ => some { kind := 0x14, len := len, required := 4 }
  | .writeSettingProtectLevel len _ => some { kind := 0x14, len := len, required := 4 }
  | .readSettings len => some { kind := 0x15, len := len, required := 1 }
  | .clearDiagnostics len => some { kind := 0x16, len := len, required := 1 }
  | .readCounters len => some { kind := 0x17, len := len, required := 1 }
  | .status len => some { kind := 0x18, len := len, required := 1 }
  | .store len => some { kind := 0x19, len := len, required := 1 }
  | .restart len => some { kind := 0x1A, len := len, required := 1 }
  | _ => none

/-- Whether every argument of a request lies in its range (R163 check 2). The ranges are those of the owners: R27 with
R19, R29, R53, R54 with R50, R68, R67, R101, R105, R106, R131, R143, R146, R148, R150 to R152, R161 and R166. -/
def argumentsInRange : Instr → Bool
  | .writeSensorEntry _ index sid pos set offset =>
    decide (index.toNat < 48) && decide (1 ≤ sid.toNat ∧ sid.toNat ≤ 0xFFFFFFFE) &&
      decide (if set = 0 then pos.toNat < 16 else 16 ≤ pos.toNat ∧ pos.toNat < 32) &&
      decide (-64 ≤ offset.toInt ∧ offset.toInt ≤ 63)
  | .clearSensorEntry _ index => decide (index.toNat < 48)
  | .readSensorEntry _ index => decide (index.toNat < 48)
  | .writePosition _ position _ _ => decide (position.toNat < 32)
  | .writeAxle _ axle near margin _ => decide (axle.toNat < 8 ∧ near.toNat ≤ 2 ∧ margin.toNat ≤ 40)
  | .readPosition _ position => decide (position.toNat < 32)
  | .clearPosition _ position => decide (position.toNat < 32)
  | .readHistory _ position start count =>
    decide (position.toNat < 32 ∧ start.toNat ≤ 7 ∧ 1 ≤ count.toNat ∧ count.toNat ≤ 8)
  | .writeProfileA _ load _ nominal low crit high =>
    decide (load.toNat ≤ 2 ∧ nominal.toNat ≤ 4094) && decide (50 ≤ low.toNat ∧ low.toNat ≤ 99) &&
      decide (30 ≤ crit.toNat ∧ crit.toNat < low.toNat) && decide (101 ≤ high.toNat ∧ high.toNat ≤ 150)
  | .writeProfileB _ load _ hot _ _ =>
    decide (load.toNat ≤ 2) && decide (hot.toNat = 0 ∨ 40 ≤ hot.toNat ∧ hot.toNat ≤ 150)
  | .openWalk _ start half _ code _ window =>
    decide (if half then 16 ≤ start.toNat ∧ start.toNat < 32 else start.toNat < 16) && decide (code.toNat ≤ 4) &&
      decide (window.toNat = 0 ∨ 30 ≤ window.toNat ∧ window.toNat ≤ 600)
  | .endWalk _ half => decide (half.toNat < 2)
  | .walkStatus _ half => decide (half.toNat < 2)
  | .configureChannelA _ channel _ mode _ _ blockLen =>
    decide (channel.toNat < 4 ∧ mode.toNat ≤ 2 ∧ blockLen.toNat ≤ 32)
  | .configureChannelB _ channel _ period _ _ _ => decide (channel.toNat < 4 ∧ 1 ≤ period.toNat)
  | .startChannel _ channel => decide (channel.toNat < 4)
  | .stopChannel _ channel => decide (channel.toNat < 4)
  | .triggerChannel _ channel => decide (channel.toNat < 4)
  | .channelStatus _ channel => decide (channel.toNat < 4)
  | .writeSettingTref _ value => decide (-20 ≤ value.toInt ∧ value.toInt ≤ 50)
  | .writeSettingSilenceTimeout _ value => decide (60 ≤ value.toNat ∧ value.toNat ≤ 1800)
  | .writeSettingRepeatPeriod _ value => decide (2 ≤ value.toNat ∧ value.toNat ≤ 60)
  | .writeSettingIntervalLength _ value => decide (1 ≤ value.toNat ∧ value.toNat ≤ 60)
  | .writeSettingReportLifetime _ value => decide (200 ≤ value.toNat ∧ value.toNat ≤ 10000)
  | .writeSettingWalkWindow _ value => decide (30 ≤ value.toNat ∧ value.toNat ≤ 600)
  | .writeSettingNodeNumber _ value => decide (value.toNat ≤ 15)
  | .writeSettingProtectLevel _ value => decide (value.toNat ≤ 3)
  | _ => true

/-- The row of the table of R164 that a request stands in: the lowest protect level that locks it, if any, and whether a
store in progress does. -/
def lockRow : Instr → Lock
  | .writePosition _ _ _ _ | .writeAxle _ _ _ _ _ | .writeProfileA _ _ _ _ _ _ _ | .writeProfileB _ _ _ _ _ _ =>
    { level := some 1, store := true }
  | .writeSensorEntry _ _ _ _ _ _ | .clearSensorEntry _ _ => { level := some 2, store := true }
  | .openWalk _ _ _ _ _ _ _ => { level := some 2, store := false }
  | .writeSettingTref _ _ | .writeSettingSilenceTimeout _ _ | .writeSettingRepeatPeriod _ _
  | .writeSettingIntervalLength _ _ | .writeSettingReportLifetime _ _ | .writeSettingWalkWindow _ _
  | .writeSettingNodeNumber _ _ | .configureChannelA _ _ _ _ _ _ _ | .configureChannelB _ _ _ _ _ _ _ =>
    { level := some 3, store := true }
  | .store _ | .restart _ => { level := none, store := true }
  | _ => { level := none, store := false }

/-! ## Replies with data (R176) -/

/-- Bytes as a whole number, the first byte least significant (section 2.7). -/
def numberOf : List Byte → Nat
  | [] => 0
  | b :: rest => b.toNat + 256 * numberOf rest

/-- Whether a number holds, from a bit on, fields of the given widths and values, packed with no gap, and zeros after
them (section 2.7, R175). -/
def fieldsAt (n : Nat) : Nat → List (Nat × Nat) → Bool
  | start, [] => decide (n < 2 ^ start)
  | start, (width, value) :: rest =>
    decide (n / 2 ^ start % 2 ^ width = value % 2 ^ width) && fieldsAt n (start + width) rest

/-- A SERVICE frame of length 8: its kind in the lowest 5 bits, and the fields, as pairs of a width and a value, from bit
5 on (R176). -/
def carries (body : Body) (kind : Nat) (fields : List (Nat × Nat)) : Prop :=
  (bodyBytes body).length = 8 ∧ fieldsAt (numberOf (bodyBytes body)) 0 ((5, kind) :: fields) = true

end Sys2Proof.Machine
end

