-- ==== Sys2Proof/WellFormed.lean ====
section
/-! DEFINITION. Which commands are well formed: a command a CAN frame carries is one that some frame of 0 to 8 bytes
carries (12.2), a request has its kind byte (R162), an unknown request is one no other command stands for (R163), and
a discarded frame is a frame of the bus (R175). The ranges of arguments are no matter of form: the part checks them and
answers BAD_ARGUMENT (R163). -/

namespace Sys2Proof

/-- Whether a frame image is one of the bus: its length at most 8 and no field beyond it but of zeros; a request has
its kind. -/
def imageOk (m : CanImage) : Bool :=
  decide (m.len ≤ 8) && decide (m.bits.toNat < 2 ^ (8 * m.len)) && (m.target != .request || decide (1 ≤ m.len))

/-- Whether a request kind is none of section 10.2, or that of WRITE SETTING, whose code may name no setting. -/
def kindUnserved (kind : Byte) : Bool := kind == 0 || decide (0x1A < kind.toNat) || kind == 0x14

/-- Whether a frame is one of the bus: at most 8 data bytes, and an 11-bit identifier where it is not extended. -/
def frameOk (f : CanFrame) : Bool := decide (f.data.length ≤ 8) && (f.extended || decide (f.ident.toNat < 2048))

/-- Whether a frame is discarded whatever node number is in force: remote, extended, or on no identifier the part takes
(R175, 12.2). -/
def neverTaken (f : CanFrame) : Bool :=
  f.extended || f.remote ||
    (f.ident.toNat != vehicleIdent && !(decide (0x3B0 ≤ f.ident.toNat ∧ f.ident.toNat ≤ 0x3BF)) &&
      !(decide (0x5C0 ≤ f.ident.toNat ∧ f.ident.toNat ≤ 0x5CF)))

/-- Whether a command is well formed. -/
def Instr.wf (i : Instr) : Bool :=
  (match canImage i with
    | some m => imageOk m
    | none => true) &&
  match i with
  | .unknownRequest kind => kindUnserved kind
  | .discardedFrame f => frameOk f
  | _ => true

end Sys2Proof
end

