-- ==== Sys2Proof/Certificates/Slice0/Obligations.lean ====
section
/-! DEFINITION. The statements for the provers. Each names the rules of spec/ it rests on in its docstring. -/

open Sys2Proof Sys2Proof.Machine

/-! ## The machine -/

/-- A step with a command at the front of the queue executes it on the state with the queue's rest. -/
def Obligations.StepRunsTheFrontCommand : Prop :=
  ∀ (c : Instr) (rest : List Instr) (s : State),
    step { s with pending := c :: rest } = exec c { s with pending := rest }

/-- With no command waiting, the events that are due join the queue, each of them once and nothing else, and no time
passes; where none is due, a millisecond passes and every position that counts silence counts it (R63). When an event is
due, its rule says (R5, R13, R37, R44, R64, R93, R125, R135, R152, R156, R159, R167, R170, R172), and `IsDue` spells it
out. That a store completes in an idle step once its 600 ms are over, by one read-back, is log 17; that the queue takes
its head as if no other placement fell together with it, and all else here, is log 4: the model's choices. -/
def Obligations.IdleStepTakesWhatIsDue : Prop :=
  ∀ s : State, s.pending = [] →
    (dueEvents s ≠ [] → step s = .next { s with pending := dueEvents s }) ∧
    (dueEvents s = [] → ∃ t, step s = .next t ∧ t.time = s.time + 1 ∧ t = { s with time := t.time, pos := t.pos } ∧
      ∀ p : Pos, posRec t p =
        (if (posRec s p).state ≠ .vacant ∧ (posRec s p).state ≠ .unbound ∧ s.vehicle.motion = .moving ∧
            s.vehicle.lift.getLsbD (p.val / 4) = false then
          { posRec s p with silence := min ((posRec s p).silence + 1) 65535000 }
        else posRec s p)) ∧
    (dueEvents s).Nodup ∧
    (∀ i : Instr, (∀ r, i ≠ .storeCompletion r) →
      (i ∈ dueEvents s ↔ IsDue s i ∧ i ≠ .queueTakesHead .placementFirst)) ∧
    ((∃ job, s.store.job = some job ∧ job.latest ≤ s.time) ↔
      ∃ r, .storeCompletion r ∈ dueEvents s ∧ ∀ r', .storeCompletion r' ∈ dueEvents s → r' = r)

/-- Power-on start-up, from every state (R174; what it leaves block by block is R38, R56, R108, R149, R150). That it
takes no device time, so that the time is 0 after it (log 8), that the commands waiting stay (log 20), and that a valid
image's content is loaded as it stands, the FREE entries among it (log 24), are the model's choices and readings. Whether
the link is bus-off afterwards the spec does not say, and this statement leaves it open (log 3), as it does the model's
own number of read-backs (log 17). -/
def Obligations.PowerOnStartsUp : Prop :=
  ∀ s : State, ∃ t, exec .powerOn s = .next t ∧
    t.time = 0 ∧ t.vehicle = Vehicle.reset ∧ t.frontPort = PortState.reset ∧ t.rearPort = PortState.reset ∧
    t.dup = { entries := [], merges := 0, evictions := 0 } ∧
    t.table = { accepted := Vector.replicate 48 none, inactiveSet := 0, lateRepeat := 0, unplaced := 0 } ∧
    t.strangers = { entries := [], replaced := 0 } ∧ t.truckWalk = WalkSlot.closed ∧ t.trailerWalk = WalkSlot.closed ∧
    t.content = (if imageValid s.store.image then s.store.image.content else Content.unconfigured) ∧
    t.store = { image := s.store.image, job := none, lastOk := none, changed := false
                configured := imageValid s.store.image, readBacks := t.store.readBacks } ∧
    t.mgmt = { summary := false, nodeInForce := t.content.settings.node, nodePending := none, restartPending := false } ∧
    t.tx = { TxQueue.empty with frames := [startupFrame (imageValid s.store.image)], busOff := t.tx.busOff } ∧
    t.pending = s.pending ∧
    (∀ p : Pos, posRec t p =
      { PosRec.vacant with
        state := if (geometry t p).fitted then (if (entryFor t p).isSome then .waiting else .unbound) else .vacant
        bound := if (geometry t p).fitted then entryFor t p else none
        cache := cacheFor t p }) ∧
    (∀ c : ChanNo, chanRun t c =
      if (chanConfig t c).powerUp then
        { state := .armed, pointer := (chanConfig t c).start, remaining := fullCount (chanConfig t c)
          blockRem := blockSize (chanConfig t c), blockStart := (chanConfig t c).start, job := false
          pendingTrigger := false, overrun := 0
          due := if (chanConfig t c).trigger = .period then some ((chanConfig t c).period * 1000) else none }
      else ChanRun.idle)

/-- RESTART (R170, R174): it answers DONE and is pending behind its reply, or, where the queue refuses the reply, has the
effect of POWER_ON at once, as the report that the reply is sent has; RESTART_START_UP has it wherever the reply is gone
and the restart still pending; and the state after reset is that of start-up without a valid image. That the event which
makes the start-up due takes it within its own step, and leaves the table's step nothing to do in a run, that the part
comes up from a blank image, and that the link is not bus-off after it, are the model's choices (logs 8, 2 and 3). -/
def Obligations.RestartIsPowerOn : Prop :=
  (∀ s : State, Served lockStore s →
    let reply_ : Frame :=
      { cls := .service, entry := s.time, body := .reply 0x1A .done, offered := none, awaited := some .restart }
    let out := offerFrame reply_ s.tx
    (out.placed = true →
      exec (.restart 1) s = .next { s with tx := out.tx, mgmt := { s.mgmt with restartPending := true } }) ∧
    (out.placed = false → ∃ t, exec .powerOn s = .next t ∧ exec (.restart 1) s = .next t)) ∧
  (∀ (race : SlotRace) (before : List Frame) (f : Frame) (after : List Frame) (s : State),
    s.mgmt.restartPending = true → s.tx.frames = before ++ f :: after → f.offered.isSome = true →
    (∀ g ∈ before ++ after, g.offered = none ∧ g.awaited ≠ some .restart) →
    ∃ t, exec .powerOn s = .next t ∧ exec (.frameSent race) s = .next t) ∧
  (∀ s : State, s.mgmt.restartPending = true → (∀ f ∈ s.tx.frames, f.awaited ≠ some .restart) →
    ∃ t, exec .powerOn s = .next t ∧ exec .restartStartUp s = .next t) ∧
  exec .powerOn State.reset = .next State.reset

/-- Every command is answered by a next state that leaves the queue of waiting commands as it is, and leaves device time
as it is unless the command starts the part up, as POWER_ON, RESTART_START_UP, and the report or refusal of the reply to
RESTART do (R170). These are the model's choices: that no command faults or is refused, and that commands wait in a queue
of the model's own (log 20), that a command takes no device time (log 4), and that start-up takes none (log 8). -/
def Obligations.CommandsKeepQueueAndTime : Prop :=
  ∀ (i : Instr) (s : State), ∃ t, exec i s = .next t ∧ t.pending = s.pending ∧
    (i ≠ .powerOn → i ≠ .restartStartUp → (∀ len, i ≠ .restart len) → (∀ race, i ≠ .frameSent race) →
      t.time = s.time) ∧
    (t.time = s.time ∨ exec .powerOn s = .next t)

/-- An expiry, a grant, a report of the link or a completion commanded while nothing of the kind is due is no event
(the model's choice, log 5). What is due, `IsDue` spells out from its rule; a frame is reported sent only where one is
offered (R159), a recovery only from bus-off (R160), and a completion only of a store in progress (R172). -/
def Obligations.NothingHappensBeforeItsTime : Prop :=
  ∀ s : State,
    let idle : Instr → Prop := fun i => ¬IsDue s i → exec i s = .next s
    (∀ port : Port, idle (.idleTimerExpiry port)) ∧ idle .duplicateWindowExpiry ∧ idle .strangerAgeOut ∧
    idle .stalenessExpiry ∧ (∀ p : Pos, idle (.silenceExpiry p)) ∧ (∀ p : Pos, idle (.intervalExpiry p)) ∧
    (∀ p : Pos, idle (.repeatTimerExpiry p)) ∧ (∀ h : Half, idle (.walkWindowExpiry h)) ∧
    (∀ c : ChanNo, idle (.periodTimerExpiry c)) ∧ idle .channelGrant ∧
    (∀ race : SlotRace, idle (.queueTakesHead race)) ∧ idle .nodeNumberInForce ∧ idle .restartStartUp ∧
    (∀ race : SlotRace, (∀ f ∈ s.tx.frames, f.offered = none) → exec (.frameSent race) s = .next s) ∧
    (∀ race : SlotRace, s.tx.busOff = false → exec (.busOffRecovery race) s = .next s) ∧
    (∀ r : ReadBack, s.store.job = none → exec (.storeCompletion r) s = .next s)

/-! ## Chapter 1 -/

/-- A character taken in HUNTING and in COLLECTING, a framing fault and the expiry of the idle timer (R2 to R5): every
row of the rules, the tenth logical byte completing the record. That a port holds at most 9 bytes is the law PortLaw,
which every step keeps. -/
def Obligations.CharacterIsFramed : Prop :=
  ∀ (port : Port) (c : Byte) (s : State),
    let broken : Framing → State := fun f =>
      modPort port (fun x => { x with framing := f, badFraming := countUp x.badFraming }) s
    let framing : Framing → State := fun f => modPort port (fun x => { x with framing := f }) s
    ((portState s port).framing = .hunting →
      exec (.characterTaken port c) s = .next (if c = 0xE5 then framing (.collecting [] false (s.time + 5)) else s) ∧
      exec (.framingFault port) s = .next s) ∧
    ∀ (bytes : List Byte) (escape : Bool) (due : Nat), (portState s port).framing = .collecting bytes escape due →
      bytes.length ≤ 9 →
      let added : Byte → State := fun v =>
        if bytes.length < 9 then framing (.collecting (bytes ++ [v]) false (s.time + 5))
        else judgeRecord port (bytes ++ [v]) (framing .hunting)
      (c = 0xE5 → bytes = [] →
        exec (.characterTaken port c) s = .next (framing (.collecting [] false (s.time + 5)))) ∧
      (c = 0xE5 → bytes ≠ [] →
        exec (.characterTaken port c) s = .next (broken (.collecting [] false (s.time + 5)))) ∧
      (c = 0xE6 → escape = false →
        exec (.characterTaken port c) s = .next (framing (.collecting bytes true (s.time + 5)))) ∧
      (c ≠ 0xE5 → c ≠ 0xE6 → escape = false → exec (.characterTaken port c) s = .next (added c)) ∧
      (escape = true → c = 0xC5 → exec (.characterTaken port c) s = .next (added 0xE5)) ∧
      (escape = true → c = 0xC6 → exec (.characterTaken port c) s = .next (added 0xE6)) ∧
      (escape = true → c ≠ 0xE5 → c ≠ 0xC5 → c ≠ 0xC6 →
        exec (.characterTaken port c) s = .next (broken .hunting)) ∧
      exec (.framingFault port) s = .next (broken .hunting) ∧
      (due ≤ s.time → exec (.idleTimerExpiry port) s = .next (broken .hunting))

/-- The tenth logical byte, be it a character as it stands or an escaped one (R3), completes the record, which is counted
and judged, and a good one is handed to the duplicate list with its port, its RSSI and the time (R6), its fields read
where 12.1 lays them (R7). -/
def Obligations.CompleteRecordIsJudged : Prop :=
  ∀ (port : Port) (bytes : List Byte) (escape : Bool) (due : Nat) (c v : Byte) (s : State),
    (portState s port).framing = .collecting bytes escape due → bytes.length = 9 →
    (escape = false ∧ c ≠ 0xE5 ∧ c ≠ 0xE6 ∧ v = c) ∨ (escape = true ∧ c = 0xC5 ∧ v = 0xE5) ∨
      (escape = true ∧ c = 0xC6 ∧ v = 0xE6) →
    let record := bytes ++ [v]
    let good := crc8 (record.take 8) = recordByte record 8 ∧ recordId record ≠ 0 ∧ recordId record ≠ 0xFFFFFFFF
    let copy := decodeRecord port record
    let at_ : Nat → Nat := fun i => (record.getD i 0).toNat
    (¬good → exec (.characterTaken port c) s =
      .next (modPort port (fun x =>
        { x with framing := .hunting, taken := countUp x.taken, badCheck := countUp x.badCheck }) s)) ∧
    (good → exec (.characterTaken port c) s =
      .next (takeCopy copy
        (modPort port (fun x => { x with framing := .hunting, taken := countUp x.taken }) s))) ∧
    recordByte record 8 = record.getD 8 0 ∧ recordId record = copy.sid ∧ copy.port = port ∧
    copy.sid.toNat = at_ 0 + 256 * at_ 1 + 65536 * at_ 2 + 16777216 * at_ 3 ∧
    copy.telegram.kind =
      (if at_ 4 % 4 = 0 then .periodic else if at_ 4 % 4 = 1 then .rapid else if at_ 4 % 4 = 2 then .motion else .learn) ∧
    copy.seq.val = at_ 4 / 4 % 16 ∧ (copy.telegram.fault = true ↔ at_ 4 / 64 % 2 = 1) ∧
    (copy.telegram.battery = true ↔ at_ 4 / 128 = 1) ∧ copy.telegram.pressure = at_ 5 + 256 * (at_ 6 % 16) ∧
    copy.telegram.temp = at_ 7 ∧ copy.rssi = at_ 9

/-- A copy of a burst the list holds is merged: the best RSSI of its port is raised, the merges are counted, and nothing
else changes (R10). -/
def Obligations.CopyIsMerged : Prop :=
  ∀ (c : Copy) (s : State), (∃ e ∈ s.dup.entries, e.sid = c.sid ∧ e.seq = c.seq) →
    ∃ t, takeCopy c s = t ∧ t = { s with dup := { s.dup with entries := t.dup.entries, merges := countUp s.dup.merges } } ∧
      t.dup.entries.length = s.dup.entries.length ∧
      ∀ (i : Nat) (e : DupEntry), s.dup.entries[i]? = some e → t.dup.entries[i]? = some
        (if e.sid = c.sid ∧ e.seq = c.seq then
          (if c.port = .front then { e with front := some (max (e.front.getD 0) c.rssi) }
          else { e with rear := some (max (e.rear.getD 0) c.rssi) })
        else e)

/-- A copy of a burst the list does not hold. Where the list is full, the head is evicted first and counted, and
delivers its evidence if it is flagged, before the copy is taken as a first copy (R11, R12). A first copy of a sensor no
valid entry holds is appended at the tail, flagged, and forwarded without any effect on the table (R11, R22). -/
def Obligations.FirstCopyOfUnknownSensor : Prop :=
  ∀ (c : Copy) (s : State), (∀ e ∈ s.dup.entries, ¬(e.sid = c.sid ∧ e.seq = c.seq)) →
    (∀ head rest, s.dup.entries = head :: rest → rest.length = 15 →
      let left := { s with dup := { s.dup with entries := rest, evictions := countUp s.dup.evictions } }
      (head.flagged = false → takeCopy c s = takeCopy c left) ∧
      (head.flagged = true → takeCopy c s = takeCopy c
        (deliver { sid := head.sid, seq := head.seq, front := head.front, rear := head.rear, telegram := head.telegram }
          left))) ∧
    (findId s c.sid = none →
      let new : DupEntry :=
        { sid := c.sid, seq := c.seq, firstArrival := s.time, telegram := c.telegram
          front := if c.port = .front then some c.rssi else none, rear := if c.port = .rear then some c.rssi else none
          flagged := true }
      (s.dup.entries.length < 16 →
        takeCopy c s = { s with dup := { s.dup with entries := s.dup.entries ++ [new] } }) ∧
      (∀ head rest, s.dup.entries = head :: rest → 16 ≤ s.dup.entries.length → head.flagged = false →
        takeCopy c s =
          { s with dup := { s.dup with entries := rest ++ [new], evictions := countUp s.dup.evictions } }))

/-- A first copy of a sensor that a valid entry holds: appended, flagged if it is of kind LEARN, and by its class counted
as inactive-set, as a late repeat or as unplaced, with no other effect, or accepted (R11, R22, R23, R25, R26). An accepted
telegram: its entry's acceptance is recorded, its position is LIVE with the reading's record, history and alert state, and
then TWIN is judged at it and its partner, as `LevelIsConfirmed` says; no other position changes; its alert frames are
generated, and then the channels are told of them and of the reading (R24, R61, R72, R91, R92, R111, R115, R116, R119,
R120, R122). -/
def Obligations.AcceptedTelegramIsRead : Prop :=
  (∀ (c : Copy) (e : EntryNo) (s : State),
    (∀ x ∈ s.dup.entries, ¬(x.sid = c.sid ∧ x.seq = c.seq)) → s.dup.entries.length < 16 → findId s c.sid = some e →
    let new : Bool → DupEntry := fun flag =>
      { sid := c.sid, seq := c.seq, firstArrival := s.time, telegram := c.telegram
        front := if c.port = .front then some c.rssi else none, rear := if c.port = .rear then some c.rssi else none
        flagged := flag }
    let joined : Bool → State → State := fun flag u =>
      { u with dup := { u.dup with entries := s.dup.entries ++ [new flag] } }
    let marked : State → State := joined (decide (c.telegram.kind = .learn))
    let active := (entryAt s e).set = 0 ∨ (entryAt s e).set = s.vehicle.set
    let late := ∃ a, pick s.table.accepted e = some a ∧ a.seq = c.seq ∧ s.time < a.time + 10000
    let vacant := (posRec s (entryAt s e).pos).state = .vacant
    (¬active → takeCopy c s =
      marked { s with table := { s.table with inactiveSet := min (s.table.inactiveSet + 1) 65535 } }) ∧
    (active → late → takeCopy c s =
      marked { s with table := { s.table with lateRepeat := min (s.table.lateRepeat + 1) 65535 } }) ∧
    (active → ¬late → vacant → takeCopy c s =
      marked { s with table := { s.table with unplaced := min (s.table.unplaced + 1) 65535 } }) ∧
    (active → ¬late → ¬vacant → takeCopy c s = marked (acceptTelegram e c.seq c.telegram (joined false s)))) ∧
  ∀ (e : EntryNo) (seq : Fin 16) (tel : Telegram) (s : State),
    let p := (entryAt s e).pos
    let rd : Reading := { offset := (entryAt s e).offset, telegram := tel, time := s.time }
    let c := compensate s.content.settings.tref s.vehicle.ambient rd (posRec s p)
    ∃ w t, acceptTelegram e seq tel s = t ∧ w = { s with pos := w.pos, table := w.table, mgmt := w.mgmt } ∧
      ReadingRecorded s rd (posRec s p) (posRec w p) ∧ (∀ q : Pos, q ≠ p → posRec w q = posRec s q) ∧
      ClosesEvent s [] (some p) (judgeTwin p w) t ∧ (posRec t p).state = .live ∧
      t.mgmt = { s.mgmt with summary := s.mgmt.summary || c.clamped } ∧
      (∀ q : Pos, q ≠ p → q ≠ mateOf p → posRec t q = posRec s q) ∧
      pick t.table.accepted e = some { seq := seq, time := s.time } ∧
      (∀ i : EntryNo, i ≠ e → pick t.table.accepted i = pick s.table.accepted i) ∧
      t.content = s.content ∧ t.vehicle = s.vehicle ∧ t.dup = s.dup ∧ t.strangers = s.strangers ∧
      t.truckWalk = s.truckWalk ∧ t.trailerWalk = s.trailerWalk ∧ t.store = s.store ∧ t.time = s.time

/-- The window of the head entry of the duplicate list runs out 2000 ms after its first arrival: the entry leaves, and
delivers its evidence exactly if it is flagged (R13, R14). The head of the stranger list ages out 600 s after it was
last heard, with no frame and no count (R37). That one STRANGER_AGE_OUT removes the head alone, and entries of one last
heard time leave by as many commands, is the model's reading (log 26). -/
def Obligations.ListHeadsExpire : Prop :=
  (∀ (e : DupEntry) (rest : List DupEntry) (s : State), s.dup.entries = e :: rest → e.firstArrival + 2000 ≤ s.time →
    (e.flagged = false → exec .duplicateWindowExpiry s = .next { s with dup := { s.dup with entries := rest } }) ∧
    (e.flagged = true → exec .duplicateWindowExpiry s =
      .next (deliver { sid := e.sid, seq := e.seq, front := e.front, rear := e.rear, telegram := e.telegram }
        { s with dup := { s.dup with entries := rest } }))) ∧
  (∀ (x : Stranger) (rest : List Stranger) (s : State), s.strangers.entries = x :: rest → x.last + 600000 ≤ s.time →
    exec .strangerAgeOut s = .next { s with strangers := { s.strangers with entries := rest } })

/-! ## Chapter 2 -/

/-- Evidence of an ID that is not on the stranger list makes a new entry at the tail; from a list of 16 the entry of the
lowest heard count leaves first, the one nearest the head among equals, and is counted (R34). Evidence of an ID on the
list updates its entry, which moves to the tail, and a moving count that reaches 8 is reported once, by a STRANGER notice
of the layout of 12.5.3 (R33, R35). Delivered evidence reaches the list where no walk binds it and its ID is unknown
(R142): evidence that no open walk judges, or that is implausible or ambiguous, which is counted; plausible at exactly
one walk, it binds there (R136 to R138). -/
def Obligations.EvidenceReachesTheStrangerList : Prop :=
  (∀ (ev : Evidence) (s : State), (∀ x ∈ s.strangers.entries, x.sid ≠ ev.sid) →
     let new : Stranger :=
       { sid := ev.sid, first := s.time, last := s.time, heard := 1
         moving := if s.vehicle.motion = .moving then 1 else 0, front := ev.front, rear := ev.rear, reported := false }
     (s.strangers.entries.length < 16 →
       hearStranger ev s = { s with strangers := { s.strangers with entries := s.strangers.entries ++ [new] } }) ∧
     (16 ≤ s.strangers.entries.length → ∃ before gone after, s.strangers.entries = before ++ gone :: after ∧
       (∀ x ∈ before, gone.heard < x.heard) ∧ (∀ x ∈ after, gone.heard ≤ x.heard) ∧
       hearStranger ev s =
         { s with strangers :=
             { entries := before ++ after ++ [new], replaced := min (s.strangers.replaced + 1) 65535 } })) ∧
  (∀ (ev : Evidence) (x : Stranger) (before after : List Stranger) (s : State),
     s.strangers.entries = before ++ x :: after → x.sid = ev.sid →
     (∀ y ∈ before ++ after, y.sid ≠ ev.sid) →
     ∃ y t, hearStranger ev s = t ∧
       y = { x with
             last := s.time
             heard := min (x.heard + 1) 255
             moving := if s.vehicle.motion = .moving then min (x.moving + 1) 255 else x.moving
             front := y.front
             rear := y.rear } ∧
       y.front = (if ev.front = none then x.front else some (max (x.front.getD 0) (ev.front.getD 0))) ∧
       y.rear = (if ev.rear = none then x.rear else some (max (x.rear.getD 0) (ev.rear.getD 0))) ∧
       (y.moving = 8 ∧ x.reported = false →
         t = placeService (strangerNotice s.time y)
           { s with strangers := { s.strangers with entries := before ++ after ++ [{ y with reported := true }] } }) ∧
       (¬(y.moving = 8 ∧ x.reported = false) →
         t = { s with strangers := { s.strangers with entries := before ++ after ++ [y] } })) ∧
  (∀ (ev : Evidence) (s : State),
     let onward : State → State := fun u => if findId u ev.sid = none then hearStranger ev u else u
     let repeats : WalkSlot → Prop := fun slot => slot.walk.isSome = true ∧ slot.lastBound = some (ev.sid, ev.seq)
     let judged := ev.telegram.kind = .learn ∧ ¬repeats s.truckWalk ∧ ¬repeats s.trailerWalk
     let near : Option Nat → Option Nat → Nat → Prop := fun n far margin =>
       ∃ v, n = some v ∧ ∀ x, far = some x → x ≤ v + margin
     let plausible_ : OpenWalk → Prop := fun w =>
       let a := pick s.content.axles (axleOf w.current)
       a.near = .either ∨ (a.near = .front ∧ near ev.front ev.rear a.margin) ∨
         (a.near = .rear ∧ near ev.rear ev.front a.margin)
     let implausible : Half → State → State := fun h =>
       modWalk h (fun slot => { slot with implausible := min (slot.implausible + 1) 65535 })
     let ambiguous : Half → State → State := fun h =>
       modWalk h (fun slot => { slot with ambiguous := min (slot.ambiguous + 1) 65535 })
     (∀ (now : Nat) (x : Stranger), carries (strangerNotice now x) 0x1F
       [(32, x.sid.toNat), (4, min x.heard 15), (7, (x.front.map (min 126)).getD 127),
         (7, (x.rear.map (min 126)).getD 127), (8, min ((now - x.first) / 1000) 255)]) ∧
     (¬judged → deliver ev s = onward s) ∧
     (s.truckWalk.walk = none → s.trailerWalk.walk = none → deliver ev s = onward s) ∧
     (∀ (h : Half) (w : OpenWalk), judged → (walkSlot s h).walk = some w →
       (∀ k : Half, k ≠ h → (walkSlot s k).walk = none) →
       (plausible_ w → deliver ev s = bindAtWalk h w ev s) ∧
       (¬plausible_ w → deliver ev s = onward (implausible h s))) ∧
     (∀ w v : OpenWalk, judged → s.truckWalk.walk = some w → s.trailerWalk.walk = some v →
       (plausible_ w → ¬plausible_ v → deliver ev s = bindAtWalk .truck w ev s) ∧
       (¬plausible_ w → plausible_ v → deliver ev s = bindAtWalk .trailer v ev s) ∧
       (plausible_ w → plausible_ v → deliver ev s = onward (ambiguous .trailer (ambiguous .truck s))) ∧
       (¬plausible_ w → ¬plausible_ v → deliver ev s = onward (implausible .trailer (implausible .truck s)))))

/-- WRITE SENSOR ENTRY and CLEAR SENSOR ENTRY past the gate (R27 to R29): CONFLICT where another valid entry holds the
ID, or the set and the position; otherwise the entry is written, its acceptance absent, a stranger of that ID removed. A
written entry binds a fitted position that had no entry; rewritten for the same place under another ID it clears the
position to WAITING, under the same ID it changes no position, and for another place it leaves its position UNBOUND
(R28). A cleared entry is FREE and its position loses it, and a FREE entry stays as it is. A position that loses its
entry, or is bound anew, has its whole runtime cleared (R57, R110); one that gains an entry while UNBOUND keeps the rest
of its record, and a VACANT one stays as it is (R58); their neighbours on the axle lose at most TWIN (R117), and no
other position changes; where a position that lost its runtime had something active or owed, its RESET frame is
generated (R122). The changed-since-snapshot flag is set either way, and the reply DONE comes after the frames of the
event (log 9). -/
def Obligations.SensorEntriesAreWritten : Prop :=
  (∀ (index : Byte) (sid : SensorId) (pos : BitVec 6) (set : BitVec 2) (offset : Byte) (e : EntryNo) (new : Entry)
     (s : State), Served lockSensors s → entryArg index = some e → sensorArg sid pos set offset = some new →
     let old := entryAt s e
     let samePlace := old.valid = true ∧ old.set = new.set ∧ old.pos = new.pos
     let active : SetNo → Prop := fun g => g = 0 ∨ g = s.vehicle.set
     let loser := if old.valid = true ∧ active old.set ∧ ¬samePlace then [old.pos] else []
     let gainer := if active new.set ∧ ¬(samePlace ∧ old.sid = new.sid) then [new.pos] else []
     let clash := ∃ i : EntryNo, i ≠ e ∧ (entryAt s i).valid = true ∧
       ((entryAt s i).sid = new.sid ∨ ((entryAt s i).set = new.set ∧ (entryAt s i).pos = new.pos))
     (clash → exec (.writeSensorEntry 8 index sid pos set offset) s = .next (reply 0x01 .conflict s)) ∧
     (¬clash → ∃ t, exec (.writeSensorEntry 8 index sid pos set offset) s = .next t ∧
       (∃ u v, ClosesEvent s (loser ++ gainer) none u v ∧ t = reply 0x01 .done v ∧
         ∀ q : Pos,
           let base := if q ∈ loser ∧ hasBinding (posRec s q).state = true then freshRec .unbound none (posRec s q)
             else besideLeavers s (loser ++ gainer) q
           posRec u q =
             if q ∈ gainer then
               match base.state with
               | .vacant => base
               | .unbound => { base with state := .waiting, bound := some e }
               | .waiting | .live | .silent => freshRec .waiting (some e) (posRec s q)
             else base) ∧
       (∀ q : Pos, (∀ x ∈ loser ++ gainer, q ≠ x ∧ q ≠ mateOf x) → posRec t q = posRec s q) ∧
       (∀ i : EntryNo, entryAt t i = if i = e then new else entryAt s i) ∧
       (∀ i : EntryNo, pick t.table.accepted i = if i = e then none else pick s.table.accepted i) ∧
       t.strangers.entries = s.strangers.entries.filter (fun x => x.sid != sid) ∧
       t.store = { s.store with changed := true } ∧
       t.content = { s.content with sensors := t.content.sensors } ∧
       t.frontPort = s.frontPort ∧ t.rearPort = s.rearPort ∧ t.dup = s.dup ∧ t.vehicle = s.vehicle ∧
       t.truckWalk = s.truckWalk ∧ t.trailerWalk = s.trailerWalk ∧ t.mgmt = s.mgmt ∧
       (¬samePlace → isActive s new.set = true → (posRec s new.pos).state = .unbound →
         (posRec t new.pos).state = .waiting ∧ (posRec t new.pos).bound = some e) ∧
       (samePlace → old.sid = new.sid → t.pos = s.pos ∧ t.tx = (reply 0x01 .done s).tx ∧ t.chan = s.chan) ∧
       (samePlace → old.sid ≠ new.sid → isActive s new.set = true → hasBinding (posRec s new.pos).state = true →
         (posRec t new.pos).state = .waiting ∧ (posRec t new.pos).bound = some e) ∧
       (old.valid = true → isActive s old.set = true → old.pos ≠ new.pos →
         hasBinding (posRec s old.pos).state = true →
         (posRec t old.pos).state = .unbound ∧ (posRec t old.pos).bound = none))) ∧
  (∀ (index : Byte) (e : EntryNo) (s : State), Served lockSensors s → entryArg index = some e →
     ((entryAt s e).valid = false → exec (.clearSensorEntry 2 index) s =
       .next (reply 0x02 .done { s with store := { s.store with changed := true } })) ∧
     ((entryAt s e).valid = true → ∃ t, exec (.clearSensorEntry 2 index) s = .next t ∧
       (let loser :=
          if (entryAt s e).set = 0 ∨ (entryAt s e).set = s.vehicle.set then [(entryAt s e).pos] else []
        ∃ u v, t = reply 0x02 .done v ∧ ClosesEvent s loser none u v ∧
          ∀ q : Pos, posRec u q =
            if q ∈ loser ∧ hasBinding (posRec s q).state = true then freshRec .unbound none (posRec s q)
            else besideLeavers s loser q) ∧
       (∀ q : Pos, q ≠ (entryAt s e).pos → q ≠ mateOf (entryAt s e).pos → posRec t q = posRec s q) ∧
       (∀ i : EntryNo, entryAt t i = if i = e then Entry.free else entryAt s i) ∧
       (∀ i : EntryNo, pick t.table.accepted i = if i = e then none else pick s.table.accepted i) ∧
       t.strangers = s.strangers ∧ t.store = { s.store with changed := true } ∧
       t.content = { s.content with sensors := t.content.sensors } ∧ t.vehicle = s.vehicle ∧ t.mgmt = s.mgmt ∧
       (isActive s (entryAt s e).set = true → hasBinding (posRec s (entryAt s e).pos).state = true →
         (posRec t (entryAt s e).pos).state = .unbound ∧ (posRec t (entryAt s e).pos).bound = none)))

/-! ## Chapter 3 -/

/-- A valid VEHICLE CONDITION frame: every field in force by its rule, staleness ended, and, where the trailer set stays,
nothing else but the threshold caches of the positions whose load state or lift changed (R39 to R43, R45, R109), and the
counted silence of a position that has just reached its expiry and stops counting: it stops just short of the timeout, and
there is no expiry (R63, R64). Where the set changes, the same holds of every truck position and of every trailer position
that is not fitted. That short of it is one ms, the step of the part's clock, is the model's reading (log 27). -/
def Obligations.VehicleFrameIsInForce : Prop :=
  ∀ (load motion : Byte) (ambient : BitVec 16) (lift set : Byte) (s : State),
    ∃ t, exec (.vehicleCondition 6 load motion ambient lift set) s = .next t ∧
      t.vehicle.load =
        (if load = 0 then .empty else if load = 1 then .laden else if load = 2 then .tipping else s.vehicle.load) ∧
      t.vehicle.motion = (if motion = 0 then .stationary else .moving) ∧
      t.vehicle.ambient = max 100 (min ambient.toNat 220) ∧
      (∀ a : AxleNo, t.vehicle.lift.getLsbD a.val = (lift.getLsbD a.val && (pick s.content.axles a).liftable)) ∧
      t.vehicle.set.val = (if set.toNat ≤ 3 then set.toNat else s.vehicle.set.val) ∧
      t.vehicle.stale = false ∧ t.vehicle.staleDue = some (s.time + 5000) ∧
      t.content = s.content ∧ t.frontPort = s.frontPort ∧ t.rearPort = s.rearPort ∧ t.dup = s.dup ∧
      t.table = s.table ∧ t.strangers = s.strangers ∧ t.truckWalk = s.truckWalk ∧ t.mgmt = s.mgmt ∧
      t.store = s.store ∧
      let limit := s.content.settings.silenceTimeout * 1000
      let counts : Vehicle → Pos → Prop := fun v p => v.motion = .moving ∧ v.lift.getLsbD (p.val / 4) = false
      let stopped : Pos → PosRec := fun p =>
        let r := posRec s p
        if (r.state = .waiting ∨ r.state = .live) ∧ limit ≤ r.silence ∧ counts s.vehicle p ∧ ¬counts t.vehicle p then
          { r with silence := limit - 1 }
        else r
      (∀ p : Pos,
        t.vehicle.set = s.vehicle.set ∨ p.val < 16 ∨ ((geometry s p).fitted = false ∧ (posRec s p).state = .vacant) →
        posRec t p =
          (if t.vehicle.load ≠ s.vehicle.load ∨ lifted t p ≠ lifted s p then
            { stopped p with cache := cacheFor t p, cond := { (stopped p).cond with pendingLevel := none } }
          else stopped p)) ∧
      (t.vehicle.set = s.vehicle.set → t.tx = s.tx ∧ t.chan = s.chan ∧ t.trailerWalk = s.trailerWalk)

/-- Frames that are discarded without effect: a VEHICLE CONDITION of another length (R39), an ACK of another length, of
a position above 31 or of an unknown item (R128), and every frame the link does not take: an extended or a remote one, one
on another identifier than the three of the node number in force, and a request without a kind (R175, R162; for a remote
frame, and for where a frame becomes a command, log 15). -/
def Obligations.DiscardedFramesDoNothing : Prop :=
  (∀ s : State,
    (∀ (len : Nat) (load motion : Byte) (ambient : BitVec 16) (lift set : Byte), len ≠ 6 →
      exec (.vehicleCondition len load motion ambient lift set) s = .next s) ∧
    (∀ (len : Nat) (position item : Byte), len ≠ 2 ∨ 32 ≤ position.toNat ∨ 7 ≤ item.toNat →
      exec (.ack len position item) s = .next s) ∧
    (∀ f : CanFrame, exec (.discardedFrame f) s = .next s)) ∧
  ∀ (node : Nat) (f : CanFrame),
    (f.extended = true ∨ f.remote = true → decodeCan node f = .discardedFrame f) ∧
    (f.ident.toNat ≠ 0x0A0 → f.ident.toNat ≠ 0x3B0 + node → f.ident.toNat ≠ 0x5C0 + node →
      decodeCan node f = .discardedFrame f) ∧
    (f.ident.toNat = 0x5C0 + node → f.data = [] → decodeCan node f = .discardedFrame f) ∧
    (node ≤ 15 → neverTaken f = true → decodeCan node f = .discardedFrame f)

/-- The staleness timer expires: the stale flag is set, motion is MOVING, the timer stops, and nothing else changes
(R44). -/
def Obligations.StalenessExpires : Prop :=
  ∀ (due : Nat) (s : State), s.vehicle.stale = false → s.vehicle.staleDue = some due → due ≤ s.time →
    exec .stalenessExpiry s =
      .next { s with vehicle := { s.vehicle with stale := true, motion := .moving, staleDue := none } }

/-- A change of the attached trailer set: every fitted trailer position ends WAITING or UNBOUND as the new set's entries
say, with its whole runtime cleared where it was bound (R57, R110), and its record kept where it was UNBOUND but for a
TWIN that ends with its partner's (R117); the truck positions keep theirs (R60); the alert frames of the change are
generated as those of one event, from the records it leaves (R122, R123); and then an open TRAILER walk ends with
SET_CHANGED (R46, R144), nothing but its slot and the queue changing with that. That the channels do their work on the
frames before the WALK END notice is placed is the model's reading (log 11). -/
def Obligations.TrailerSetChangeRederives : Prop :=
  ∀ (load motion : Byte) (ambient : BitVec 16) (lift set : Byte) (s : State),
    set.toNat ≤ 3 → set.toNat ≠ s.vehicle.set.val →
    ∃ t, exec (.vehicleCondition 6 load motion ambient lift set) s = .next t ∧ t.content = s.content ∧
      (∀ p : Pos, 16 ≤ p.val →
        ((posRec s p).state = .vacant → (posRec t p).state = .vacant ∧ (posRec t p).bound = (posRec s p).bound) ∧
        ((posRec s p).state ≠ .vacant →
          (posRec t p).bound = entryFor t p ∧
          (posRec t p).state = (if (entryFor t p).isSome then .waiting else .unbound)) ∧
        (posRec t p).cache =
          (if t.vehicle.load ≠ s.vehicle.load ∨ lifted t p ≠ lifted s p then cacheFor t p else (posRec s p).cache)) ∧
      (∀ p : Pos, p.val < 16 →
        (posRec t p).state = (posRec s p).state ∧ (posRec t p).bound = (posRec s p).bound ∧
        (posRec t p).filtered = (posRec s p).filtered ∧ (posRec t p).history = (posRec s p).history ∧
        (posRec t p).cond.level = (posRec s p).cond.level ∧ (posRec t p).cond.active = (posRec s p).cond.active) ∧
      t.truckWalk = s.truckWalk ∧
      t.trailerWalk =
        (if s.trailerWalk.walk.isSome then { s.trailerWalk with walk := none, result := some .setChanged }
        else s.trailerWalk) ∧
      let half := (List.finRange 32).filter (fun p => decide (16 ≤ p.val))
      ∃ u v, ClosesEvent s half none u v ∧
        (∀ p : Pos, p.val < 16 → posRec u p = posRec t p) ∧
        (∀ p : Pos, 16 ≤ p.val →
          let r := if hasBinding (posRec s p).state = true then freshRec .unbound none (posRec s p)
            else besideLeavers s half p
          posRec u p =
            { r with
              state := (posRec t p).state, bound := (posRec t p).bound, cache := (posRec t p).cache
              cond := { r.cond with
                pendingLevel :=
                  if t.vehicle.load ≠ s.vehicle.load ∨ lifted t p ≠ lifted s p then none
                  else r.cond.pendingLevel } }) ∧
        t =
          (if s.trailerWalk.walk.isSome then
            placeService
              (.long 0x1E [fld 1 1, fld 3 3, fld 5 s.trailerWalk.bound, satFld 8 s.trailerWalk.implausible,
                satFld 8 s.trailerWalk.ambiguous])
              { v with trailerWalk := { s.trailerWalk with walk := none, result := some .setChanged } }
          else v)

/-! ## Chapter 4 -/

/-- The silence expiry of a WAITING or LIVE position that has counted to its timeout: SILENT with its condition, the
binding and the runtime kept, TWIN ended with it at both partners, and nothing else of any position changed (R64, R117,
R118); closed as an event of the condition unit, with a RAISED frame of the position, and no other where TWIN does not
clear with it (R117, R122, R123). -/
def Obligations.SilenceExpires : Prop :=
  ∀ (p : Pos) (s : State), (posRec s p).state = .waiting ∨ (posRec s p).state = .live → s.vehicle.motion = .moving →
    lifted s p = false → s.content.settings.silenceTimeout * 1000 ≤ (posRec s p).silence →
    ∃ t, exec (.silenceExpiry p) s = .next t ∧
      (posRec t p).state = .silent ∧ (posRec t p).cond.active.silent = true ∧
      (∃ u, ClosesEvent s [] none u t ∧
        (let r := if twinEnds s p = true then withoutTwin (posRec s p) else posRec s p
         posRec u p =
           { r with state := .silent, cond := { r.cond with active := { r.cond.active with silent := true } } }) ∧
        ∀ q : Pos, q ≠ p → posRec u q = besideLeavers s [p] q) ∧
      (∀ q : Pos, q ≠ p → q ≠ mateOf p → posRec t q = posRec s q) ∧
      t.content = s.content ∧ t.vehicle = s.vehicle ∧ t.table = s.table ∧ t.mgmt = s.mgmt ∧ t.store = s.store ∧
      ((posRec s p).cond.active.silent = false → (posRec s p).cond.active.twin = false →
        let out := offerFrame (alertFrame t p .raised) s.tx
        (posRec t p).cond.lastAlert = some s.time ∧ (posRec t p).cond.owed = !out.placed ∧
        ((∀ ch : ChanNo, (chanConfig s ch).trigger ≠ .alert) → t.tx = out.tx ∧ t.chan = s.chan))

/-- WRITE POSITION past the gate (R52, R53): refused while a walk is open in its half; otherwise the record is written,
a position made unfit is VACANT with its whole runtime cleared (R57, R110), and its neighbour on the axle loses at most
TWIN (R117), one made fit is bound if an active entry names it, and a write that changes neither field changes nothing
but the flag. A position made unfit that had something active or owed gets its RESET frame (R57, R122), and the reply
DONE comes after the frames of the event (log 9). -/
def Obligations.PositionIsWritten : Prop :=
  ∀ (position : Byte) (fitted : Bool) (cls : BitVec 3) (p : Pos) (s : State),
    Served lockTables s → posArg position = some p →
    (walkOpen s (halfOf p) = true →
      exec (.writePosition 3 position fitted cls) s = .next (reply 0x04 .walkOpen s)) ∧
    (walkOpen s (halfOf p) = false → ∃ t, exec (.writePosition 3 position fitted cls) s = .next t ∧
      (let left := if (geometry s p).fitted = true ∧ fitted = false then [p] else []
       ∃ u v, t = reply 0x04 .done v ∧ ClosesEvent s left none u v ∧
        (∀ q : Pos, q ≠ p → posRec u q = besideLeavers s left q) ∧
        let r :=
          if (geometry s p).fitted = true ∧ fitted = false then
            if hasBinding (posRec s p).state = true then freshRec .vacant none (posRec s p)
            else { posRec s p with state := .vacant, bound := none }
          else if (geometry s p).fitted = false ∧ fitted = true then
            { posRec s p with
              state := if (entryFor s p).isSome then .waiting else .unbound, bound := entryFor s p }
          else posRec s p
        posRec u p =
          if (geometry s p).cls.val = cls.toNat then r
          else { r with cache := cacheFor t p, cond := { r.cond with pendingLevel := none } }) ∧
      (∀ q : Pos, geometry t q = if q = p then { fitted := fitted, cls := Fin.ofNat 8 cls.toNat } else geometry s q) ∧
      t.content = { s.content with geometry := t.content.geometry } ∧
      t.store = { s.store with changed := true } ∧ t.table = s.table ∧ t.vehicle = s.vehicle ∧ t.mgmt = s.mgmt ∧
      t.truckWalk = s.truckWalk ∧ t.trailerWalk = s.trailerWalk ∧
      ((geometry s p).fitted = true → fitted = false →
        (posRec t p).state = .vacant ∧ (posRec t p).bound = none) ∧
      (posRec t p).cache =
        (if (geometry s p).cls.val = cls.toNat then (posRec s p).cache else cacheFor t p) ∧
      (∀ q : Pos, q ≠ p → q ≠ mateOf p → posRec t q = posRec s q) ∧
      ((geometry s p).fitted = false → fitted = true →
        (posRec t p).bound = entryFor s p ∧
        (posRec t p).state = (if (entryFor s p).isSome then .waiting else .unbound)) ∧
      ((geometry s p).fitted = fitted → (geometry s p).cls.val ≠ cls.toNat →
        posRec t p =
          { posRec s p with cache := cacheFor t p, cond := { (posRec s p).cond with pendingLevel := none } }) ∧
      ((geometry s p).fitted = fitted → (geometry s p).cls.val = cls.toNat →
        t = { reply 0x04 .done s with store := { s.store with changed := true }, content := t.content }))

/-- WRITE AXLE past the gate (R52, R54, R43): refused while a walk is open in its half; otherwise the record is written,
an axle made not liftable leaves the lift mask in force, whose change re-derives the threshold caches of the positions
on it and discards their pending levels (R45, R109), no other position changes, and the reply is DONE. -/
def Obligations.AxleIsWritten : Prop :=
  ∀ (axle : Byte) (near : BitVec 2) (margin : BitVec 6) (liftable : Bool) (a : AxleNo) (x : AxleRec) (s : State),
    Served lockTables s → axleArg axle = some a → axleRecArg near margin liftable = some x →
    (walkOpen s (if a.val < 4 then .truck else .trailer) = true →
      exec (.writeAxle 4 axle near margin liftable) s = .next (reply 0x05 .walkOpen s)) ∧
    (walkOpen s (if a.val < 4 then .truck else .trailer) = false →
      ∃ t, exec (.writeAxle 4 axle near margin liftable) s = .next t ∧ t.tx = (reply 0x05 .done s).tx ∧
        (∀ b : AxleNo, pick t.content.axles b = if b = a then x else pick s.content.axles b) ∧
        t.content = { s.content with axles := t.content.axles } ∧ t.store = { s.store with changed := true } ∧
        t.vehicle = { s.vehicle with lift := t.vehicle.lift } ∧
        (∀ b : AxleNo, t.vehicle.lift.getLsbD b.val =
          (s.vehicle.lift.getLsbD b.val &&
            !(decide (b = a) && (pick s.content.axles a).liftable && !liftable))) ∧
        (∀ p : Pos, posRec t p =
          if p.val / 4 = a.val ∧ s.vehicle.lift.getLsbD a.val = true ∧ (pick s.content.axles a).liftable = true ∧
              liftable = false then
            { posRec s p with cache := cacheFor t p, cond := { (posRec s p).cond with pendingLevel := none } }
          else posRec s p) ∧
        t.chan = s.chan ∧
        t.table = s.table ∧ t.mgmt = s.mgmt ∧ t.truckWalk = s.truckWalk ∧ t.trailerWalk = s.trailerWalk)

/-- CLEAR POSITION (R67): a bound position keeps its entry, becomes WAITING and has a clear runtime (R57, R110), and its
neighbour on the axle loses at most TWIN (R117); any other position stays as it is; no stored content and no acceptance
changes. Where the position had something active or owed, its RESET frame is generated, and no other where TWIN does not
clear with it (R57, R117, R122); the reply DONE comes after it (log 9). -/
def Obligations.PositionIsCleared : Prop :=
  ∀ (position : Byte) (p : Pos) (s : State), s.mgmt.restartPending = false → posArg position = some p →
    (hasBinding (posRec s p).state = false → exec (.clearPosition 2 position) s = .next (reply 0x07 .done s)) ∧
    (hasBinding (posRec s p).state = true → ∃ t, exec (.clearPosition 2 position) s = .next t ∧
      (∃ u v, t = reply 0x07 .done v ∧ ClosesEvent s [p] none u v ∧
        posRec u p = freshRec .waiting (posRec s p).bound (posRec s p) ∧
        ∀ q : Pos, q ≠ p → posRec u q = besideLeavers s [p] q) ∧
      (posRec t p).state = .waiting ∧ (posRec t p).bound = (posRec s p).bound ∧
      (posRec t p).cache = (posRec s p).cache ∧
      (∀ q : Pos, q ≠ p → q ≠ mateOf p → posRec t q = posRec s q) ∧
      t.content = s.content ∧ t.table = s.table ∧ t.store = s.store ∧ t.vehicle = s.vehicle ∧ t.mgmt = s.mgmt ∧
      t.truckWalk = s.truckWalk ∧ t.trailerWalk = s.trailerWalk ∧
      let c := (posRec s p).cond
      let something := c.level ≠ .normal ∨ (∃ k : Condition, condGet c.active k = true) ∨ c.owed = true
      (¬something → t.tx = (reply 0x07 .done s).tx ∧ t.chan = s.chan) ∧
      (something → c.active.twin = false →
        let out := offerFrame (alertFrame t p .reset) s.tx
        (posRec t p).cond.lastAlert = some s.time ∧ (posRec t p).cond.owed = !out.placed ∧
        ((∀ ch : ChanNo, (chanConfig s ch).trigger ≠ .alert) →
          t.tx = (reply 0x07 .done { s with tx := out.tx }).tx ∧ t.chan = s.chan)))

/-- The reads are answered by their frames and change nothing else (R29, R68, R101, R146, R161, R166, R168, R169), and
each frame carries its fields as 12.5.1 and 12.5.2 lay them out. Of these the order of the six port counts inside READ
COUNTERS (log 12), the half codes and the order INTERLEAVED of WALK STATUS (log 22), and the 0 of a last sequence, an
age of an acceptance, a leak rate and the period seconds that are absent (log 25) are the model's reading. The codes of
the named values in the fields are those `WheelFramesAreLaidOut` lists, with the form of a SERVICE frame and of a reply
without data. -/
def Obligations.ReadsPlaceTheirReplies : Prop :=
  ∀ s : State, s.mgmt.restartPending = false →
    let age : Nat → Nat := fun time => min ((s.time - time) / 1000) 255
    let left : Nat → Nat → Nat := fun top due => min ((due - s.time) / 1000) top
    (∀ (b : Byte) (e : EntryNo), entryArg b = some e →
      exec (.readSensorEntry 2 b) s = .next (placeAll [sensorEntryReply s e] s)) ∧
    (∀ (b : Byte) (p : Pos), posArg b = some p →
      exec (.readPosition 2 b) s = .next (placeAll [positionReplyA s p, positionReplyB s p] s)) ∧
    (∀ (b : Byte) (p : Pos) (start count : BitVec 4), posArg b = some p → start.toNat ≤ 7 → 1 ≤ count.toNat →
      count.toNat ≤ 8 →
      exec (.readHistory 3 b start count) s = .next (placeAll (historyReply s p start.toNat count.toNat) s)) ∧
    (∀ (b : Byte) (h : Half), halfArg b = some h →
      exec (.walkStatus 2 b) s = .next (placeAll [walkStatusReply s h] s)) ∧
    (∀ (b : Byte) (c : ChanNo), chanArg b = some c →
      exec (.channelStatus 2 b) s = .next (placeAll [channelStatusReply s c] s)) ∧
    exec (.readSettings 1) s = .next (placeAll (settingsReply s) s) ∧
    exec (.readCounters 1) s = .next (placeAll (countersReply s) s) ∧
    exec (.status 1) s = .next (placeAll [statusReply s] s) ∧
    (∀ e : EntryNo,
      let x := entryAt s e
      let a := pick s.table.accepted e
      carries (sensorEntryReply s e) 3
        [(32, x.sid.toNat), (4, x.pos.val), (2, x.set.val), (1, if x.set = 0 ∨ x.set = s.vehicle.set then 1 else 0),
          (1, if a.isSome then 1 else 0), (4, (a.map (fun k => k.seq.val)).getD 0),
          (8, (a.map (fun k => age k.time)).getD 0), (7, (x.offset % 128).toNat)]) ∧
    (∀ p : Pos,
      let r := posRec s p
      let g := geometry s p
      let h := r.history
      carries (positionReplyA s p) 6
        [(1, 0), (5, p.val), (3, posStateCode r.state), (1, g.fitted.toNat), (3, g.cls.val),
          (6, (r.bound.map (fun e => e.val)).getD 63), (3, (r.lastKind.map kindCode).getD 7),
          (8, (r.lastTime.map age).getD 0), (16, min r.readings 65535), (1, r.battery.toNat), (1, r.fault.toNat),
          (1, r.uncompensated.toNat), (1, r.saturated.toNat)] ∧
      carries (positionReplyB s p) 6
        [(1, 1), (5, p.val), (12, r.cold.getD 4095), (12, r.hot.getD 4095), (12, r.filtered.getD 4095),
          (8, r.temp.getD 0), (8, min (r.silence / 1000) 255)] ∧
      ∀ start count : Nat, count ≤ 8 →
        let places := historyPlaces h.ring.length start count
        (historyReply s p start count).length = 1 + (places.length + 2) / 3 ∧
        (∃ header, (historyReply s p start count)[0]? = some header ∧ carries header 8
          [(2, 0), (5, p.val), (4, h.ring.length), (4, (h.ring.filter Option.isSome).length), (4, places.length),
            (8, min (h.leak.getD 0) 255), (1, if h.leak.isSome then 1 else 0), (1, if h.expiry.isSome then 1 else 0),
            (8, if h.expiry.isSome then min h.count 255 else 0), (12, (h.expiry.map (left 4095)).getD 0),
            (6, s.content.settings.intervalLength)]) ∧
        ∀ i, 3 * i < places.length → ∃ record, (historyReply s p start count)[i + 1]? = some record ∧
          carries record 8 ([(2, i + 1), (5, p.val)] ++
            ((places.drop (3 * i)).take 3).flatMap (fun k => [(3, k), (12, ((h.ring[k]?).join).getD 4095)]))) ∧
    (∀ h : Half,
      let slot := walkSlot s h
      let counts := [(5, slot.bound), (8, min slot.implausible 255), (8, min slot.ambiguous 255)]
      (∀ w : OpenWalk, slot.walk = some w → carries (walkStatusReply s h) 0x0D
        ([(1, halfCode h), (1, 1), (2, w.target.val), (3, Nat.log2 w.length), (1, orderCode w.order),
          (5, w.current.val), (4, w.step), (10, left 1023 w.expiry), (3, 7)] ++ counts)) ∧
      (slot.walk = none → carries (walkStatusReply s h) 0x0D
        ([(1, halfCode h), (1, 0), (2, 0), (3, 0), (1, 0), (5, 0), (4, 0), (10, 0),
          (3, (slot.result.map resultCode).getD 7)] ++ counts))) ∧
    (∀ c : ChanNo,
      let r := chanRun s c
      let k := chanConfig s c
      carries (channelStatusReply s c) 0x13
        [(2, c.val), (3, chanStateCode r.state), (5, r.pointer.val), (17, r.remaining), (6, r.blockRem),
          (1, r.pendingTrigger.toNat), (8, min r.overrun 255), (1, if r.due.isSome then 1 else 0),
          (8, (r.due.map (left 255)).getD 0)] ∧
      ∃ frame, (settingsReply s)[2 + c.val]? = some frame ∧ carries frame 0x15
        [(3, 2 + c.val), (2, triggerCode k.trigger), (2, modeCode k.mode), (2, stepCode k.step), (5, k.start.val),
          (6, k.blockLen), (16, k.count), (8, k.period), (1, k.skipVacant.toNat), (1, k.cyclic.toNat),
          (1, k.powerUp.toNat)]) ∧
    (let x := s.content.settings
     (settingsReply s).length = 6 ∧
     (∃ frame, (settingsReply s)[0]? = some frame ∧ carries frame 0x15
       [(3, 0), (8, (x.tref % 256).toNat), (11, x.silenceTimeout), (6, x.repeatPeriod), (6, x.intervalLength)]) ∧
     (∃ frame, (settingsReply s)[1]? = some frame ∧ carries frame 0x15
       [(3, 1), (14, x.reportLifetime), (10, x.walkWindow), (4, x.node), (2, x.protect)])) ∧
    (let counts := [s.frontPort.taken, s.frontPort.badCheck, s.frontPort.badFraming, s.rearPort.taken,
       s.rearPort.badCheck, s.rearPort.badFraming, s.dup.merges, s.dup.evictions, s.table.inactiveSet,
       s.table.lateRepeat, s.table.unplaced, s.strangers.replaced, s.tx.reportEvictions, s.tx.staleDiscards,
       s.tx.refusedAlerts, s.tx.lostService]
     (countersReply s).length = 6 ∧
     ∀ i, i < 6 → ∃ frame, (countersReply s)[i]? = some frame ∧ carries frame 0x17
       ((3, i) :: ((counts.drop (3 * i)).take 3).map (fun n => (16, min n 65535)))) ∧
    carries (statusReply s) 0x18
      [(1, s.store.configured.toNat), (1, if s.store.job.isSome then 1 else 0),
        (2, if s.store.lastOk = none then 0 else if s.store.lastOk = some true then 1 else 2),
        (1, s.store.changed.toNat), (1, s.mgmt.summary.toNat), (1, s.vehicle.stale.toNat),
        (2, loadCode s.vehicle.load), (1, motionCode s.vehicle.motion), (8, s.vehicle.ambient),
        (8, s.vehicle.lift.toNat), (2, s.vehicle.set.val), (2, s.content.settings.protect), (1, s.tx.busOff.toNat),
        (1, if s.truckWalk.walk.isSome then 1 else 0), (1, if s.trailerWalk.walk.isSome then 1 else 0)]

/-! ## Chapter 5 -/

/-- The cold-equivalent absolute pressure is the scaled pressure rounded to the nearest whole pu, an exact half upward,
and clamped at 4094 with its mark (R77). -/
def Obligations.ColdEquivalentIsNearest : Prop :=
  ∀ (pabs trk tk : Nat), 0 < tk →
    let q := (coldEquivalent pabs trk tk).value
    ((coldEquivalent pabs trk tk).clamped = false →
      2 * q * tk ≤ 2 * pabs * trk + tk ∧ 2 * pabs * trk + tk < 2 * (q + 1) * tk ∧ q ≤ 4094) ∧
    ((coldEquivalent pabs trk tk).clamped = true → q = 4094 ∧ 2 * 4095 * tk ≤ 2 * pabs * trk + tk) ∧
    (trk = tk → pabs ≤ 4094 → q = pabs)

/-- The filter keeps its ranges and settles: with the same x arriving, S stays in the band from 4x to 4x + 3, rises to
exactly 4x from below with F at x, and falls to exactly 4x + 3 from above with F at x + 1 (R80). -/
def Obligations.FilterSettles : Prop :=
  ∀ (kind : TelKind) (x a : Nat), kind ≠ .rapid → x ≤ 4094 → a ≤ 16376 →
    let next := fun a => filterStep kind x (some a)
    next a ≤ 16376 ∧ filteredOf a ≤ 4094 ∧ filterStep kind x none ≤ 16376 ∧
    (4 * x ≤ a → a ≤ 4 * x + 3 → next a = a) ∧
    (a < 4 * x → ∃ n, Nat.repeat next n a = 4 * x ∧ filteredOf (4 * x) = x) ∧
    (4 * x + 3 < a → ∃ n, Nat.repeat next n a = 4 * x + 3 ∧ filteredOf (4 * x + 3) = x + 1)

/-- The record a reading leaves: the two gauges of the calibrated and the cold-equivalent pressure, the filter started or
moved on, the flags and the held temperature, or, without a pressure, everything of the pressure kept; and the judging
temperature handed on (R72 to R74, R78, R79, R81, R86). -/
def Obligations.ReadingIsCompensated : Prop :=
  (∀ (kind : TelKind) (x a : Nat),
    filterStep kind x none = 4 * x ∧ filterStep .rapid x (some a) = 4 * x ∧
    (kind ≠ .rapid → filterStep kind x (some a) = a - a / 4 + x) ∧ filteredOf a = (a + 2) / 4) ∧
  ∀ (tref : Int) (ambient : Nat) (rd : Reading) (r : PosRec),
    let tel := rd.telegram
    let c := compensate tref ambient rd r
    let heldUsable := ∃ h, r.held = some h ∧ rd.time < h.time + 600000
    c.out.battery = tel.battery ∧ (c.out.fault = true ↔ tel.fault = true ∨ tel.pressure = 4095) ∧
    c.out.temp = some tel.temp ∧
    c.out.held = (if tel.temp = 255 then r.held else some { code := tel.temp, time := rd.time }) ∧
    (c.out.uncompensated = true ↔ tel.temp = 255 ∧ ¬heldUsable) ∧
    (tel.temp ≠ 255 → c.judging = some tel.temp) ∧
    (tel.temp = 255 → ∀ h, r.held = some h → rd.time < h.time + 600000 → c.judging = some h.code) ∧
    (tel.temp = 255 → ¬heldUsable → c.judging = none) ∧
    (tel.pressure = 4095 →
      c.out.cold = r.cold ∧ c.out.hot = r.hot ∧ c.out.acc = r.acc ∧ c.out.filtered = r.filtered ∧
      c.out.saturated = r.saturated ∧ c.clamped = false) ∧
    (tel.pressure ≠ 4095 →
      let pabs := (max 0 (min ((tel.pressure : Int) + rd.offset) 4094)).toNat
      let tk := if tel.temp ≠ 255 then tel.temp + 223
        else match r.held with
          | some h => if rd.time < h.time + 600000 then h.code + 223 else (tref + 273).toNat
          | none => (tref + 273).toNat
      let cabs := coldEquivalent pabs (tref + 273).toNat tk
      c.out.cold = some (cabs.value - ambient) ∧ c.out.hot = some (pabs - ambient) ∧
      c.out.acc = some (filterStep tel.kind (cabs.value - ambient) r.acc) ∧
      c.out.filtered = some (filteredOf (filterStep tel.kind (cabs.value - ambient) r.acc)) ∧
      c.clamped =
        (decide ((tel.pressure : Int) + rd.offset < 0 ∨ 4094 < (tel.pressure : Int) + rd.offset) || cabs.clamped) ∧
      c.out.saturated = (r.saturated || c.clamped))

/-! ## Chapter 6 -/

/-- An interval expiry: the average, rounded to nearest, or EMPTY joins the ring, the oldest record leaving a full one;
the next interval starts at the expiry; the leak rate is estimated on the new ring and LEAK judged on it; no other
position changes (R93, R94, R97, R98). A LEAK raised or cleared is the change of alert state of an event, which generates
its RAISED or CLEARED frame; a LEAK that stays generates none (R122, R123). -/
def Obligations.IntervalExpires : Prop :=
  ∀ (p : Pos) (due : Nat) (s : State), (posRec s p).history.expiry = some due → due ≤ s.time →
    ∃ t, exec (.intervalExpiry p) s = .next t ∧
      let h := (posRec s p).history
      let minutes := s.content.settings.intervalLength
      let rec_ := if h.count = 0 then none else some ((h.sum + h.count / 2) / h.count)
      let ring := if h.ring.length < 8 then h.ring ++ [rec_] else h.ring.drop 1 ++ [rec_]
      let limit := (mainProfile s p).leakLimit
      (posRec t p).history =
        { expiry := some (due + minutes * 60000), sum := 0, count := 0, ring := ring, leak := leakRate ring minutes } ∧
      ((posRec t p).cond.active.leak = true ↔ ∃ rate, leakRate ring minutes = some rate ∧ limit ≠ 0 ∧
        (if (posRec s p).cond.active.leak then limit / 2 ≤ rate else limit ≤ rate)) ∧
      (let c := (posRec s p).cond
       let c' := (posRec t p).cond
       posRec t p =
         { posRec s p with
           history := (posRec t p).history
           cond :=
             { c with
               active := { c.active with leak := c'.active.leak }
               acked := { c.acked with leak := c'.acked.leak }
               lastAlert := c'.lastAlert
               repeatDue := c'.repeatDue
               owed := c'.owed } }) ∧
      (∀ q : Pos, q ≠ p → posRec t q = posRec s q) ∧
      t.content = s.content ∧ t.vehicle = s.vehicle ∧ t.table = s.table ∧ t.mgmt = s.mgmt ∧ t.store = s.store ∧
      (∃ u, ClosesEvent s [] none u t ∧ (∀ q : Pos, q ≠ p → posRec u q = posRec s q) ∧
        let c := (posRec s p).cond
        let c' := (posRec t p).cond
        posRec u p =
          { posRec s p with
            history := (posRec t p).history
            cond := { c with
              active := { c.active with leak := c'.active.leak }
              acked := { c.acked with leak := c'.acked.leak } } }) ∧
      let old := (posRec s p).cond.active.leak
      let new := (posRec t p).cond.active.leak
      (old = new → t.tx = s.tx ∧ t.chan = s.chan ∧ (posRec t p).cond = (posRec s p).cond) ∧
      (old ≠ new → (new = false → (posRec t p).cond.acked.leak = false) ∧
        let out := offerFrame (alertFrame t p (if new then .raised else .cleared)) s.tx
        (posRec t p).cond.lastAlert = some s.time ∧ (posRec t p).cond.owed = !out.placed ∧
        ((∀ ch : ChanNo, (chanConfig s ch).trigger ≠ .alert) → t.tx = out.tx ∧ t.chan = s.chan))

/-- The leak estimate: with at least 4 averages, the fall from the oldest to the newest over the minutes between their
places, and nothing where the pressure has not fallen; absent with fewer (R97). -/
def Obligations.LeakRateIsEstimated : Prop :=
  ∀ (ring : List (Option Nat)) (minutes : Nat),
    ((ring.filter Option.isSome).length < 4 → leakRate ring minutes = none) ∧
    (4 ≤ (ring.filter Option.isSome).length → ∀ (i j a z : Nat),
      ring[i]? = some (some a) → ring[j]? = some (some z) →
      (∀ k v, ring[k]? = some (some v) → i ≤ k ∧ k ≤ j) →
      leakRate ring minutes =
        some (if z < a then min ((a - z) * 60 / ((j - i) * minutes)) 65535 else 0))

/-- The records READ HISTORY returns: as many as asked for and held, from the start place modulo the number held, in
ascending order around the ring, each place at most once (R102). -/
def Obligations.HistoryPlacesAreInOrder : Prop :=
  ∀ (n start count : Nat),
    (n = 0 → historyPlaces n start count = []) ∧
    (0 < n →
      (historyPlaces n start count).length = min count n ∧
      (∀ i, i < min count n → (historyPlaces n start count)[i]? = some ((start % n + i) % n)) ∧
      (historyPlaces n start count).Nodup)

/-! ## Chapter 7 -/

/-- The threshold cache of a position as its main and low profile give it (R107, R108). WRITE PROFILE A and B past the
gate (R105, R106, R109): the fields of the request are replaced, those of the other half kept, the caches of the
positions of the class re-derived with their pending levels discarded, and the reply is DONE. -/
def Obligations.ProfileIsWritten : Prop :=
  (∀ (p : Pos) (s : State),
    let cls := (geometry s p).cls
    let main := profileFor s s.vehicle.load cls
    let low := if s.vehicle.lift.getLsbD (p.val / 4) then profileFor s .empty cls else main
    mainProfile s p = main ∧ lowProfile s p = low ∧
    cacheFor s p =
      { checks := decide (main.nominal ≠ 0 ∧ low.nominal ≠ 0)
        low := low.nominal * low.lowPct / 100
        critical := low.nominal * low.critPct / 100
        high := main.nominal * main.highPct / 100
        band := max 2 (main.nominal / 50)
        hotLimit := main.hotLimit
        twinLimit := main.twinLimit }) ∧
  ∀ (load : BitVec 2) (l : LoadState) (cls : BitVec 3) (s : State), Served lockTables s → loadArg load = some l →
    let k : Fin 8 := Fin.ofNat 8 cls.toNat
    let old := profileFor s l k
    let effect : Byte → Profile → State → Prop := fun kind new t =>
      t.tx = (reply kind .done s).tx ∧
      profileFor t l k = new ∧
      (∀ (l' : LoadState) (k' : Fin 8), ¬(l' = l ∧ k' = k) → profileFor t l' k' = profileFor s l' k') ∧
      t.content = { s.content with profiles := t.content.profiles } ∧ t.store = { s.store with changed := true } ∧
      (∀ p : Pos, posRec t p =
        if (geometry s p).cls = k then
          { posRec s p with cache := cacheFor t p, cond := { (posRec s p).cond with pendingLevel := none } }
        else posRec s p) ∧
      t.vehicle = s.vehicle ∧ t.table = s.table ∧ t.chan = s.chan ∧ t.mgmt = s.mgmt
    (∀ (nominal : BitVec 12) (low crit high : Byte),
      nominal.toNat ≤ 4094 → 50 ≤ low.toNat → low.toNat ≤ 99 → 30 ≤ crit.toNat → crit.toNat < low.toNat →
      101 ≤ high.toNat → high.toNat ≤ 150 →
      ∃ t, exec (.writeProfileA 7 load cls nominal low crit high) s = .next t ∧
        effect 0x09
          { old with nominal := nominal.toNat, lowPct := low.toNat, critPct := crit.toNat, highPct := high.toNat } t) ∧
    (∀ (hot twin leak : Byte), hot.toNat = 0 ∨ 40 ≤ hot.toNat ∧ hot.toNat ≤ 150 →
      ∃ t, exec (.writeProfileB 5 load cls hot twin leak) s = .next t ∧
        effect 0x0A { old with hotLimit := hot.toNat, twinLimit := twin.toNat, leakLimit := leak.toNat } t)

/-- The level: NORMAL at once while the pressure checks are off (R111); else its candidate by the table of R112, which
takes effect at the second of two readings that agree (R113), and LOW or CRITICAL at once at a RAPID reading (R114); the
acknowledgement of the level outlives only CRITICAL to LOW (R129). The conditions: HOT (R115), FAULT (R119), BATTERY
(R120), each changing nothing but its own mark, its acknowledgement and count, and TWIN at both partners (R116). -/
def Obligations.LevelIsConfirmed : Prop :=
  (∀ (kind : TelKind) (cand : Level) (c : Cond),
    let at_once := kind = .rapid ∧ (cand = .low ∨ cand = .critical)
    let r := takeCandidate kind cand c
    (at_once → r.level = cand ∧ r.pendingLevel = none) ∧
    (¬at_once → cand = c.level → r.level = c.level ∧ r.pendingLevel = none) ∧
    (¬at_once → cand ≠ c.level → c.pendingLevel ≠ some cand → r.level = c.level ∧ r.pendingLevel = some cand) ∧
    (¬at_once → cand ≠ c.level → c.pendingLevel = some cand → r.level = cand ∧ r.pendingLevel = none) ∧
    (r.ackLevel = true ↔ c.ackLevel = true ∧ (r.level = c.level ∨ c.level = .critical ∧ r.level = .low)) ∧
    r.active = c.active ∧ r.acked = c.acked ∧ r.owed = c.owed ∧ r.repeatDue = c.repeatDue) ∧
  (∀ (k : Cache) (kind : TelKind) (f : Nat) (c : Cond),
    (k.checks = true → judgeLevel k kind f c = takeCandidate kind (candidate k c.level f) c) ∧
    (k.checks = false → judgeLevel k kind f c =
      { c with
        level := .normal, pendingLevel := none
        ackLevel := c.ackLevel && decide (c.level = .normal) })) ∧
  (∀ (k : Cache) (f : Nat),
    let fromNormal := candidate k .normal f
    let fromLow := candidate k .low f
    let fromCritical := candidate k .critical f
    let fromHigh := candidate k .high f
    (fromNormal = .critical ↔ f ≤ k.critical) ∧ (fromNormal = .low ↔ k.critical < f ∧ f ≤ k.low) ∧
    (fromNormal = .high ↔ k.critical < f ∧ k.low < f ∧ k.high ≤ f) ∧
    (fromLow = .critical ↔ f ≤ k.critical) ∧ (fromLow = .high ↔ k.critical < f ∧ k.low + k.band ≤ f ∧ k.high ≤ f) ∧
    (fromLow = .normal ↔ k.critical < f ∧ k.low + k.band ≤ f ∧ f < k.high) ∧
    (fromCritical = .normal ↔ k.low + k.band ≤ f) ∧ (fromCritical = .low ↔ f < k.low + k.band ∧ k.critical + k.band ≤ f) ∧
    fromCritical ≠ .high ∧
    (fromHigh = .critical ↔ f + k.band ≤ k.high ∧ f ≤ k.critical) ∧
    (fromHigh = .low ↔ f + k.band ≤ k.high ∧ k.critical < f ∧ f ≤ k.low) ∧
    (fromHigh = .normal ↔ f + k.band ≤ k.high ∧ k.critical < f ∧ k.low < f)) ∧
  (∀ (limit : Nat) (judging : Option Nat) (c : Cond),
    let r := judgeHot limit judging c
    let celsius : Nat → Int := fun code => (code : Int) - 50
    (limit = 0 → r.active.hot = false) ∧ (limit ≠ 0 → judging = none → r = c) ∧
    (∀ code, limit ≠ 0 → judging = some code →
      (c.active.hot = false → (r.active.hot = true ↔ (limit : Int) ≤ celsius code)) ∧
      (c.active.hot = true → (r.active.hot = false ↔ celsius code < (limit : Int) - 5))) ∧
    r = { c with
      active := { c.active with hot := r.active.hot }
      acked := { c.acked with hot := c.acked.hot && !(c.active.hot && !r.active.hot) } }) ∧
  (∀ (b : Bool) (c : Cond), judgeFault b c =
    { c with active := { c.active with fault := b }, acked := { c.acked with fault := c.acked.fault && b } }) ∧
  (∀ c : Cond,
    judgeBattery true c = { c with active := { c.active with battery := true }, batteryClear := 0 } ∧
    (c.active.battery = false → judgeBattery false c = c) ∧
    (c.active.battery = true → c.batteryClear < 2 →
      judgeBattery false c = { c with batteryClear := c.batteryClear + 1 }) ∧
    (c.active.battery = true → c.batteryClear = 2 → judgeBattery false c =
      { c with
        active := { c.active with battery := false }, acked := { c.acked with battery := false }, batteryClear := 0 })) ∧
  (∀ (p : Pos) (s : State),
    let q := mateOf p
    let x := posRec s p
    let y := posRec s q
    let judged := (geometry s p).fitted = true ∧ (geometry s q).fitted = true ∧ y.state = .live ∧
      x.filtered.isSome = true ∧ y.filtered.isSome = true
    let limit := min x.cache.twinLimit y.cache.twinLimit
    let both : (Cond → Cond) → State := fun f => modCond q f (modCond p f s)
    let raised := both (fun c => { c with active := { c.active with twin := true } })
    let cleared := both (fun c =>
      { c with active := { c.active with twin := false }, acked := { c.acked with twin := false } })
    let on := x.cond.active.twin = true
    (¬judged → judgeTwin p s = s) ∧
    (∀ fp fq, judged → x.filtered = some fp → y.filtered = some fq →
      let d := max fp fq - min fp fq
      (limit = 0 → on → judgeTwin p s = cleared) ∧ (limit = 0 → ¬on → judgeTwin p s = s) ∧
      (limit ≠ 0 → ¬on → limit ≤ d → judgeTwin p s = raised) ∧ (limit ≠ 0 → ¬on → d < limit → judgeTwin p s = s) ∧
      (limit ≠ 0 → on → d + x.cache.band < limit → judgeTwin p s = cleared) ∧
      (limit ≠ 0 → on → limit ≤ d + x.cache.band → judgeTwin p s = s)))

/-- An ACK marks an active item of its position, may slow a running repeat timer, and changes nothing else (R128). That
an ACK of an item that is not active or is acknowledged already leaves the repeat timer alone too is the model's reading
(log 16). The severity of a position is that of its worst active level or condition, and what a severity of 2 or 3 still
waits for is an acknowledgement (R121, R125). -/
def Obligations.AckMarksItsItem : Prop :=
  (∀ (position item : Byte) (p : Pos) (k : AckItem) (s : State), posArg position = some p → ackItem item = some k →
    ∃ t, exec (.ack 2 position item) s = .next t ∧ t = { s with pos := t.pos } ∧
      (∀ q : Pos, q ≠ p → posRec t q = posRec s q) ∧
      let c := (posRec s p).cond
      let c' := (posRec t p).cond
      posRec t p = { posRec s p with cond := c' } ∧
      c' = { c with ackLevel := c'.ackLevel, acked := c'.acked, repeatDue := c'.repeatDue } ∧
      (itemActive c k = false ∨ itemAcked c k = true → c' = c) ∧
      (itemActive c k = true → itemAcked c' k = true) ∧
      (∀ k' : AckItem, k' ≠ k → itemAcked c' k' = itemAcked c k') ∧
      (itemActive c k = true → itemAcked c k = false →
        c'.repeatDue =
          if c.repeatDue.isSome = true ∧ 2 ≤ severity c ∧ unansweredSerious c' = false ∧ c.owed = false then
            c.lastAlert.map (fun a => a + 12 * (s.content.settings.repeatPeriod * 1000))
          else c.repeatDue)) ∧
  ∀ c : Cond,
    let two := c.level = .low ∨ c.active.hot = true ∨ c.active.silent = true ∨ c.active.leak = true
    let one := c.level = .high ∨ c.active.twin = true ∨ c.active.fault = true ∨ c.active.battery = true
    (severity c = 3 ↔ c.level = .critical) ∧ (severity c = 2 ↔ c.level ≠ .critical ∧ two) ∧
    (severity c = 1 ↔ c.level ≠ .critical ∧ ¬two ∧ one) ∧ (severity c = 0 ↔ c.level ≠ .critical ∧ ¬two ∧ ¬one) ∧
    (unansweredSerious c = true ↔
      ((c.level = .low ∨ c.level = .critical) ∧ c.ackLevel = false) ∨
      (c.active.hot = true ∧ c.acked.hot = false) ∨ (c.active.silent = true ∧ c.acked.silent = false) ∨
      (c.active.leak = true ∧ c.acked.leak = false))

/-- A repeat timer that is due: a REPEAT frame for the position, the last alert time, the owed flag and the timer set by
its placing; no other position changes (R125, R126). The reason of the frame an event generates for a position: RESET,
RAISED, CLEARED, in this order, by its alert state before and after (R121, R122; from CRITICAL to HIGH, which the table
of R121 does not name, nothing is said); an event that changes the alert state of one position alone generates its frame
and no other, and the frame leaves its marks whether the queue placed it or not (R123, R125, R126). Any event generates
one frame for each position with a reason, in ascending order, and then tells the channels of them and of its reading
(R122, R123, R61 step 6); what that telling does, `TriggerStartsWork` says. Of a position that gets a frame the close
changes the last alert time, the repeat timer and the owed flag alone, of any other nothing (R125), and beside these the
queue and the channels. -/
def Obligations.RepeatTimerExpires : Prop :=
  (∀ (p : Pos) (due : Nat) (s : State), (posRec s p).cond.repeatDue = some due → due ≤ s.time →
    let c := (posRec s p).cond
    let out := offerFrame
      { cls := .alert, entry := s.time, body := .alert (viewOf s p) .repeated, offered := none, awaited := none } s.tx
    let period := s.content.settings.repeatPeriod * 1000
    ∃ t, exec (.repeatTimerExpiry p) s = .next t ∧
      posRec t p = { posRec s p with
        cond := { c with
          lastAlert := some s.time
          owed := !out.placed
          repeatDue :=
            if out.placed = false ∨ unansweredSerious c = true then some (s.time + period)
            else if 2 ≤ severity c then some (s.time + 12 * period)
            else none } } ∧
      (∀ q : Pos, q ≠ p → posRec t q = posRec s q) ∧
      (∃ u, t = tellChannels [p] none u ∧ u.tx = out.tx ∧ u.chan = s.chan) ∧
      ((∀ ch : ChanNo, (chanConfig s ch).trigger ≠ .alert) → t.tx = out.tx ∧ t.chan = s.chan) ∧
      t.content = s.content ∧ t.vehicle = s.vehicle ∧ t.table = s.table ∧ t.mgmt = s.mgmt ∧ t.store = s.store) ∧
  (∀ (cleared : Bool) (old new : Cond), ¬(old.level = .critical ∧ new.level = .high) →
    let was := cleared = true ∧
      (old.level ≠ .normal ∨ (∃ k : Condition, condGet old.active k = true) ∨ old.owed = true)
    let raise := (old.level, new.level) ∈
        [(Level.normal, Level.low), (.normal, .critical), (.normal, .high), (.low, .critical), (.low, .high),
          (.high, .low), (.high, .critical)] ∨
      ∃ k : Condition, condGet old.active k = false ∧ condGet new.active k = true
    let clear := (old.level, new.level) ∈
        [(Level.low, Level.normal), (.critical, .low), (.critical, .normal), (.high, .normal)] ∨
      ∃ k : Condition, condGet old.active k = true ∧ condGet new.active k = false
    (was → alertReason cleared old new = some .reset) ∧ (¬was → raise → alertReason cleared old new = some .raised) ∧
    (¬was → ¬raise → clear → alertReason cleared old new = some .cleared) ∧
    (¬was → ¬raise → ¬clear → alertReason cleared old new = none)) ∧
  (∀ (p : Pos) (touched : List Pos) (before s : State),
    (∀ q : Pos, q ≠ p → (posRec s q).cond = (posRec before q).cond ∧ q ∉ touched) →
    let cleared := decide (p ∈ touched ∧ hasBinding (posRec before p).state = true)
    let c := (posRec s p).cond
    match alertReason cleared (posRec before p).cond c with
    | none => finishEvent before touched none s = s
    | some why =>
      let out := offerFrame
        { cls := .alert, entry := s.time, body := .alert (viewOf s p) why, offered := none, awaited := none } s.tx
      let period := s.content.settings.repeatPeriod * 1000
      finishEvent before touched none s = tellChannels [p] none
        { s with
          tx := out.tx
          pos := put s.pos p { posRec s p with
            cond := { c with
              lastAlert := some s.time
              owed := !out.placed
              repeatDue :=
                if out.placed = false ∨ unansweredSerious c = true then some (s.time + period)
                else if 2 ≤ severity c then some (s.time + 12 * period)
                else none } } }) ∧
  (∀ (before : State) (touched : List Pos) (sample : Option Pos) (s : State),
    let reason : Pos → Option Reason := fun p =>
      alertReason (decide (p ∈ touched ∧ hasBinding (posRec before p).state = true)) (posRec before p).cond
        (posRec s p).cond
    let framed : State → Pos → State := fun u p =>
      match reason p with
      | none => u
      | some why =>
        let c := (posRec u p).cond
        let out := offerFrame (alertFrame u p why) u.tx
        let period := u.content.settings.repeatPeriod * 1000
        { u with
          tx := out.tx
          pos := put u.pos p { posRec u p with
            cond := { c with
              lastAlert := some u.time
              owed := !out.placed
              repeatDue :=
                if out.placed = false ∨ unansweredSerious c = true then some (u.time + period)
                else if 2 ≤ severity c then some (u.time + 12 * period)
                else none } } }
    let t := finishEvent before touched sample s
    t = tellChannels ((List.finRange 32).filter (fun p => (reason p).isSome)) sample
      ((List.finRange 32).foldl framed s) ∧
    t = { s with pos := t.pos, tx := t.tx, chan := t.chan } ∧
    ∀ p : Pos, posRec t p =
      (if (reason p).isSome then
        { posRec s p with
          cond := { (posRec s p).cond with
            lastAlert := some s.time
            repeatDue := (posRec t p).cond.repeatDue
            owed := (posRec t p).cond.owed } }
      else posRec s p))

/-! ## Chapter 8 -/

/-- OPEN WALK past the gate (R131, R132, R134): refused for an open slot or another target set; otherwise the slot is
opened at the first fitted position of the order, its window started, or the walk ends COMPLETE where none is fitted,
the reply placed first, and the other half's slot is kept. The arguments are the half, order, length, target set and window
of the request in their ranges, the start lying in the half (R131 step 1, 12.5.1); the target set is 0 for the TRUCK half,
the attached one and not 0 for the TRAILER half (R131 step 4). That an order bit of 1 is INTERLEAVED, where 12.5.1 names
only 0 SEQUENTIAL, is the model's reading (log 22). -/
def Obligations.WalkIsOpened : Prop :=
  (∀ (start : Byte) (half order : Bool) (code : BitVec 3) (target : BitVec 2) (window : BitVec 10) (a : WalkArgs),
    walkArgs start half order code target window = some a ↔
      start.toNat < 32 ∧ (half = true ↔ 16 ≤ start.toNat) ∧ code.toNat ≤ 4 ∧
      (window.toNat = 0 ∨ 30 ≤ window.toNat ∧ window.toNat ≤ 600) ∧
      a.start.val = start.toNat ∧ a.half = (if half then .trailer else .truck) ∧
      a.order = (if order then .interleaved else .sequential) ∧ a.length = 2 ^ code.toNat ∧
      a.target.val = target.toNat ∧ a.window = window.toNat) ∧
  (∀ (s : State) (h : Half) (g : SetNo),
    targetMatches s h g = true ↔ (h = .truck ∧ g = 0) ∨ (h = .trailer ∧ g = s.vehicle.set ∧ g ≠ 0)) ∧
  ∀ (start : Byte) (half order : Bool) (code : BitVec 3) (target : BitVec 2) (window : BitVec 10) (a : WalkArgs)
    (s : State), Served lockWalk s → walkArgs start half order code target window = some a →
    let cmd := Instr.openWalk 5 start half order code target window
    let w : OpenWalk :=
      { target := a.target, blockStart := a.start.val - a.start.val % a.length, length := a.length, order := a.order
        start := a.start.val % a.length, step := 0, current := a.start
        window := if a.window = 0 then s.content.settings.walkWindow else a.window, expiry := s.time }
    let visits : Nat → Bool := fun k => (geometry s (visitAt w k)).fitted
    (walkOpen s a.half = true → exec cmd s = .next (reply 0x0B .walkOpen s)) ∧
    (walkOpen s a.half = false → targetMatches s a.half a.target = false →
      exec cmd s = .next (reply 0x0B .badArgument s)) ∧
    (walkOpen s a.half = false → targetMatches s a.half a.target = true →
      (∀ k, k < a.length → visits k = true → (∀ j, j < k → visits j = false) →
        exec cmd s = .next
          (modWalk a.half (fun _ =>
            { WalkSlot.closed with
              walk := some { w with step := k, current := visitAt w k, expiry := s.time + w.window * 1000 } })
            (reply 0x0B .done s))) ∧
      ((∀ k, k < a.length → visits k = false) →
        exec cmd s = .next
          (placeService (.long 0x1E [fld 1 (halfCode a.half), fld 3 0, fld 5 0, satFld 8 0, satFld 8 0])
            (modWalk a.half (fun _ => { WalkSlot.closed with result := some .complete }) (reply 0x0B .done s))) ∧
        ∀ k : Half, k ≠ a.half →
          walkSlot (modWalk a.half (fun _ => { WalkSlot.closed with result := some .complete }) s) k = walkSlot s k))

/-- END WALK and the expiry of a walk's window (R143, R135, R145): an open walk is closed with its result, its last
bound and counts kept, and its WALK END notice placed, after the reply where there is one; a closed slot answers
NO_WALK, another half or another length BAD_ARGUMENT. That the half is named by 0 TRUCK or 1 TRAILER is the model's reading
(log 22). -/
def Obligations.WalkEnds : Prop :=
  ∀ (h : Half) (s : State),
    let closed : WalkResult → State → State := fun r u =>
      placeService
        (.long 0x1E [fld 1 (halfCode h), fld 3 (resultCode r), fld 5 (walkSlot s h).bound,
          satFld 8 (walkSlot s h).implausible, satFld 8 (walkSlot s h).ambiguous])
        (modWalk h (fun slot => { slot with walk := none, result := some r }) u)
    (∀ (len : Nat) (b : Byte), s.mgmt.restartPending = false → len ≠ 2 ∨ 2 ≤ b.toNat →
      exec (.endWalk len b) s = .next (reply 0x0C .badArgument s)) ∧
    (∀ b : Byte, s.mgmt.restartPending = false → b.toNat = (halfCode h) →
      ((walkSlot s h).walk.isSome = true → exec (.endWalk 2 b) s = .next (closed .stopped (reply 0x0C .done s))) ∧
      ((walkSlot s h).walk = none → exec (.endWalk 2 b) s = .next (reply 0x0C .noWalk s))) ∧
    (∀ w : OpenWalk, (walkSlot s h).walk = some w → w.expiry ≤ s.time →
      exec (.walkWindowExpiry h) s = .next (closed .timeout s))

/-- The two visiting orders: the offset at each step and the position it stands for; both begin at the start offset and
give each offset of the block exactly once (R133). -/
def Obligations.VisitingOrderIsComplete : Prop :=
  ∀ (o : Order) (len start : Nat), len = 1 ∨ len = 2 ∨ len = 4 ∨ len = 8 ∨ len = 16 → start < len →
    (∀ k, visitOffset .sequential start len k = (start + k) % len ∧ visitOffset .interleaved start len k = start ^^^ k) ∧
    (∀ (w : OpenWalk) (k : Nat),
      (visitAt w k).val = (w.blockStart + visitOffset w.order w.start w.length k) % 32) ∧
    visitOffset o start len 0 = start ∧
    (∀ k, k < len → visitOffset o start len k < len) ∧
    (∀ offset, offset < len → ∃ k, k < len ∧ visitOffset o start len k = offset ∧
      ∀ j, j < len → visitOffset o start len j = offset → j = k)

/-- A binding newly made by a walk, in each of its outcomes (R31, R139 to R141). NEW: the lowest FREE entry takes the
sensor; MOVED: its entry is rewritten, and the place it leaves is UNBOUND; CONFIRMED: the table stays as it is; DISPLACED:
the entry that named the place is FREE first. The position is bound with its runtime cleared (R57, R110), the neighbours
of it and of the place left lose at most TWIN (R117), and it is LIVE with the carried reading as its first, TWIN judged
after it (R58, R61, R116, R139); as one event its alert frames are generated and the channels told of them
and of the reading (R122, R61 step 6); the LEARN notice is placed, the walk counts the binding and goes on to its next
fitted position or ends COMPLETE, and a new sensor's ID is no stranger (R36). Without an entry to take, the walk ends with
TABLE_FULL and the evidence goes to the stranger list. -/
def Obligations.NewSensorIsBound : Prop :=
  ∀ (h : Half) (w : OpenWalk) (ev : Evidence) (s : State),
    let g := w.target
    let p := w.current
    let slot := walkSlot s h
    let closed : WalkResult → Nat → State → State := fun r bound u =>
      placeService
        (.long 0x1E [fld 1 (halfCode h), fld 3 (resultCode r), fld 5 bound, satFld 8 slot.implausible,
          satFld 8 slot.ambiguous])
        (modWalk h (fun x => { x with walk := none, result := some r }) u)
    let visits : Nat → Bool := fun k => (geometry s (visitAt w k)).fitted
    let bound : EntryNo → Nat → List Pos → State → Prop := fun e outcome left t =>
      let r := if hasBinding (posRec s p).state = true then freshRec .waiting (some e) (posRec s p)
        else { besideLeavers s left p with state := .waiting, bound := some e }
      let rd : Reading := { offset := (entryAt t e).offset, telegram := ev.telegram, time := s.time }
      ((posRec s p).state ≠ .vacant →
        (posRec t p).state = .live ∧ (posRec t p).bound = some e ∧
        t.mgmt.summary =
          (s.mgmt.summary || (compensate s.content.settings.tref s.vehicle.ambient rd r).clamped)) ∧
      (∀ k : Half, k ≠ h → walkSlot t k = walkSlot s k) ∧ t.vehicle = s.vehicle ∧ t.dup = s.dup ∧
      ∃ x u, ClosesEvent s (p :: left) (some p) (judgeTwin p x) u ∧ x.content = t.content ∧
        ((posRec s p).state ≠ .vacant → ReadingRecorded s rd r (posRec x p)) ∧
        (∀ q : Pos, q ≠ p → posRec x q =
          if q ∈ left ∧ hasBinding (posRec s q).state = true then freshRec .unbound none (posRec s q)
          else besideLeavers s (p :: left) q) ∧
        let v := placeService
          (.long 0x1D [fld 1 (halfCode h), fld 5 p.val, fld 32 ev.sid.toNat, fld 2 outcome, fld 6 e.val]) u
        let counted : WalkSlot → WalkSlot := fun x =>
          { x with lastBound := some (ev.sid, ev.seq), bound := slot.bound + 1 }
        walkSlot u h = slot ∧
        (∀ k, w.step < k → k < w.length → visits k = true → (∀ j, w.step < j → j < k → visits j = false) →
          t = modWalk h (fun x =>
            { counted x with
              walk := some { w with step := k, current := visitAt w k, expiry := s.time + w.window * 1000 } }) v) ∧
        ((∀ k, w.step < k → k < w.length → visits k = false) →
          t = closed .complete (slot.bound + 1) (modWalk h counted v))
    let kept : List Pos → State → Prop := fun places t =>
      ∀ q : Pos, (∀ x ∈ p :: places, q ≠ x ∧ q ≠ mateOf x) → posRec t q = posRec s q
    let written : EntryNo → Option EntryNo → Entry → State → Prop := fun e freed new t =>
      (∀ i : EntryNo, entryAt t i = if i = e then new else if freed = some i then Entry.free else entryAt s i) ∧
      (∀ i : EntryNo, pick t.table.accepted i =
        if i = e ∨ freed = some i then none else pick s.table.accepted i) ∧
      t.store = { s.store with changed := true }
    (findId s ev.sid = none → findPlace s g p = none → findFree s = none →
      bindAtWalk h w ev s = hearStranger ev (closed .tableFull slot.bound s)) ∧
    (∀ e : EntryNo, findId s ev.sid = none →
      ((findPlace s g p = none ∧ findFree s = some e) ∨
        ∃ d, findPlace s g p = some d ∧ findFree (freeEntry d s) = some e) →
      ∃ t, bindAtWalk h w ev s = t ∧ bound e (if (findPlace s g p).isSome then 3 else 0) [] t ∧ kept [] t ∧
        written e (findPlace s g p) { valid := true, sid := ev.sid, set := g, pos := p, offset := 0 } t ∧
        t.strangers.entries = s.strangers.entries.filter (fun x => x.sid != ev.sid)) ∧
    (∀ e : EntryNo, findId s ev.sid = some e →
      let old := entryAt s e
      (old.set = g → old.pos = p → ∃ t, bindAtWalk h w ev s = t ∧ bound e 2 [] t ∧ kept [] t ∧
        t.content = s.content ∧ t.table = s.table ∧ t.store = s.store ∧ t.strangers = s.strangers) ∧
      (¬(old.set = g ∧ old.pos = p) → ∃ t, bindAtWalk h w ev s = t ∧
        bound e (if (findPlace s g p).isSome then 3 else 1)
          (if old.set = 0 ∨ old.set = s.vehicle.set then [old.pos] else []) t ∧ kept [old.pos] t ∧
        written e (findPlace s g p) { old with set := g, pos := p } t ∧ t.strangers = s.strangers ∧
        ((old.set = 0 ∨ old.set = s.vehicle.set) → old.pos ≠ p → hasBinding (posRec s old.pos).state = true →
          (posRec t old.pos).state = .unbound ∧ (posRec t old.pos).bound = none)))

/-! ## Chapter 9 -/

/-- CONFIGURE CHANNEL A and B past the gate (R148): refused while the channel is at work; otherwise the fields of the
request are replaced, the other half kept, the runtime untouched. -/
def Obligations.ChannelIsConfigured : Prop :=
  ∀ (channel : Byte) (c : ChanNo) (s : State), Served lockSettings s → chanArg channel = some c →
    let active := (chanRun s c).state = .armed ∨ (chanRun s c).state = .running ∨ (chanRun s c).state = .waiting
    let written : Byte → ChanConfig → State := fun kind k =>
      reply kind .done
        { s with
          content := { s.content with channels := put s.content.channels c k }
          store := { s.store with changed := true } }
    (∀ (trigger mode step : BitVec 2) (start : BitVec 5) (blockLen : BitVec 6) (m : Mode),
      modeArg mode = some m → blockLen.toNat ≤ 32 →
      (active → exec (.configureChannelA 5 channel trigger mode step start blockLen) s =
        .next (reply 0x0E .channelActive s)) ∧
      (¬active → exec (.configureChannelA 5 channel trigger mode step start blockLen) s =
        .next (written 0x0E
          { chanConfig s c with
            trigger := triggerArg trigger, mode := m, step := stepArg step, start := Fin.ofNat 32 start.toNat
            blockLen := blockLen.toNat }))) ∧
    (∀ (count : BitVec 16) (period : Byte) (skipVacant cyclic powerUp : Bool), period ≠ 0 →
      (active → exec (.configureChannelB 6 channel count period skipVacant cyclic powerUp) s =
        .next (reply 0x0F .channelActive s)) ∧
      (¬active → exec (.configureChannelB 6 channel count period skipVacant cyclic powerUp) s =
        .next (written 0x0F
          { chanConfig s c with
            count := count.toNat, period := period.toNat, skipVacant := skipVacant, cyclic := cyclic
            powerUp := powerUp })))

/-- START CHANNEL and STOP CHANNEL (R150, R151). -/
def Obligations.ChannelStartsAndStops : Prop :=
  ∀ (channel : Byte) (s : State), s.mgmt.restartPending = false →
    (chanArg channel = none →
      exec (.startChannel 2 channel) s = .next (reply 0x10 .badArgument s) ∧
      exec (.stopChannel 2 channel) s = .next (reply 0x11 .badArgument s)) ∧
    ∀ c : ChanNo, chanArg channel = some c →
      let k := chanConfig s c
      let r := chanRun s c
      let setRun : ChanRun → State := fun x => modChan c (fun _ => x) s
      ((r.state = .idle ∨ r.state = .ended) → exec (.startChannel 2 channel) s =
        .next (reply 0x10 .done (setRun
          { r with
            state := .armed, pointer := k.start, blockStart := k.start
            remaining := if k.count = 0 then 65536 else k.count
            blockRem := if k.blockLen = 0 then 32 else k.blockLen
            job := false, pendingTrigger := false
            due := if k.trigger = .period then some (s.time + k.period * 1000) else none }))) ∧
      ((r.state = .armed ∨ r.state = .running ∨ r.state = .waiting) →
        exec (.startChannel 2 channel) s = .next (reply 0x10 .channelActive s)) ∧
      exec (.stopChannel 2 channel) s =
        .next (reply 0x11 .done (setRun { r with state := .idle, job := false, pendingTrigger := false, due := none }))

/-- A trigger taken by a channel (R152 to R155): no effect in IDLE and ENDED; a pending trigger, or an overrun, while a
job is in hand; and a job in ARMED: it reports one position (SINGLE), positions until the count is out (RUN) or to the end
of the block (BLOCK), passing over VACANT positions where the channel skips them, the pointer, block and counts moved
after each, an END frame placed at the end of the count, after which the channel is loaded again or ENDED; it waits with
the rest of its job as soon as the queue is full, and ends where it finds nothing to report. A trigger that pends is taken
at once where the job leaves the channel ARMED, and dropped where it leaves it ENDED (R153, R155). TRIGGER CHANNEL triggers
its channel behind its reply, whatever the configured trigger. At the close of an event the channels are told in ascending
number, each done before the next: an ALERT channel takes a trigger for each alert frame of a position in its watch block,
a SAMPLE channel one for an accepted reading there (R61 step 6), the others none; that a channel takes all its triggers
of the event before the next takes its own is the model's reading (log 10). The watch block is the B positions from
P0 on, modulo 32, with B of 0 read as 32 (R148). -/
def Obligations.TriggerStartsWork : Prop :=
  (∀ (k : ChanConfig) (r : ChanRun),
    let steps := if k.mode = .block then r.remaining else r.remaining - 1
    let block := if k.blockLen = 0 then 32 else k.blockLen
    let back := if k.step = .upReturn then r.blockStart else stepPointer k.step r.pointer
    (∀ p : Pos, (stepPointer k.step p).val =
      match k.step with
      | .hold => p.val
      | .up | .upReturn => (p.val + 1) % 32
      | .down => (p.val + 31) % 32) ∧
    (1 < r.blockRem → afterFrame k r =
      { r with pointer := stepPointer k.step r.pointer, blockRem := r.blockRem - 1, remaining := steps }) ∧
    (r.blockRem ≤ 1 → afterFrame k r =
      { r with pointer := back, blockStart := back, blockRem := block, remaining := r.remaining - 1 })) ∧
  (∀ (k : ChanConfig) (p : Pos) (s : State),
    let at_ : Nat → Pos := fun i => Nat.repeat (stepPointer k.step) i p
    let passed : Nat → Prop := fun i => k.skipVacant = true ∧ (posRec s (at_ i)).state = .vacant
    (¬passed 0 → seekPosition s k 32 p = { pointer := p, found := true }) ∧
    (passed 0 → k.step = .hold → seekPosition s k 32 p = { pointer := p, found := false }) ∧
    (k.step ≠ .hold → (∀ i, i < 32 → passed i) → seekPosition s k 32 p = { pointer := p, found := false }) ∧
    (∀ i, k.step ≠ .hold → i < 32 → ¬passed i → (∀ j, j < i → passed j) →
      seekPosition s k 32 p = { pointer := at_ i, found := true })) ∧
  (∀ (channel : Byte) (c : ChanNo) (s : State), s.mgmt.restartPending = false → chanArg channel = some c →
    exec (.triggerChannel 2 channel) s = .next (trigger c (reply 0x12 .done s))) ∧
  (∀ (k : ChanConfig) (p : Pos), watches k p = true ↔
    ∃ i, i < (if k.blockLen = 0 then 32 else k.blockLen) ∧ p.val = (k.start.val + i) % 32) ∧
  (∀ (alerts : List Pos) (sample : Option Pos) (s : State),
    let told : ChanNo → State → State := fun c u =>
      let k := chanConfig s c
      match k.trigger with
      | .alert => Nat.repeat (trigger c) (alerts.filter (watches k)).length u
      | .sample =>
        match sample with
        | some p => if watches k p = true then trigger c u else u
        | none => u
      | .period | .request => u
    tellChannels alerts sample s = told 3 (told 2 (told 1 (told 0 s)))) ∧
  ∀ (c : ChanNo) (u : State),
    let k := chanConfig u c
    let r := chanRun u c
    let setRun : ChanRun → State := fun x => modChan c (fun _ => x) u
    let seek : Pos → Seek := fun p => seekPosition u k 32 p
    ((r.state = .idle ∨ r.state = .ended) → trigger c u = u) ∧
    ((r.state = .running ∨ r.state = .waiting) → r.pendingTrigger = false →
      trigger c u = setRun { r with pendingTrigger := true }) ∧
    ((r.state = .running ∨ r.state = .waiting) → r.pendingTrigger = true →
      trigger c u = setRun { r with overrun := min (r.overrun + 1) 255 }) ∧
    (r.state = .armed → 24 ≤ u.tx.frames.length → trigger c u = setRun { r with state := .waiting, job := true }) ∧
    (r.state = .armed → r.pendingTrigger = true →
      let v := trigger c (setRun { r with pendingTrigger := false })
      trigger c u =
        if (chanRun v c).state = .armed then trigger c v
        else if (chanRun v c).state = .waiting then modChan c (fun x => { x with pendingTrigger := true }) v
        else v) ∧
    (r.state = .armed → r.pendingTrigger = false → u.tx.frames.length < 24 → 1 ≤ r.remaining →
      (seek r.pointer).found = false → trigger c u = setRun { r with state := .armed, job := false }) ∧
    (r.state = .armed → r.pendingTrigger = false → u.tx.frames.length < 24 → 1 ≤ r.remaining → 1 ≤ r.blockRem →
      (seek r.pointer).found = true →
      let room := 24 - u.tx.frames.length
      let work := match k.mode with
        | .single => 1
        | .run => r.remaining
        | .block => r.blockRem
      let after : Nat → ChanRun := fun i =>
        Nat.repeat (fun x => afterFrame k { x with pointer := (seek x.pointer).pointer }) i r
      let last := after (min room work)
      let report : Nat → Frame := fun i =>
        { cls := .report, entry := u.time, body := .report (viewOf u (seek (after i).pointer).pointer) c
          offered := none, awaited := none }
      let end_ : Frame := { cls := .report, entry := u.time, body := .endFrame c, offered := none, awaited := none }
      let ends := work < room ∧ last.remaining = 0
      trigger c u =
        { u with
          tx := { u.tx with
            frames := u.tx.frames ++ (List.range (min room work)).map report ++ (if ends then [end_] else []) }
          chan := put u.chan c
            (if room < work ∨ (room = work ∧ last.remaining = 0) then { last with state := .waiting, job := true }
            else if ends then
              (if k.cyclic then
                { last with
                  state := .armed, job := false, pointer := k.start, blockStart := k.start
                  remaining := if k.count = 0 then 65536 else k.count
                  blockRem := if k.blockLen = 0 then 32 else k.blockLen }
              else { last with state := .ended, job := false, pendingTrigger := false, due := none })
            else { last with state := .armed, job := false }) })

/-- The period timer and the grant of a slot (R152, R156): a due timer is set one period on and triggers its channel;
a freed slot goes to the WAITING channel of the lowest number, which places one frame of its job, or the END frame it
owes, and no other channel; where its job ends without a frame, the slot goes on to the next. A trigger that pends where
the job ends starts a new one at once, which waits where the slot is taken (R153). With more slots free than one, the
channel goes on with its job as a trigger of the same counts starts one, and what is left is granted to the next WAITING
channel; that a grant with several slots free goes on so is the model's reading (log 29). -/
def Obligations.PeriodAndGrant : Prop :=
  ∀ (c : ChanNo) (s : State),
    let k := chanConfig s c
    let r := chanRun s c
    let setRun : ChanRun → State := fun x => modChan c (fun _ => x) s
    let found := seekPosition s k 32 r.pointer
    let placed : Body → ChanRun → State := fun body x =>
      { s with
        tx := { s.tx with
          frames := s.tx.frames ++
            [{ cls := .report, entry := s.time, body := body, offered := none, awaited := none }] }
        chan := put s.chan c x }
    let ended : ChanRun → ChanRun := fun x =>
      if x.pendingTrigger = true then { x with state := .waiting, job := true, pendingTrigger := false }
      else { x with state := .armed, job := false }
    let lowest := r.state = .waiting ∧ ∀ d : ChanNo, d.val < c.val → (chanRun s d).state ≠ .waiting
    (∀ due, r.due = some due → due ≤ s.time → r.state = .waiting → k.trigger = .period →
      exec (.periodTimerExpiry c) s = .next (setRun
        { r with
          due := some (due + k.period * 1000)
          pendingTrigger := true
          overrun := if r.pendingTrigger then min (r.overrun + 1) 255 else r.overrun })) ∧
    (∀ due, r.due = some due → due ≤ s.time → k.trigger = .period →
      exec (.periodTimerExpiry c) s = .next (trigger c (setRun { r with due := some (due + k.period * 1000) }))) ∧
    (s.tx.frames.length = 23 → r.state = .waiting → (∀ d : ChanNo, d.val < c.val → (chanRun s d).state ≠ .waiting) →
      r.remaining ≠ 0 → k.skipVacant = false →
      ∃ t, exec .channelGrant s = .next t ∧
        t.tx.frames = s.tx.frames ++
          [{ cls := .report, entry := s.time, body := .report (viewOf s r.pointer) c, offered := none, awaited := none }] ∧
        (∀ d : ChanNo, d ≠ c → chanRun t d = chanRun s d) ∧
        (chanRun t c).state ≠ .running ∧
        t.pos = s.pos ∧ t.content = s.content ∧ t.vehicle = s.vehicle ∧ t.mgmt = s.mgmt) ∧
    (s.tx.frames.length = 23 → lowest → r.remaining ≠ 0 → found.found = true →
      let next := afterFrame k { r with pointer := found.pointer }
      let goesOn := next.remaining = 0 ∨ k.mode = .run ∨ (k.mode = .block ∧ 1 < r.blockRem)
      exec .channelGrant s = .next (placed (.report (viewOf s found.pointer) c)
        (if goesOn then { next with state := .waiting } else ended next))) ∧
    (s.tx.frames.length < 24 → lowest → r.remaining ≠ 0 → found.found = false →
      exec .channelGrant s =
        exec .channelGrant (setRun { r with state := .armed, job := false, pendingTrigger := false })) ∧
    (s.tx.frames.length = 23 → lowest → r.remaining = 0 →
      exec .channelGrant s = .next (placed (.endFrame c)
        (if k.cyclic then
          ended
            { r with
              pointer := k.start, blockStart := k.start
              remaining := if k.count = 0 then 65536 else k.count
              blockRem := if k.blockLen = 0 then 32 else k.blockLen }
        else { r with state := .ended, job := false, pendingTrigger := false, due := none }))) ∧
    (s.tx.frames.length < 24 → lowest → r.job = true →
      exec .channelGrant s = exec .channelGrant (trigger c (setRun { r with state := .armed, job := false }))) ∧
    (24 ≤ s.tx.frames.length ∨ (∀ d : ChanNo, (chanRun s d).state ≠ .waiting) → exec .channelGrant s = .next s)

/-- A frame offered to the queue (R158): placed at the tail of its class while there is room; a full queue loses its
youngest REPORT frame that is not offered to an ALERT or SERVICE frame; without one the frame is refused and counted. A
reply or notice offers one SERVICE frame that enters now, not offered and not waited for, and a reply of several frames
offers them one after the other; nothing but the queue changes (R158, R162). -/
def Obligations.QueuePlacesByClass : Prop :=
  ∀ (f : Frame) (tx : TxQueue),
    let joined : List Frame → List Frame → Prop := fun q q' =>
      ∃ before after, q = before ++ after ∧ q' = before ++ f :: after ∧
        (∀ g ∈ before, classRank g.cls ≤ classRank f.cls) ∧
        (q.Pairwise (fun g h => classRank g.cls ≤ classRank h.cls) → ∀ g ∈ after, classRank f.cls < classRank g.cls)
    let evictable : Frame → Prop := fun g => g.cls = .report ∧ g.offered = none
    let out := offerFrame f tx
    (tx.frames.length < 24 →
      out.placed = true ∧ joined tx.frames out.tx.frames ∧ out.tx = { tx with frames := out.tx.frames }) ∧
    (24 ≤ tx.frames.length → f.cls ≠ .report → (∃ g ∈ tx.frames, evictable g) →
      ∃ before gone after, tx.frames = before ++ gone :: after ∧ evictable gone ∧ (∀ g ∈ after, ¬evictable g) ∧
        out.placed = true ∧ joined (before ++ after) out.tx.frames ∧
        out.tx = { tx with frames := out.tx.frames, reportEvictions := min (tx.reportEvictions + 1) 65535 }) ∧
    (24 ≤ tx.frames.length → f.cls = .alert → (∀ g ∈ tx.frames, ¬evictable g) →
      out.placed = false ∧ out.tx = { tx with refusedAlerts := min (tx.refusedAlerts + 1) 65535 }) ∧
    (24 ≤ tx.frames.length → f.cls = .service → (∀ g ∈ tx.frames, ¬evictable g) →
      out.placed = false ∧ out.tx = { tx with lostService := min (tx.lostService + 1) 65535 }) ∧
    ∀ (body : Body) (bodies : List Body) (kind : Byte) (st : Status) (s : State),
      let service : Frame := { cls := .service, entry := s.time, body := body, offered := none, awaited := none }
      placeService body s = { s with tx := (offerFrame service s.tx).tx } ∧
      reply kind st s = placeService (.reply kind st) s ∧ placeAll [] s = s ∧
      placeAll (body :: bodies) s = placeAll bodies (placeService body s)

/-- The link (R159, R160): the queue takes its head, discarding REPORT frames older than the report lifetime one after
the other, and offers it under the identifier of the node number in force (R167, 12.2); a sent frame leaves; bus-off
takes the offered mark, and recovery takes the head again. The slot of a sent or discarded frame is granted at once,
before the queue takes its next head, as CHANNEL_GRANT grants it; where another placement is taken first, no grant is
made (R156): which of the two, the operand says (log 6), for every slot that one event frees (log 29). The report that
the reply of a pending restart is sent starts the part up (R170), and after the reply of a pending node number the next
head goes out under the new one (R167). That nothing is offered where a start-up is due, to which no run comes, is the
model's choice (log 8). A REPORT frame for which nothing waits is what QueueLaw, which every step keeps, says of every
REPORT frame. -/
def Obligations.LinkTakesFrames : Prop :=
  ∀ (race : SlotRace) (s : State),
    let stale : Frame → Prop := fun f => f.cls = .report ∧ s.content.settings.reportLifetime < s.time - f.entry
    let offer : Frame → Frame := fun f => { f with offered := some (frameIdent f.cls (nodeNow s)) }
    let noWaiting := ∀ c : ChanNo, (chanRun s c).state ≠ .waiting
    (∀ f rest, s.tx.frames = f :: rest → ¬stale f → s.tx.busOff = false → (∀ g ∈ s.tx.frames, g.offered = none) →
      restartDue s = false →
      exec (.queueTakesHead race) s = .next { s with tx := { s.tx with frames := offer f :: rest } }) ∧
    (∀ f g rest, s.tx.frames = f :: g :: rest → stale f → f.awaited = none → ¬stale g → s.tx.busOff = false →
      (∀ x ∈ s.tx.frames, x.offered = none) → restartDue s = false → noWaiting →
      exec (.queueTakesHead race) s = .next
        { s with tx := { s.tx with frames := offer g :: rest, staleDiscards := min (s.tx.staleDiscards + 1) 65535 } }) ∧
    (∀ f, s.tx.frames = [f] → f.offered.isSome = true → noWaiting → s.mgmt.restartPending = false →
      exec (.frameSent race) s = .next { s with tx := { s.tx with frames := [] } }) ∧
    (∀ f, s.tx.frames = [f] → f.offered.isSome = true → s.mgmt.restartPending = true →
      exec (.frameSent race) s = exec .powerOn s) ∧
    (∀ before f after g rest, s.tx.frames = before ++ f :: after → before ++ after = g :: rest →
      f.offered.isSome = true → (∀ x ∈ g :: rest, x.offered = none) → f.awaited = none → ¬stale g →
      s.tx.busOff = false → restartDue s = false → noWaiting →
      exec (.frameSent race) s = .next { s with tx := { s.tx with frames := offer g :: rest } }) ∧
    exec .busOff s = .next
      { s with tx := { s.tx with busOff := true, frames := s.tx.frames.map (fun f => { f with offered := none }) } } ∧
    (∀ f rest, s.tx.frames = f :: rest → ¬stale f → s.tx.busOff = true → (∀ g ∈ s.tx.frames, g.offered = none) →
      restartDue s = false →
      exec (.busOffRecovery race) s =
        .next { s with tx := { s.tx with busOff := false, frames := offer f :: rest } }) ∧
    (s.tx.busOff = true →
      exec (.busOffRecovery race) s = exec (.queueTakesHead race) { s with tx := { s.tx with busOff := false } }) ∧
    (∀ before f after, s.tx.frames = before ++ f :: after → f.offered.isSome = true →
      (∀ x ∈ before ++ after, x.offered = none) →
      (s.mgmt.restartPending = true → ∃ g ∈ before ++ after, g.cls ≠ .report ∧ g.awaited = some .restart) →
      let left := { s with tx := { s.tx with frames := before ++ after } }
      exec (.frameSent .placementFirst) s = exec (.queueTakesHead .placementFirst) left ∧
      ∀ u, exec .channelGrant left = .next u → exec (.frameSent .grantFirst) s = exec (.queueTakesHead .grantFirst) u) ∧
    (∀ f rest, s.tx.frames = f :: rest → stale f → s.tx.busOff = false → (∀ x ∈ f :: rest, x.offered = none) →
      (s.mgmt.restartPending = true → ∃ g ∈ rest, g.awaited = some .restart) →
      let left :=
        { s with tx := { s.tx with frames := rest, staleDiscards := min (s.tx.staleDiscards + 1) 65535 } }
      exec (.queueTakesHead .placementFirst) s = exec (.queueTakesHead .placementFirst) left ∧
      ∀ u, exec .channelGrant left = .next u →
        exec (.queueTakesHead .grantFirst) s = exec (.queueTakesHead .grantFirst) u) ∧
    (∀ n before f after g rest, s.mgmt.nodePending = some n → s.mgmt.restartPending = false →
      s.tx.frames = before ++ f :: after → before ++ after = g :: rest → f.offered.isSome = true →
      f.awaited = some .node → (∀ x ∈ g :: rest, x.offered = none ∧ x.awaited ≠ some .node) → ¬stale g →
      s.tx.busOff = false → noWaiting →
      exec (.frameSent race) s = .next
        { s with tx := { s.tx with frames := { g with offered := some (frameIdent g.cls n) } :: rest } }) ∧
    nodeNow s =
      (match s.mgmt.nodePending with
        | some n => if ∃ f ∈ s.tx.frames, f.awaited = some .node then s.mgmt.nodeInForce else n
        | none => s.mgmt.nodeInForce) ∧
    (∀ (cls : FrameClass) (n : Nat), n ≤ 15 → (frameIdent cls n).toNat =
      (match cls with
        | .alert => 0x3A0
        | .report => 0x4A0
        | .service => 0x5D0) + n)

/-! ## Chapters 10 and 11 -/

/-- Requests turned away (R162 to R164): discarded while a restart is pending; answered UNKNOWN for a kind that is none of
section 10.2; refused with BAD_ARGUMENT for another length than the kind's, an argument out of its range, or a setting
code that names no setting; past these, refused with PROTECTED by the protect level that the request's row of the table of
R164 names, and, past that, with BUSY by a store in progress that the row names. What an argument names is the value
of its code in 12.5.1, and in 12.3 for an ACK (R128). That a WRITE SETTING whose code names no
setting is the command UNKNOWN_REQUEST of kind 0x14 is the model's choice (log 14), and that END WALK and WALK STATUS name
no half above 1 its reading (log 22). -/
def Obligations.RequestsAreRefusedInOrder : Prop :=
  (∀ (i : Instr) (f : RequestForm) (s : State), requestForm i = some f →
    let protected_ := ∃ level, (lockRow i).level = some level ∧ level ≤ s.content.settings.protect
    (s.mgmt.restartPending = true → exec i s = .next s) ∧
    (s.mgmt.restartPending = false → f.len ≠ f.required → exec i s = .next (reply f.kind .badArgument s)) ∧
    (s.mgmt.restartPending = false → argumentsInRange i = false → exec i s = .next (reply f.kind .badArgument s)) ∧
    (s.mgmt.restartPending = false → f.len = f.required → argumentsInRange i = true →
      (protected_ → exec i s = .next (reply f.kind .locked s)) ∧
      (¬protected_ → (lockRow i).store = true → s.store.job.isSome = true →
        exec i s = .next (reply f.kind .busy s)))) ∧
  (∀ (kind : Byte) (s : State),
    (s.mgmt.restartPending = true → exec (.unknownRequest kind) s = .next s) ∧
    (s.mgmt.restartPending = false → kind = 0 ∨ 0x1A < kind.toNat →
      exec (.unknownRequest kind) s = .next (reply kind .unknown s)) ∧
    (s.mgmt.restartPending = false → exec (.unknownRequest 0x14) s = .next (reply 0x14 .badArgument s))) ∧
  (∀ b : Byte,
    (posArg b).map (fun p => p.val) = (if b.toNat < 32 then some b.toNat else none) ∧
    (entryArg b).map (fun e => e.val) = (if b.toNat < 48 then some b.toNat else none) ∧
    (axleArg b).map (fun a => a.val) = (if b.toNat < 8 then some b.toNat else none) ∧
    (chanArg b).map (fun c => c.val) = (if b.toNat < 4 then some b.toNat else none) ∧
    halfArg b = [.truck, .trailer][b.toNat]? ∧
    ackItem b =
      [.level, .cond .hot, .cond .twin, .cond .leak, .cond .silent, .cond .fault, .cond .battery][b.toNat]?) ∧
  (∀ code : BitVec 2,
    loadArg code = [.empty, .laden, .tipping][code.toNat]? ∧ modeArg code = [.single, .run, .block][code.toNat]? ∧
    some (triggerArg code) = [.sample, .period, .alert, .request][code.toNat]? ∧
    some (stepArg code) = [.hold, .up, .down, .upReturn][code.toNat]?) ∧
  (∀ (near : BitVec 2) (margin : BitVec 6) (liftable : Bool) (x : AxleRec),
    axleRecArg near margin liftable = some x ↔
      some x.near = [.front, .rear, .either][near.toNat]? ∧ margin.toNat ≤ 40 ∧ x.margin = margin.toNat ∧
      x.liftable = liftable) ∧
  (∀ (sid : SensorId) (pos : BitVec 6) (set : BitVec 2) (offset : Byte) (x : Entry),
    sensorArg sid pos set offset = some x ↔
      (1 ≤ sid.toNat ∧ sid.toNat ≤ 0xFFFFFFFE) ∧
      (if set = 0 then pos.toNat < 16 else 16 ≤ pos.toNat ∧ pos.toNat < 32) ∧
      (-64 ≤ offset.toInt ∧ offset.toInt ≤ 63) ∧ x.valid = true ∧ x.sid = sid ∧ x.set.val = set.toNat ∧
      x.pos.val = pos.toNat ∧ x.offset = offset.toInt)

/-- WRITE SETTING of the settings that act later (R166): the setting is replaced, the flag set, the reply DONE; a value out
of its range is refused. The protect level (R165) is raised or kept at any time, lowered only while the vehicle is known
to be STATIONARY, and refused with MOVING otherwise. -/
def Obligations.SettingsAreWritten : Prop :=
  (∀ (value : BitVec 16) (s : State), Served lockSettings s →
     let written : Settings → State := fun x =>
       reply 0x14 .done
         { s with content := { s.content with settings := x }, store := { s.store with changed := true } }
     let v := value.toNat
     let set := s.content.settings
     let bad := reply 0x14 .badArgument s
     exec (.writeSettingTref 4 value) s =
       .next (if -20 ≤ value.toInt ∧ value.toInt ≤ 50 then written { set with tref := value.toInt } else bad) ∧
     exec (.writeSettingRepeatPeriod 4 value) s =
       .next (if 2 ≤ v ∧ v ≤ 60 then written { set with repeatPeriod := v } else bad) ∧
     exec (.writeSettingIntervalLength 4 value) s =
       .next (if 1 ≤ v ∧ v ≤ 60 then written { set with intervalLength := v } else bad) ∧
     exec (.writeSettingReportLifetime 4 value) s =
       .next (if 200 ≤ v ∧ v ≤ 10000 then written { set with reportLifetime := v } else bad) ∧
     exec (.writeSettingWalkWindow 4 value) s =
       .next (if 30 ≤ v ∧ v ≤ 600 then written { set with walkWindow := v } else bad)) ∧
  (∀ (value : BitVec 16) (s : State), s.mgmt.restartPending = false → value.toNat ≤ 3 →
     let written := reply 0x14 .done
       { s with
         content := { s.content with settings := { s.content.settings with protect := value.toNat } }
         store := { s.store with changed := true } }
     (s.content.settings.protect ≤ value.toNat → exec (.writeSettingProtectLevel 4 value) s = .next written) ∧
     (value.toNat < s.content.settings.protect → s.vehicle.motion = .stationary → s.vehicle.stale = false →
       exec (.writeSettingProtectLevel 4 value) s = .next written) ∧
     (value.toNat < s.content.settings.protect → s.vehicle.motion = .moving ∨ s.vehicle.stale = true →
       exec (.writeSettingProtectLevel 4 value) s = .next (reply 0x14 .moving s)))

/-- WRITE SETTING of the silence timeout (R65): where it changes the timeout, a WAITING or LIVE position that has already
counted that long becomes SILENT at the write, counting or not; every other keeps its state, and no counted silence
changes. Each expiry, in ascending order, is an event of its own in which its SILENT raise is reported, TWIN clearing with
it at a LIVE position and its partner (R117, R118, R122); that it is closed, with its frames and the channels' work on
them, before the next position becomes SILENT is the model's reading (log 28). That the position need not be counting,
and that a write of the value held already brings no position to its expiry, is its reading too (log 18), and that the
reply DONE comes after the frames (log 9). -/
def Obligations.SilenceTimeoutIsWritten : Prop :=
  ∀ (value : BitVec 16) (s : State), Served lockSettings s → 60 ≤ value.toNat → value.toNat ≤ 1800 →
    let written :=
      { s with
        content := { s.content with settings := { s.content.settings with silenceTimeout := value.toNat } }
        store := { s.store with changed := true } }
    let expiry : State → Pos → State := fun u p =>
      let r := posRec u p
      let untwin : Pos → State → State := fun q =>
        modCond q (fun c => { c with active := { c.active with twin := false }, acked := { c.acked with twin := false } })
      let left :=
        if r.state = .live ∧ r.cond.active.twin = true ∧ (geometry u p).fitted = true ∧
            (geometry u (mateOf p)).fitted = true then untwin (mateOf p) (untwin p u)
        else u
      if (r.state = .waiting ∨ r.state = .live) ∧ value.toNat * 1000 ≤ r.silence then
        finishEvent u [] none (modPos p (fun x =>
          { x with
            state := .silent
            cond := { x.cond with active := { x.cond.active with silent := true } } }) left)
      else u
    (value.toNat = s.content.settings.silenceTimeout →
      exec (.writeSettingSilenceTimeout 4 value) s = .next (reply 0x14 .done written)) ∧
    (value.toNat ≠ s.content.settings.silenceTimeout →
      ∃ t, exec (.writeSettingSilenceTimeout 4 value) s = .next t ∧
        t = reply 0x14 .done ((List.finRange 32).foldl expiry written) ∧
        t.content = written.content ∧ t.store = written.store ∧ t.vehicle = s.vehicle ∧ t.mgmt = s.mgmt ∧
        t.table = s.table ∧
        (∀ p : Pos,
          let falls := ((posRec s p).state = .waiting ∨ (posRec s p).state = .live) ∧
            value.toNat * 1000 ≤ (posRec s p).silence
          (falls → (posRec t p).state = .silent ∧ (posRec t p).cond.active.silent = true) ∧
          (¬falls → (posRec t p).state = (posRec s p).state ∧
            (posRec t p).cond.active.silent = (posRec s p).cond.active.silent) ∧
          (posRec t p).silence = (posRec s p).silence ∧ (posRec t p).bound = (posRec s p).bound ∧
          (posRec t p).filtered = (posRec s p).filtered ∧ (posRec t p).history = (posRec s p).history ∧
          (posRec t p).cond.level = (posRec s p).cond.level))

/-- WRITE SETTING of the node number and its coming into force (R167): the setting is written at once; the value is
pending behind its reply and in force when that has gone, or at once where the queue refused it. A further write while a
value is pending replaces it, and waits for its own reply alone; a pending value whose reply has gone is in force before
it. That the write itself settles a refused reply, and a step of its own records a sent one, is the model's choice
(log 7). -/
def Obligations.NodeNumberWaitsForItsReply : Prop :=
  (∀ (value : BitVec 16) (s : State), Served lockSettings s → value.toNat ≤ 15 → s.mgmt.nodePending = none →
    (∀ f ∈ s.tx.frames, f.awaited ≠ some .node) →
    let reply_ : Frame :=
      { cls := .service, entry := s.time, body := .reply 0x14 .done, offered := none, awaited := some .node }
    let out := offerFrame reply_ s.tx
    ∃ t, exec (.writeSettingNodeNumber 4 value) s = .next t ∧
      t.content = { s.content with settings := { s.content.settings with node := value.toNat } } ∧
      t.store = { s.store with changed := true } ∧ t.tx = out.tx ∧
      (out.placed = true →
        t.mgmt = { s.mgmt with nodePending := some value.toNat } ∧ nodeNow t = s.mgmt.nodeInForce) ∧
      (out.placed = false → t.mgmt = { s.mgmt with nodeInForce := value.toNat }) ∧
      t.pos = s.pos ∧ t.vehicle = s.vehicle ∧ t.chan = s.chan) ∧
  (∀ (value : BitVec 16) (s : State), Served lockSettings s → value.toNat ≤ 15 →
    let reply_ : Frame :=
      { cls := .service, entry := s.time, body := .reply 0x14 .done, offered := none, awaited := some .node }
    let forgotten := s.tx.frames.map (fun f => if f.awaited = some .node then { f with awaited := none } else f)
    let out := offerFrame reply_ { s.tx with frames := forgotten }
    let inForce :=
      match s.mgmt.nodePending with
      | some n => if ∃ f ∈ s.tx.frames, f.awaited = some .node then s.mgmt.nodeInForce else n
      | none => s.mgmt.nodeInForce
    ∃ t, exec (.writeSettingNodeNumber 4 value) s = .next t ∧
      t.content = { s.content with settings := { s.content.settings with node := value.toNat } } ∧
      t.store = { s.store with changed := true } ∧ t.tx = out.tx ∧
      (out.placed = true →
        t.mgmt = { s.mgmt with nodeInForce := inForce, nodePending := some value.toNat } ∧ nodeNow t = inForce) ∧
      (out.placed = false → t.mgmt = { s.mgmt with nodeInForce := value.toNat, nodePending := none }) ∧
      t.pos = s.pos ∧ t.vehicle = s.vehicle ∧ t.chan = s.chan) ∧
  (∀ (n : Nat) (s : State), s.mgmt.nodePending = some n → (∀ f ∈ s.tx.frames, f.awaited ≠ some .node) →
    exec .nodeNumberInForce s = .next { s with mgmt := { s.mgmt with nodeInForce := n, nodePending := none } })

/-- CLEAR DIAGNOSTICS (R168): every diagnostic count is 0, the summary flag and the saturated flags are clear, and
every other state stays as it is. That the reply DONE comes after the clear, so that a reply the queue refuses or makes
room for is counted from 0, is the model's reading (log 9). -/
def Obligations.DiagnosticsAreCleared : Prop :=
  ∀ s : State, s.mgmt.restartPending = false → ∃ t, exec (.clearDiagnostics 1) s = .next (reply 0x16 .done t) ∧
    t.frontPort = { framing := s.frontPort.framing, taken := 0, badCheck := 0, badFraming := 0 } ∧
    t.rearPort = { framing := s.rearPort.framing, taken := 0, badCheck := 0, badFraming := 0 } ∧
    t.dup = { entries := s.dup.entries, merges := 0, evictions := 0 } ∧
    t.table = { accepted := s.table.accepted, inactiveSet := 0, lateRepeat := 0, unplaced := 0 } ∧
    t.strangers = { entries := s.strangers.entries, replaced := 0 } ∧
    t.tx = { frames := s.tx.frames, reportEvictions := 0, staleDiscards := 0, refusedAlerts := 0, lostService := 0
             busOff := s.tx.busOff } ∧
    (∀ c : ChanNo, chanRun t c = { chanRun s c with overrun := 0 }) ∧
    t.mgmt = { s.mgmt with summary := false } ∧
    (∀ p : Pos, posRec t p = { posRec s p with saturated := false }) ∧
    t.content = s.content ∧ t.vehicle = s.vehicle ∧ t.store = s.store ∧ t.truckWalk = s.truckWalk ∧
    t.trailerWalk = s.trailerWalk ∧ t.time = s.time ∧ t.pending = s.pending

/-- STORE and its completion (R172): the snapshot is taken, the flag cleared and the image marked invalid; at completion
a match leaves the snapshot as the valid image, a mismatch leaves the image invalid and sets the flag. A write that has
taken 600 ms completes before any more time passes; that it does so by itself, with a read-back that is a free value, and
that completions are numbered for it, is the model's choice (log 17). -/
def Obligations.StoreWritesTheSnapshot : Prop :=
  (∀ s : State, Served lockStore s → exec (.store 1) s = .next
    (reply 0x19 .done
      { s with store :=
          { s.store with
            job := some { snapshot := s.content, latest := s.time + 600 }, changed := false
            image := { s.store.image with markedInvalid := true } } })) ∧
  (∀ (job : StoreJob) (s : State), s.store.job = some job →
    (∃ t, exec (.storeCompletion .matches) s = .next t ∧ t.store.image.content = job.snapshot ∧
      (loadTest job.snapshot = true → imageValid t.store.image = true) ∧
      t.store =
        { s.store with
          image := t.store.image, job := none, lastOk := some true, readBacks := s.store.readBacks + 1 } ∧
      t = { placeService (.long 0x1C [fld 1 0]) s with store := t.store }) ∧
    (∃ t, exec (.storeCompletion .differs) s = .next t ∧ imageValid t.store.image = false ∧
      t.store =
        { s.store with
          image := t.store.image, job := none, lastOk := some false, changed := true
          readBacks := s.store.readBacks + 1 } ∧
      t = { placeService (.long 0x1C [fld 1 1]) s with store := t.store }) ∧
    (s.pending = [] → job.latest ≤ s.time → ∃ t r, step s = .next t ∧ t.time = s.time ∧ .storeCompletion r ∈ t.pending))

/-! ## Frames and the laws of the state -/

/-- The bytes of the frames the part sends. Wheel frames (R123, R157, 12.4): an ALERT frame of a position with its
reason, a REPORT frame with its channel number, each field where the layout puts it, an absent gauge as 4095, and an END
frame with its marker and zeros. SERVICE frames (R176): a reply of length 2 is the whole kind as received and its status;
a frame of length 8 has its kind in bits 0 to 4 and its fields packed from bit 5 on, a field being a value in a width,
and a count wider than its field saturated. The codes of the named values in them are those of 12.1, 12.3, 12.4, 12.5.1,
12.5.3 and R176; the codes of a half in WALK STATUS, LEARN and WALK END and of the order INTERLEAVED are the model's
inference from the request's fields (log 22). -/
def Obligations.WheelFramesAreLaidOut : Prop :=
  ([.normal, .low, .critical, .high].map levelCode = [0, 1, 2, 3] ∧
    [.vacant, .unbound, .waiting, .live, .silent].map posStateCode = [0, 1, 2, 3, 4] ∧
    [.raised, .cleared, .reset, .repeated].map reasonCode = [0, 1, 2, 3] ∧
    [.done, .badArgument, .locked, .busy, .conflict, .walkOpen, .noWalk, .channelActive, .moving, .unknown].map
      statusCode = [0, 1, 2, 3, 4, 5, 6, 7, 8, 9] ∧
    [.periodic, .rapid, .motion, .learn].map kindCode = [0, 1, 2, 3] ∧
    [.empty, .laden, .tipping].map loadCode = [0, 1, 2] ∧ [.stationary, .moving].map motionCode = [0, 1] ∧
    [.truck, .trailer].map halfCode = [0, 1] ∧ [.sequential, .interleaved].map orderCode = [0, 1] ∧
    [.complete, .timeout, .stopped, .setChanged, .tableFull].map resultCode = [0, 1, 2, 3, 4] ∧
    [.new, .moved, .confirmed, .displaced].map outcomeCode = [0, 1, 2, 3] ∧
    [.idle, .armed, .running, .waiting, .ended].map chanStateCode = [0, 1, 2, 3, 4] ∧
    [.sample, .period, .alert, .request].map triggerCode = [0, 1, 2, 3] ∧
    [.single, .run, .block].map modeCode = [0, 1, 2] ∧
    [.hold, .up, .down, .upReturn].map stepCode = [0, 1, 2, 3]) ∧
  (∀ (kind : Byte) (status : Status), bodyBytes (.reply kind status) = [kind, statusCode status]) ∧
  (∀ (kind : Nat) (fields : List Field), (fields.map fun f => f.width).sum ≤ 59 →
    carries (.long kind fields) kind (fields.map fun f => (f.width, f.value))) ∧
  (∀ width value : Nat, fld width value = { value := value, width := width } ∧
    satFld width value = { value := min value (2 ^ width - 1), width := width }) ∧
  ∀ (s : State) (p : Pos) (why : Reason) (c : ChanNo),
    let r := posRec s p
    let on : Condition → Nat := fun k => (condGet r.cond.active k).toNat
    let byte : Body → Nat → Nat := fun b i => ((bodyBytes b).getD i 0).toNat
    let acknowledged := (r.cond.level ≠ .normal ∧ r.cond.ackLevel = true) ∨
      ∃ k : Condition, condGet r.cond.active k = true ∧ condGet r.cond.acked k = true
    let shows : Body → Nat → Prop := fun b two =>
      (bodyBytes b).length = 8 ∧ byte b 0 = p.val + 32 * two ∧
      byte b 1 = levelCode r.cond.level + 4 * on .hot + 8 * on .twin + 16 * on .leak + 32 * on .silent +
        64 * on .fault + 128 * on .battery ∧
      byte b 2 % 8 = posStateCode r.state ∧ (byte b 2 / 8 % 2 = 1 ↔ r.uncompensated = true) ∧
      (byte b 2 / 16 % 2 = 1 ↔ r.saturated = true) ∧ (byte b 2 / 32 % 2 = 1 ↔ acknowledged) ∧
      byte b 2 / 64 % 2 = 0 ∧ (byte b 2 / 128 = 1 ↔ r.lastTime = none) ∧
      byte b 3 + 256 * byte b 4 + 65536 * byte b 5 = r.filtered.getD 4095 + 4096 * r.hot.getD 4095 ∧
      byte b 6 = r.temp.getD 0 ∧
      byte b 7 = (match r.lastTime with
        | some t => min ((s.time - t) / 1000) 255
        | none => 0)
    ((∀ f, r.filtered = some f → f ≤ 4094) → (∀ h, r.hot = some h → h ≤ 4094) → (∀ x, r.temp = some x → x ≤ 255) →
      shows (.alert (viewOf s p) why) (reasonCode why) ∧ shows (.report (viewOf s p) c) c.val) ∧
    bodyBytes (.endFrame c) = [BitVec.ofNat 8 (32 * c.val + 128), 0, 0, 0, 0, 0, 0, 0]

/-- Decoding the CAN frame of a well-formed command under a node number gives the command back, whatever its operands
(R175, 12.3, 12.5.1). That a WRITE SETTING whose code names no setting is the command UNKNOWN_REQUEST of kind 0x14
(log 14), and that a byte a frame does not have reads as 0 (log 15), are the model's choices. A received frame becomes a
command under the node number in force at its reception, a pending one from the moment no reply waits for it (R167, R175);
that the command joins the waiting ones behind the rest is the model's choice (logs 15 and 20). -/
def Obligations.CanFramesRoundTrip : Prop :=
  (∀ (node : Nat) (i : Instr) (f : CanFrame), node ≤ 15 → i.wf = true → encodeCan node i = some f →
    decodeCan node f = i ∧ frameOk f = true) ∧
  ∀ (f : CanFrame) (s : State),
    let inForce :=
      match s.mgmt.nodePending with
      | some n => if ∃ g ∈ s.tx.frames, g.awaited = some .node then s.mgmt.nodeInForce else n
      | none => s.mgmt.nodeInForce
    receiveFrame f s = { s with pending := s.pending ++ [decodeCan inForce f] }

/-- Every step keeps the law of the transmit queue (R158 to R160), among it that only replies are waited for (R167,
R170). -/
def Obligations.StepKeepsQueueLaw : Prop := ∀ s t : State, QueueLaw s → step s = .next t → QueueLaw t

/-- Every step keeps the law of the stranger list (R32 to R34, R36). -/
def Obligations.StepKeepsStrangerLaw : Prop := ∀ s t : State, StrangerLaw s → step s = .next t → StrangerLaw t

/-- Every step keeps the law of the vehicle state (R42 to R44). -/
def Obligations.StepKeepsVehicleLaw : Prop := ∀ s t : State, VehicleLaw s → step s = .next t → VehicleLaw t

/-- Every step keeps the ranges of the stored content with the laws of walks, ports, duplicate list and store that hold
them up (R20, R171, R130 to R134, R1, R9, R172). -/
def Obligations.StepKeepsConfiguredLaw : Prop := ∀ s t : State, ConfiguredLaw s → step s = .next t → ConfiguredLaw t

/-- Every step keeps the law of bindings, in a state whose content, walks and lists are lawful (R56). -/
def Obligations.StepKeepsBindingLaw : Prop :=
  ∀ s t : State, ConfiguredLaw s → BindingLaw s → step s = .next t → BindingLaw t

/-- Every step keeps TWIN at both partners or at neither, in a state whose bindings are lawful (R116, R117). -/
def Obligations.StepKeepsTwinLaw : Prop :=
  ∀ s t : State, ConfiguredLaw s → BindingLaw s → TwinLaw s → step s = .next t → TwinLaw t

/-- Every step keeps the law of the position records: SILENT with its condition, acknowledgements only of what is
active, the filtered gauge with its accumulator, the ring within its capacity (R79, R94, R118, R126, R129). -/
def Obligations.StepKeepsRecordLaw : Prop :=
  ∀ s t : State, ConfiguredLaw s → BindingLaw s → RecordLaw s → step s = .next t → RecordLaw t

/-- Every step keeps the law of the channels: no job is left half done but at a WAITING channel, and no count exceeds
the configured one (R149, R153). -/
def Obligations.StepKeepsChannelLaw : Prop := ∀ s t : State, ChannelLaw s → step s = .next t → ChannelLaw t

/-- The laws hold of the state after reset. -/
def Obligations.LawsHoldAtReset : Prop :=
  QueueLaw State.reset ∧ StrangerLaw State.reset ∧ VehicleLaw State.reset ∧ ConfiguredLaw State.reset ∧
  BindingLaw State.reset ∧ TwinLaw State.reset ∧ RecordLaw State.reset ∧ ChannelLaw State.reset
end

