-- ==== Sys2Proof/Laws/PerInstr.lean ====
section
/-! SUPPORT. The family RequestShape: what the frame image of a request of section 10.2 looks like, said of every
command; one lemma per constructor. -/

namespace Sys2Proof.Laws

open Sys2Proof Sys2Proof.Machine

/-- Byte 0 of a request's image is its kind (12.5). -/
theorem requestImage_kind {w : Nat} (kind : Byte) (len : Nat) (args : BitVec w) :
    (requestImage kind len args).bits.setWidth 8 = kind := by
  ext i hi
  simp [requestImage, BitVec.getLsbD_append, hi]

theorem requestImage_target {w : Nat} (kind : Byte) (len : Nat) (args : BitVec w) :
    (requestImage kind len args).target = .request := rfl

theorem requestImage_len {w : Nat} (kind : Byte) (len : Nat) (args : BitVec w) :
    (requestImage kind len args).len = len := rfl

/-- A request of section 10.2 has a frame image, addressed to the management unit, of the request's own data length,
and with its kind in byte 0. -/
def RequestShape.Statement (i : Instr) : Prop :=
  ∀ f, requestForm i = some f → ∃ m, canImage i = some m ∧ m.target = .request ∧ m.len = f.len ∧
    m.bits.setWidth 8 = f.kind

/-- A command whose image is a request's and whose form says so has the shape. -/
theorem RequestShape.of_image {w : Nat} {i : Instr} {g : RequestForm} {args : BitVec w}
    (hf : requestForm i = some g) (hm : canImage i = some (requestImage g.kind g.len args)) :
    RequestShape.Statement i := by
  intro f h
  rw [hf] at h
  cases h
  exact ⟨_, hm, requestImage_target .., requestImage_len .., requestImage_kind ..⟩

/-- A command that is no request of section 10.2 has nothing to show. -/
theorem RequestShape.of_none {i : Instr} (h : requestForm i = none) : RequestShape.Statement i := by
  intro f hf
  rw [h] at hf
  cases hf

theorem RequestShape.characterTaken (port : Port) (char : Byte) :
    RequestShape.Statement (.characterTaken port char) := RequestShape.of_none rfl
theorem RequestShape.framingFault (port : Port) :
    RequestShape.Statement (.framingFault port) := RequestShape.of_none rfl
theorem RequestShape.idleTimerExpiry (port : Port) :
    RequestShape.Statement (.idleTimerExpiry port) := RequestShape.of_none rfl
theorem RequestShape.duplicateWindowExpiry :
    RequestShape.Statement (.duplicateWindowExpiry) := RequestShape.of_none rfl
theorem RequestShape.strangerAgeOut :
    RequestShape.Statement (.strangerAgeOut) := RequestShape.of_none rfl
theorem RequestShape.vehicleCondition (len : Nat) (load motion : Byte) (ambient : BitVec 16) (lift set : Byte) :
    RequestShape.Statement (.vehicleCondition len load motion ambient lift set) := RequestShape.of_none rfl
theorem RequestShape.stalenessExpiry :
    RequestShape.Statement (.stalenessExpiry) := RequestShape.of_none rfl
theorem RequestShape.silenceExpiry (p : Pos) :
    RequestShape.Statement (.silenceExpiry p) := RequestShape.of_none rfl
theorem RequestShape.intervalExpiry (p : Pos) :
    RequestShape.Statement (.intervalExpiry p) := RequestShape.of_none rfl
theorem RequestShape.repeatTimerExpiry (p : Pos) :
    RequestShape.Statement (.repeatTimerExpiry p) := RequestShape.of_none rfl
theorem RequestShape.ack (len : Nat) (position item : Byte) :
    RequestShape.Statement (.ack len position item) := RequestShape.of_none rfl
theorem RequestShape.walkWindowExpiry (half : Half) :
    RequestShape.Statement (.walkWindowExpiry half) := RequestShape.of_none rfl
theorem RequestShape.periodTimerExpiry (ch : ChanNo) :
    RequestShape.Statement (.periodTimerExpiry ch) := RequestShape.of_none rfl
theorem RequestShape.channelGrant :
    RequestShape.Statement (.channelGrant) := RequestShape.of_none rfl
theorem RequestShape.queueTakesHead (race : SlotRace) :
    RequestShape.Statement (.queueTakesHead race) := RequestShape.of_none rfl
theorem RequestShape.frameSent (race : SlotRace) :
    RequestShape.Statement (.frameSent race) := RequestShape.of_none rfl
theorem RequestShape.busOff :
    RequestShape.Statement (.busOff) := RequestShape.of_none rfl
theorem RequestShape.busOffRecovery (race : SlotRace) :
    RequestShape.Statement (.busOffRecovery race) := RequestShape.of_none rfl
theorem RequestShape.nodeNumberInForce :
    RequestShape.Statement (.nodeNumberInForce) := RequestShape.of_none rfl
theorem RequestShape.restartStartUp :
    RequestShape.Statement (.restartStartUp) := RequestShape.of_none rfl
theorem RequestShape.storeCompletion (result : ReadBack) :
    RequestShape.Statement (.storeCompletion result) := RequestShape.of_none rfl
theorem RequestShape.powerOn :
    RequestShape.Statement (.powerOn) := RequestShape.of_none rfl
theorem RequestShape.discardedFrame (f : CanFrame) :
    RequestShape.Statement (.discardedFrame f) := RequestShape.of_none rfl
theorem RequestShape.unknownRequest (kind : Byte) :
    RequestShape.Statement (.unknownRequest kind) := RequestShape.of_none rfl
theorem RequestShape.writeSensorEntry (len : Nat) (index : Byte) (sid : SensorId) (pos : BitVec 6) (set : BitVec 2) (offset : Byte) :
    RequestShape.Statement (.writeSensorEntry len index sid pos set offset) := RequestShape.of_image rfl rfl
theorem RequestShape.clearSensorEntry (len : Nat) (index : Byte) :
    RequestShape.Statement (.clearSensorEntry len index) := RequestShape.of_image rfl rfl
theorem RequestShape.readSensorEntry (len : Nat) (index : Byte) :
    RequestShape.Statement (.readSensorEntry len index) := RequestShape.of_image rfl rfl
theorem RequestShape.writePosition (len : Nat) (position : Byte) (fitted : Bool) (cls : BitVec 3) :
    RequestShape.Statement (.writePosition len position fitted cls) := RequestShape.of_image rfl rfl
theorem RequestShape.writeAxle (len : Nat) (axle : Byte) (near : BitVec 2) (margin : BitVec 6) (liftable : Bool) :
    RequestShape.Statement (.writeAxle len axle near margin liftable) := RequestShape.of_image rfl rfl
theorem RequestShape.readPosition (len : Nat) (position : Byte) :
    RequestShape.Statement (.readPosition len position) := RequestShape.of_image rfl rfl
theorem RequestShape.clearPosition (len : Nat) (position : Byte) :
    RequestShape.Statement (.clearPosition len position) := RequestShape.of_image rfl rfl
theorem RequestShape.readHistory (len : Nat) (position : Byte) (start count : BitVec 4) :
    RequestShape.Statement (.readHistory len position start count) := RequestShape.of_image rfl rfl
theorem RequestShape.writeProfileA (len : Nat) (load : BitVec 2) (cls : BitVec 3) (nominal : BitVec 12) (low crit high : Byte) :
    RequestShape.Statement (.writeProfileA len load cls nominal low crit high) := RequestShape.of_image rfl rfl
theorem RequestShape.writeProfileB (len : Nat) (load : BitVec 2) (cls : BitVec 3) (hot twin leak : Byte) :
    RequestShape.Statement (.writeProfileB len load cls hot twin leak) := RequestShape.of_image rfl rfl
theorem RequestShape.openWalk (len : Nat) (start : Byte) (half order : Bool) (lengthCode : BitVec 3) (target : BitVec 2) (window : BitVec 10) :
    RequestShape.Statement (.openWalk len start half order lengthCode target window) := RequestShape.of_image rfl rfl
theorem RequestShape.endWalk (len : Nat) (half : Byte) :
    RequestShape.Statement (.endWalk len half) := RequestShape.of_image rfl rfl
theorem RequestShape.walkStatus (len : Nat) (half : Byte) :
    RequestShape.Statement (.walkStatus len half) := RequestShape.of_image rfl rfl
theorem RequestShape.configureChannelA (len : Nat) (channel : Byte) (trigger mode step : BitVec 2) (start : BitVec 5) (blockLen : BitVec 6) :
    RequestShape.Statement (.configureChannelA len channel trigger mode step start blockLen) := RequestShape.of_image rfl rfl
theorem RequestShape.configureChannelB (len : Nat) (channel : Byte) (count : BitVec 16) (period : Byte) (skipVacant cyclic powerUp : Bool) :
    RequestShape.Statement (.configureChannelB len channel count period skipVacant cyclic powerUp) := RequestShape.of_image rfl rfl
theorem RequestShape.startChannel (len : Nat) (channel : Byte) :
    RequestShape.Statement (.startChannel len channel) := RequestShape.of_image rfl rfl
theorem RequestShape.stopChannel (len : Nat) (channel : Byte) :
    RequestShape.Statement (.stopChannel len channel) := RequestShape.of_image rfl rfl
theorem RequestShape.triggerChannel (len : Nat) (channel : Byte) :
    RequestShape.Statement (.triggerChannel len channel) := RequestShape.of_image rfl rfl
theorem RequestShape.channelStatus (len : Nat) (channel : Byte) :
    RequestShape.Statement (.channelStatus len channel) := RequestShape.of_image rfl rfl
theorem RequestShape.writeSettingTref (len : Nat) (value : BitVec 16) :
    RequestShape.Statement (.writeSettingTref len value) := RequestShape.of_image rfl rfl
theorem RequestShape.writeSettingSilenceTimeout (len : Nat) (value : BitVec 16) :
    RequestShape.Statement (.writeSettingSilenceTimeout len value) := RequestShape.of_image rfl rfl
theorem RequestShape.writeSettingRepeatPeriod (len : Nat) (value : BitVec 16) :
    RequestShape.Statement (.writeSettingRepeatPeriod len value) := RequestShape.of_image rfl rfl
theorem RequestShape.writeSettingIntervalLength (len : Nat) (value : BitVec 16) :
    RequestShape.Statement (.writeSettingIntervalLength len value) := RequestShape.of_image rfl rfl
theorem RequestShape.writeSettingReportLifetime (len : Nat) (value : BitVec 16) :
    RequestShape.Statement (.writeSettingReportLifetime len value) := RequestShape.of_image rfl rfl
theorem RequestShape.writeSettingWalkWindow (len : Nat) (value : BitVec 16) :
    RequestShape.Statement (.writeSettingWalkWindow len value) := RequestShape.of_image rfl rfl
theorem RequestShape.writeSettingNodeNumber (len : Nat) (value : BitVec 16) :
    RequestShape.Statement (.writeSettingNodeNumber len value) := RequestShape.of_image rfl rfl
theorem RequestShape.writeSettingProtectLevel (len : Nat) (value : BitVec 16) :
    RequestShape.Statement (.writeSettingProtectLevel len value) := RequestShape.of_image rfl rfl
theorem RequestShape.readSettings (len : Nat) :
    RequestShape.Statement (.readSettings len) := RequestShape.of_image rfl rfl
theorem RequestShape.clearDiagnostics (len : Nat) :
    RequestShape.Statement (.clearDiagnostics len) := RequestShape.of_image rfl rfl
theorem RequestShape.readCounters (len : Nat) :
    RequestShape.Statement (.readCounters len) := RequestShape.of_image rfl rfl
theorem RequestShape.status (len : Nat) :
    RequestShape.Statement (.status len) := RequestShape.of_image rfl rfl
theorem RequestShape.store (len : Nat) :
    RequestShape.Statement (.store len) := RequestShape.of_image rfl rfl
theorem RequestShape.restart (len : Nat) :
    RequestShape.Statement (.restart len) := RequestShape.of_image rfl rfl

end Sys2Proof.Laws
end

