-- ==== Sys2Proof/Laws/State.lean ====
section
/-! SUPPORT. What each update of the state leaves alone: one lemma for each field it does not write. -/

namespace Sys2Proof.Machine

open Sys2Proof

/-! ### modPos -/

@[simp] theorem modPos_time (p : Pos) (f : PosRec → PosRec) (s : State) : (modPos p f s).time = s.time := rfl
@[simp] theorem modPos_content (p : Pos) (f : PosRec → PosRec) (s : State) : (modPos p f s).content = s.content := rfl
@[simp] theorem modPos_frontPort (p : Pos) (f : PosRec → PosRec) (s : State) : (modPos p f s).frontPort = s.frontPort := rfl
@[simp] theorem modPos_rearPort (p : Pos) (f : PosRec → PosRec) (s : State) : (modPos p f s).rearPort = s.rearPort := rfl
@[simp] theorem modPos_dup (p : Pos) (f : PosRec → PosRec) (s : State) : (modPos p f s).dup = s.dup := rfl
@[simp] theorem modPos_table (p : Pos) (f : PosRec → PosRec) (s : State) : (modPos p f s).table = s.table := rfl
@[simp] theorem modPos_strangers (p : Pos) (f : PosRec → PosRec) (s : State) : (modPos p f s).strangers = s.strangers := rfl
@[simp] theorem modPos_vehicle (p : Pos) (f : PosRec → PosRec) (s : State) : (modPos p f s).vehicle = s.vehicle := rfl
@[simp] theorem modPos_truckWalk (p : Pos) (f : PosRec → PosRec) (s : State) : (modPos p f s).truckWalk = s.truckWalk := rfl
@[simp] theorem modPos_trailerWalk (p : Pos) (f : PosRec → PosRec) (s : State) : (modPos p f s).trailerWalk = s.trailerWalk := rfl
@[simp] theorem modPos_chan (p : Pos) (f : PosRec → PosRec) (s : State) : (modPos p f s).chan = s.chan := rfl
@[simp] theorem modPos_tx (p : Pos) (f : PosRec → PosRec) (s : State) : (modPos p f s).tx = s.tx := rfl
@[simp] theorem modPos_mgmt (p : Pos) (f : PosRec → PosRec) (s : State) : (modPos p f s).mgmt = s.mgmt := rfl
@[simp] theorem modPos_store (p : Pos) (f : PosRec → PosRec) (s : State) : (modPos p f s).store = s.store := rfl
@[simp] theorem modPos_pending (p : Pos) (f : PosRec → PosRec) (s : State) : (modPos p f s).pending = s.pending := rfl

/-! ### modCond -/

@[simp] theorem modCond_time (p : Pos) (f : Cond → Cond) (s : State) : (modCond p f s).time = s.time := rfl
@[simp] theorem modCond_content (p : Pos) (f : Cond → Cond) (s : State) : (modCond p f s).content = s.content := rfl
@[simp] theorem modCond_frontPort (p : Pos) (f : Cond → Cond) (s : State) : (modCond p f s).frontPort = s.frontPort := rfl
@[simp] theorem modCond_rearPort (p : Pos) (f : Cond → Cond) (s : State) : (modCond p f s).rearPort = s.rearPort := rfl
@[simp] theorem modCond_dup (p : Pos) (f : Cond → Cond) (s : State) : (modCond p f s).dup = s.dup := rfl
@[simp] theorem modCond_table (p : Pos) (f : Cond → Cond) (s : State) : (modCond p f s).table = s.table := rfl
@[simp] theorem modCond_strangers (p : Pos) (f : Cond → Cond) (s : State) : (modCond p f s).strangers = s.strangers := rfl
@[simp] theorem modCond_vehicle (p : Pos) (f : Cond → Cond) (s : State) : (modCond p f s).vehicle = s.vehicle := rfl
@[simp] theorem modCond_truckWalk (p : Pos) (f : Cond → Cond) (s : State) : (modCond p f s).truckWalk = s.truckWalk := rfl
@[simp] theorem modCond_trailerWalk (p : Pos) (f : Cond → Cond) (s : State) : (modCond p f s).trailerWalk = s.trailerWalk := rfl
@[simp] theorem modCond_chan (p : Pos) (f : Cond → Cond) (s : State) : (modCond p f s).chan = s.chan := rfl
@[simp] theorem modCond_tx (p : Pos) (f : Cond → Cond) (s : State) : (modCond p f s).tx = s.tx := rfl
@[simp] theorem modCond_mgmt (p : Pos) (f : Cond → Cond) (s : State) : (modCond p f s).mgmt = s.mgmt := rfl
@[simp] theorem modCond_store (p : Pos) (f : Cond → Cond) (s : State) : (modCond p f s).store = s.store := rfl
@[simp] theorem modCond_pending (p : Pos) (f : Cond → Cond) (s : State) : (modCond p f s).pending = s.pending := rfl

/-! ### setBinding -/

@[simp] theorem setBinding_time (p : Pos) (st : PosState) (e : Option EntryNo) (s : State) : (setBinding p st e s).time = s.time := rfl
@[simp] theorem setBinding_content (p : Pos) (st : PosState) (e : Option EntryNo) (s : State) : (setBinding p st e s).content = s.content := rfl
@[simp] theorem setBinding_frontPort (p : Pos) (st : PosState) (e : Option EntryNo) (s : State) : (setBinding p st e s).frontPort = s.frontPort := rfl
@[simp] theorem setBinding_rearPort (p : Pos) (st : PosState) (e : Option EntryNo) (s : State) : (setBinding p st e s).rearPort = s.rearPort := rfl
@[simp] theorem setBinding_dup (p : Pos) (st : PosState) (e : Option EntryNo) (s : State) : (setBinding p st e s).dup = s.dup := rfl
@[simp] theorem setBinding_table (p : Pos) (st : PosState) (e : Option EntryNo) (s : State) : (setBinding p st e s).table = s.table := rfl
@[simp] theorem setBinding_strangers (p : Pos) (st : PosState) (e : Option EntryNo) (s : State) : (setBinding p st e s).strangers = s.strangers := rfl
@[simp] theorem setBinding_vehicle (p : Pos) (st : PosState) (e : Option EntryNo) (s : State) : (setBinding p st e s).vehicle = s.vehicle := rfl
@[simp] theorem setBinding_truckWalk (p : Pos) (st : PosState) (e : Option EntryNo) (s : State) : (setBinding p st e s).truckWalk = s.truckWalk := rfl
@[simp] theorem setBinding_trailerWalk (p : Pos) (st : PosState) (e : Option EntryNo) (s : State) : (setBinding p st e s).trailerWalk = s.trailerWalk := rfl
@[simp] theorem setBinding_chan (p : Pos) (st : PosState) (e : Option EntryNo) (s : State) : (setBinding p st e s).chan = s.chan := rfl
@[simp] theorem setBinding_tx (p : Pos) (st : PosState) (e : Option EntryNo) (s : State) : (setBinding p st e s).tx = s.tx := rfl
@[simp] theorem setBinding_mgmt (p : Pos) (st : PosState) (e : Option EntryNo) (s : State) : (setBinding p st e s).mgmt = s.mgmt := rfl
@[simp] theorem setBinding_store (p : Pos) (st : PosState) (e : Option EntryNo) (s : State) : (setBinding p st e s).store = s.store := rfl
@[simp] theorem setBinding_pending (p : Pos) (st : PosState) (e : Option EntryNo) (s : State) : (setBinding p st e s).pending = s.pending := rfl

/-! ### modChan -/

@[simp] theorem modChan_time (c : ChanNo) (f : ChanRun → ChanRun) (s : State) : (modChan c f s).time = s.time := rfl
@[simp] theorem modChan_content (c : ChanNo) (f : ChanRun → ChanRun) (s : State) : (modChan c f s).content = s.content := rfl
@[simp] theorem modChan_frontPort (c : ChanNo) (f : ChanRun → ChanRun) (s : State) : (modChan c f s).frontPort = s.frontPort := rfl
@[simp] theorem modChan_rearPort (c : ChanNo) (f : ChanRun → ChanRun) (s : State) : (modChan c f s).rearPort = s.rearPort := rfl
@[simp] theorem modChan_dup (c : ChanNo) (f : ChanRun → ChanRun) (s : State) : (modChan c f s).dup = s.dup := rfl
@[simp] theorem modChan_table (c : ChanNo) (f : ChanRun → ChanRun) (s : State) : (modChan c f s).table = s.table := rfl
@[simp] theorem modChan_strangers (c : ChanNo) (f : ChanRun → ChanRun) (s : State) : (modChan c f s).strangers = s.strangers := rfl
@[simp] theorem modChan_vehicle (c : ChanNo) (f : ChanRun → ChanRun) (s : State) : (modChan c f s).vehicle = s.vehicle := rfl
@[simp] theorem modChan_pos (c : ChanNo) (f : ChanRun → ChanRun) (s : State) : (modChan c f s).pos = s.pos := rfl
@[simp] theorem modChan_truckWalk (c : ChanNo) (f : ChanRun → ChanRun) (s : State) : (modChan c f s).truckWalk = s.truckWalk := rfl
@[simp] theorem modChan_trailerWalk (c : ChanNo) (f : ChanRun → ChanRun) (s : State) : (modChan c f s).trailerWalk = s.trailerWalk := rfl
@[simp] theorem modChan_tx (c : ChanNo) (f : ChanRun → ChanRun) (s : State) : (modChan c f s).tx = s.tx := rfl
@[simp] theorem modChan_mgmt (c : ChanNo) (f : ChanRun → ChanRun) (s : State) : (modChan c f s).mgmt = s.mgmt := rfl
@[simp] theorem modChan_store (c : ChanNo) (f : ChanRun → ChanRun) (s : State) : (modChan c f s).store = s.store := rfl
@[simp] theorem modChan_pending (c : ChanNo) (f : ChanRun → ChanRun) (s : State) : (modChan c f s).pending = s.pending := rfl

/-! ### modWalk -/

@[simp] theorem modWalk_time (h : Half) (f : WalkSlot → WalkSlot) (s : State) : (modWalk h f s).time = s.time := by cases h <;> rfl
@[simp] theorem modWalk_content (h : Half) (f : WalkSlot → WalkSlot) (s : State) : (modWalk h f s).content = s.content := by cases h <;> rfl
@[simp] theorem modWalk_frontPort (h : Half) (f : WalkSlot → WalkSlot) (s : State) : (modWalk h f s).frontPort = s.frontPort := by cases h <;> rfl
@[simp] theorem modWalk_rearPort (h : Half) (f : WalkSlot → WalkSlot) (s : State) : (modWalk h f s).rearPort = s.rearPort := by cases h <;> rfl
@[simp] theorem modWalk_dup (h : Half) (f : WalkSlot → WalkSlot) (s : State) : (modWalk h f s).dup = s.dup := by cases h <;> rfl
@[simp] theorem modWalk_table (h : Half) (f : WalkSlot → WalkSlot) (s : State) : (modWalk h f s).table = s.table := by cases h <;> rfl
@[simp] theorem modWalk_strangers (h : Half) (f : WalkSlot → WalkSlot) (s : State) : (modWalk h f s).strangers = s.strangers := by cases h <;> rfl
@[simp] theorem modWalk_vehicle (h : Half) (f : WalkSlot → WalkSlot) (s : State) : (modWalk h f s).vehicle = s.vehicle := by cases h <;> rfl
@[simp] theorem modWalk_pos (h : Half) (f : WalkSlot → WalkSlot) (s : State) : (modWalk h f s).pos = s.pos := by cases h <;> rfl
@[simp] theorem modWalk_chan (h : Half) (f : WalkSlot → WalkSlot) (s : State) : (modWalk h f s).chan = s.chan := by cases h <;> rfl
@[simp] theorem modWalk_tx (h : Half) (f : WalkSlot → WalkSlot) (s : State) : (modWalk h f s).tx = s.tx := by cases h <;> rfl
@[simp] theorem modWalk_mgmt (h : Half) (f : WalkSlot → WalkSlot) (s : State) : (modWalk h f s).mgmt = s.mgmt := by cases h <;> rfl
@[simp] theorem modWalk_store (h : Half) (f : WalkSlot → WalkSlot) (s : State) : (modWalk h f s).store = s.store := by cases h <;> rfl
@[simp] theorem modWalk_pending (h : Half) (f : WalkSlot → WalkSlot) (s : State) : (modWalk h f s).pending = s.pending := by cases h <;> rfl

/-! ### modPort -/

@[simp] theorem modPort_time (port : Port) (f : PortState → PortState) (s : State) : (modPort port f s).time = s.time := by cases port <;> rfl
@[simp] theorem modPort_content (port : Port) (f : PortState → PortState) (s : State) : (modPort port f s).content = s.content := by cases port <;> rfl
@[simp] theorem modPort_dup (port : Port) (f : PortState → PortState) (s : State) : (modPort port f s).dup = s.dup := by cases port <;> rfl
@[simp] theorem modPort_table (port : Port) (f : PortState → PortState) (s : State) : (modPort port f s).table = s.table := by cases port <;> rfl
@[simp] theorem modPort_strangers (port : Port) (f : PortState → PortState) (s : State) : (modPort port f s).strangers = s.strangers := by cases port <;> rfl
@[simp] theorem modPort_vehicle (port : Port) (f : PortState → PortState) (s : State) : (modPort port f s).vehicle = s.vehicle := by cases port <;> rfl
@[simp] theorem modPort_pos (port : Port) (f : PortState → PortState) (s : State) : (modPort port f s).pos = s.pos := by cases port <;> rfl
@[simp] theorem modPort_truckWalk (port : Port) (f : PortState → PortState) (s : State) : (modPort port f s).truckWalk = s.truckWalk := by cases port <;> rfl
@[simp] theorem modPort_trailerWalk (port : Port) (f : PortState → PortState) (s : State) : (modPort port f s).trailerWalk = s.trailerWalk := by cases port <;> rfl
@[simp] theorem modPort_chan (port : Port) (f : PortState → PortState) (s : State) : (modPort port f s).chan = s.chan := by cases port <;> rfl
@[simp] theorem modPort_tx (port : Port) (f : PortState → PortState) (s : State) : (modPort port f s).tx = s.tx := by cases port <;> rfl
@[simp] theorem modPort_mgmt (port : Port) (f : PortState → PortState) (s : State) : (modPort port f s).mgmt = s.mgmt := by cases port <;> rfl
@[simp] theorem modPort_store (port : Port) (f : PortState → PortState) (s : State) : (modPort port f s).store = s.store := by cases port <;> rfl
@[simp] theorem modPort_pending (port : Port) (f : PortState → PortState) (s : State) : (modPort port f s).pending = s.pending := by cases port <;> rfl

/-! ### setFraming -/

@[simp] theorem setFraming_time (port : Port) (f : Framing) (s : State) : (setFraming port f s).time = s.time := by cases port <;> rfl
@[simp] theorem setFraming_content (port : Port) (f : Framing) (s : State) : (setFraming port f s).content = s.content := by cases port <;> rfl
@[simp] theorem setFraming_dup (port : Port) (f : Framing) (s : State) : (setFraming port f s).dup = s.dup := by cases port <;> rfl
@[simp] theorem setFraming_table (port : Port) (f : Framing) (s : State) : (setFraming port f s).table = s.table := by cases port <;> rfl
@[simp] theorem setFraming_strangers (port : Port) (f : Framing) (s : State) : (setFraming port f s).strangers = s.strangers := by cases port <;> rfl
@[simp] theorem setFraming_vehicle (port : Port) (f : Framing) (s : State) : (setFraming port f s).vehicle = s.vehicle := by cases port <;> rfl
@[simp] theorem setFraming_pos (port : Port) (f : Framing) (s : State) : (setFraming port f s).pos = s.pos := by cases port <;> rfl
@[simp] theorem setFraming_truckWalk (port : Port) (f : Framing) (s : State) : (setFraming port f s).truckWalk = s.truckWalk := by cases port <;> rfl
@[simp] theorem setFraming_trailerWalk (port : Port) (f : Framing) (s : State) : (setFraming port f s).trailerWalk = s.trailerWalk := by cases port <;> rfl
@[simp] theorem setFraming_chan (port : Port) (f : Framing) (s : State) : (setFraming port f s).chan = s.chan := by cases port <;> rfl
@[simp] theorem setFraming_tx (port : Port) (f : Framing) (s : State) : (setFraming port f s).tx = s.tx := by cases port <;> rfl
@[simp] theorem setFraming_mgmt (port : Port) (f : Framing) (s : State) : (setFraming port f s).mgmt = s.mgmt := by cases port <;> rfl
@[simp] theorem setFraming_store (port : Port) (f : Framing) (s : State) : (setFraming port f s).store = s.store := by cases port <;> rfl
@[simp] theorem setFraming_pending (port : Port) (f : Framing) (s : State) : (setFraming port f s).pending = s.pending := by cases port <;> rfl

/-! ### breakRecord -/

@[simp] theorem breakRecord_time (port : Port) (f : Framing) (s : State) : (breakRecord port f s).time = s.time := by cases port <;> rfl
@[simp] theorem breakRecord_content (port : Port) (f : Framing) (s : State) : (breakRecord port f s).content = s.content := by cases port <;> rfl
@[simp] theorem breakRecord_dup (port : Port) (f : Framing) (s : State) : (breakRecord port f s).dup = s.dup := by cases port <;> rfl
@[simp] theorem breakRecord_table (port : Port) (f : Framing) (s : State) : (breakRecord port f s).table = s.table := by cases port <;> rfl
@[simp] theorem breakRecord_strangers (port : Port) (f : Framing) (s : State) : (breakRecord port f s).strangers = s.strangers := by cases port <;> rfl
@[simp] theorem breakRecord_vehicle (port : Port) (f : Framing) (s : State) : (breakRecord port f s).vehicle = s.vehicle := by cases port <;> rfl
@[simp] theorem breakRecord_pos (port : Port) (f : Framing) (s : State) : (breakRecord port f s).pos = s.pos := by cases port <;> rfl
@[simp] theorem breakRecord_truckWalk (port : Port) (f : Framing) (s : State) : (breakRecord port f s).truckWalk = s.truckWalk := by cases port <;> rfl
@[simp] theorem breakRecord_trailerWalk (port : Port) (f : Framing) (s : State) : (breakRecord port f s).trailerWalk = s.trailerWalk := by cases port <;> rfl
@[simp] theorem breakRecord_chan (port : Port) (f : Framing) (s : State) : (breakRecord port f s).chan = s.chan := by cases port <;> rfl
@[simp] theorem breakRecord_tx (port : Port) (f : Framing) (s : State) : (breakRecord port f s).tx = s.tx := by cases port <;> rfl
@[simp] theorem breakRecord_mgmt (port : Port) (f : Framing) (s : State) : (breakRecord port f s).mgmt = s.mgmt := by cases port <;> rfl
@[simp] theorem breakRecord_store (port : Port) (f : Framing) (s : State) : (breakRecord port f s).store = s.store := by cases port <;> rfl
@[simp] theorem breakRecord_pending (port : Port) (f : Framing) (s : State) : (breakRecord port f s).pending = s.pending := by cases port <;> rfl

/-! ### setDupEntries -/

@[simp] theorem setDupEntries_time (xs : List DupEntry) (s : State) : (setDupEntries xs s).time = s.time := rfl
@[simp] theorem setDupEntries_content (xs : List DupEntry) (s : State) : (setDupEntries xs s).content = s.content := rfl
@[simp] theorem setDupEntries_frontPort (xs : List DupEntry) (s : State) : (setDupEntries xs s).frontPort = s.frontPort := rfl
@[simp] theorem setDupEntries_rearPort (xs : List DupEntry) (s : State) : (setDupEntries xs s).rearPort = s.rearPort := rfl
@[simp] theorem setDupEntries_table (xs : List DupEntry) (s : State) : (setDupEntries xs s).table = s.table := rfl
@[simp] theorem setDupEntries_strangers (xs : List DupEntry) (s : State) : (setDupEntries xs s).strangers = s.strangers := rfl
@[simp] theorem setDupEntries_vehicle (xs : List DupEntry) (s : State) : (setDupEntries xs s).vehicle = s.vehicle := rfl
@[simp] theorem setDupEntries_pos (xs : List DupEntry) (s : State) : (setDupEntries xs s).pos = s.pos := rfl
@[simp] theorem setDupEntries_truckWalk (xs : List DupEntry) (s : State) : (setDupEntries xs s).truckWalk = s.truckWalk := rfl
@[simp] theorem setDupEntries_trailerWalk (xs : List DupEntry) (s : State) : (setDupEntries xs s).trailerWalk = s.trailerWalk := rfl
@[simp] theorem setDupEntries_chan (xs : List DupEntry) (s : State) : (setDupEntries xs s).chan = s.chan := rfl
@[simp] theorem setDupEntries_tx (xs : List DupEntry) (s : State) : (setDupEntries xs s).tx = s.tx := rfl
@[simp] theorem setDupEntries_mgmt (xs : List DupEntry) (s : State) : (setDupEntries xs s).mgmt = s.mgmt := rfl
@[simp] theorem setDupEntries_store (xs : List DupEntry) (s : State) : (setDupEntries xs s).store = s.store := rfl
@[simp] theorem setDupEntries_pending (xs : List DupEntry) (s : State) : (setDupEntries xs s).pending = s.pending := rfl

/-! ### dropStranger -/

@[simp] theorem dropStranger_time (sid : SensorId) (s : State) : (dropStranger sid s).time = s.time := rfl
@[simp] theorem dropStranger_content (sid : SensorId) (s : State) : (dropStranger sid s).content = s.content := rfl
@[simp] theorem dropStranger_frontPort (sid : SensorId) (s : State) : (dropStranger sid s).frontPort = s.frontPort := rfl
@[simp] theorem dropStranger_rearPort (sid : SensorId) (s : State) : (dropStranger sid s).rearPort = s.rearPort := rfl
@[simp] theorem dropStranger_dup (sid : SensorId) (s : State) : (dropStranger sid s).dup = s.dup := rfl
@[simp] theorem dropStranger_table (sid : SensorId) (s : State) : (dropStranger sid s).table = s.table := rfl
@[simp] theorem dropStranger_vehicle (sid : SensorId) (s : State) : (dropStranger sid s).vehicle = s.vehicle := rfl
@[simp] theorem dropStranger_pos (sid : SensorId) (s : State) : (dropStranger sid s).pos = s.pos := rfl
@[simp] theorem dropStranger_truckWalk (sid : SensorId) (s : State) : (dropStranger sid s).truckWalk = s.truckWalk := rfl
@[simp] theorem dropStranger_trailerWalk (sid : SensorId) (s : State) : (dropStranger sid s).trailerWalk = s.trailerWalk := rfl
@[simp] theorem dropStranger_chan (sid : SensorId) (s : State) : (dropStranger sid s).chan = s.chan := rfl
@[simp] theorem dropStranger_tx (sid : SensorId) (s : State) : (dropStranger sid s).tx = s.tx := rfl
@[simp] theorem dropStranger_mgmt (sid : SensorId) (s : State) : (dropStranger sid s).mgmt = s.mgmt := rfl
@[simp] theorem dropStranger_store (sid : SensorId) (s : State) : (dropStranger sid s).store = s.store := rfl
@[simp] theorem dropStranger_pending (sid : SensorId) (s : State) : (dropStranger sid s).pending = s.pending := rfl

/-! ### markChanged -/

@[simp] theorem markChanged_time (s : State) : (markChanged s).time = s.time := rfl
@[simp] theorem markChanged_content (s : State) : (markChanged s).content = s.content := rfl
@[simp] theorem markChanged_frontPort (s : State) : (markChanged s).frontPort = s.frontPort := rfl
@[simp] theorem markChanged_rearPort (s : State) : (markChanged s).rearPort = s.rearPort := rfl
@[simp] theorem markChanged_dup (s : State) : (markChanged s).dup = s.dup := rfl
@[simp] theorem markChanged_table (s : State) : (markChanged s).table = s.table := rfl
@[simp] theorem markChanged_strangers (s : State) : (markChanged s).strangers = s.strangers := rfl
@[simp] theorem markChanged_vehicle (s : State) : (markChanged s).vehicle = s.vehicle := rfl
@[simp] theorem markChanged_pos (s : State) : (markChanged s).pos = s.pos := rfl
@[simp] theorem markChanged_truckWalk (s : State) : (markChanged s).truckWalk = s.truckWalk := rfl
@[simp] theorem markChanged_trailerWalk (s : State) : (markChanged s).trailerWalk = s.trailerWalk := rfl
@[simp] theorem markChanged_chan (s : State) : (markChanged s).chan = s.chan := rfl
@[simp] theorem markChanged_tx (s : State) : (markChanged s).tx = s.tx := rfl
@[simp] theorem markChanged_mgmt (s : State) : (markChanged s).mgmt = s.mgmt := rfl
@[simp] theorem markChanged_pending (s : State) : (markChanged s).pending = s.pending := rfl

/-! ### writeEntry -/

@[simp] theorem writeEntry_time (e : EntryNo) (new : Entry) (s : State) : (writeEntry e new s).time = s.time := rfl
@[simp] theorem writeEntry_frontPort (e : EntryNo) (new : Entry) (s : State) : (writeEntry e new s).frontPort = s.frontPort := rfl
@[simp] theorem writeEntry_rearPort (e : EntryNo) (new : Entry) (s : State) : (writeEntry e new s).rearPort = s.rearPort := rfl
@[simp] theorem writeEntry_dup (e : EntryNo) (new : Entry) (s : State) : (writeEntry e new s).dup = s.dup := rfl
@[simp] theorem writeEntry_strangers (e : EntryNo) (new : Entry) (s : State) : (writeEntry e new s).strangers = s.strangers := rfl
@[simp] theorem writeEntry_vehicle (e : EntryNo) (new : Entry) (s : State) : (writeEntry e new s).vehicle = s.vehicle := rfl
@[simp] theorem writeEntry_pos (e : EntryNo) (new : Entry) (s : State) : (writeEntry e new s).pos = s.pos := rfl
@[simp] theorem writeEntry_truckWalk (e : EntryNo) (new : Entry) (s : State) : (writeEntry e new s).truckWalk = s.truckWalk := rfl
@[simp] theorem writeEntry_trailerWalk (e : EntryNo) (new : Entry) (s : State) : (writeEntry e new s).trailerWalk = s.trailerWalk := rfl
@[simp] theorem writeEntry_chan (e : EntryNo) (new : Entry) (s : State) : (writeEntry e new s).chan = s.chan := rfl
@[simp] theorem writeEntry_tx (e : EntryNo) (new : Entry) (s : State) : (writeEntry e new s).tx = s.tx := rfl
@[simp] theorem writeEntry_mgmt (e : EntryNo) (new : Entry) (s : State) : (writeEntry e new s).mgmt = s.mgmt := rfl
@[simp] theorem writeEntry_pending (e : EntryNo) (new : Entry) (s : State) : (writeEntry e new s).pending = s.pending := rfl

/-! ### freeEntry -/

@[simp] theorem freeEntry_time (e : EntryNo) (s : State) : (freeEntry e s).time = s.time := rfl
@[simp] theorem freeEntry_frontPort (e : EntryNo) (s : State) : (freeEntry e s).frontPort = s.frontPort := rfl
@[simp] theorem freeEntry_rearPort (e : EntryNo) (s : State) : (freeEntry e s).rearPort = s.rearPort := rfl
@[simp] theorem freeEntry_dup (e : EntryNo) (s : State) : (freeEntry e s).dup = s.dup := rfl
@[simp] theorem freeEntry_strangers (e : EntryNo) (s : State) : (freeEntry e s).strangers = s.strangers := rfl
@[simp] theorem freeEntry_vehicle (e : EntryNo) (s : State) : (freeEntry e s).vehicle = s.vehicle := rfl
@[simp] theorem freeEntry_pos (e : EntryNo) (s : State) : (freeEntry e s).pos = s.pos := rfl
@[simp] theorem freeEntry_truckWalk (e : EntryNo) (s : State) : (freeEntry e s).truckWalk = s.truckWalk := rfl
@[simp] theorem freeEntry_trailerWalk (e : EntryNo) (s : State) : (freeEntry e s).trailerWalk = s.trailerWalk := rfl
@[simp] theorem freeEntry_chan (e : EntryNo) (s : State) : (freeEntry e s).chan = s.chan := rfl
@[simp] theorem freeEntry_tx (e : EntryNo) (s : State) : (freeEntry e s).tx = s.tx := rfl
@[simp] theorem freeEntry_mgmt (e : EntryNo) (s : State) : (freeEntry e s).mgmt = s.mgmt := rfl
@[simp] theorem freeEntry_pending (e : EntryNo) (s : State) : (freeEntry e s).pending = s.pending := rfl

/-! ### placeService -/

@[simp] theorem placeService_time (body : Body) (s : State) : (placeService body s).time = s.time := rfl
@[simp] theorem placeService_content (body : Body) (s : State) : (placeService body s).content = s.content := rfl
@[simp] theorem placeService_frontPort (body : Body) (s : State) : (placeService body s).frontPort = s.frontPort := rfl
@[simp] theorem placeService_rearPort (body : Body) (s : State) : (placeService body s).rearPort = s.rearPort := rfl
@[simp] theorem placeService_dup (body : Body) (s : State) : (placeService body s).dup = s.dup := rfl
@[simp] theorem placeService_table (body : Body) (s : State) : (placeService body s).table = s.table := rfl
@[simp] theorem placeService_strangers (body : Body) (s : State) : (placeService body s).strangers = s.strangers := rfl
@[simp] theorem placeService_vehicle (body : Body) (s : State) : (placeService body s).vehicle = s.vehicle := rfl
@[simp] theorem placeService_pos (body : Body) (s : State) : (placeService body s).pos = s.pos := rfl
@[simp] theorem placeService_truckWalk (body : Body) (s : State) : (placeService body s).truckWalk = s.truckWalk := rfl
@[simp] theorem placeService_trailerWalk (body : Body) (s : State) : (placeService body s).trailerWalk = s.trailerWalk := rfl
@[simp] theorem placeService_chan (body : Body) (s : State) : (placeService body s).chan = s.chan := rfl
@[simp] theorem placeService_mgmt (body : Body) (s : State) : (placeService body s).mgmt = s.mgmt := rfl
@[simp] theorem placeService_store (body : Body) (s : State) : (placeService body s).store = s.store := rfl
@[simp] theorem placeService_pending (body : Body) (s : State) : (placeService body s).pending = s.pending := rfl

/-! ### placeReport -/

@[simp] theorem placeReport_time (body : Body) (s : State) : (placeReport body s).time = s.time := rfl
@[simp] theorem placeReport_content (body : Body) (s : State) : (placeReport body s).content = s.content := rfl
@[simp] theorem placeReport_frontPort (body : Body) (s : State) : (placeReport body s).frontPort = s.frontPort := rfl
@[simp] theorem placeReport_rearPort (body : Body) (s : State) : (placeReport body s).rearPort = s.rearPort := rfl
@[simp] theorem placeReport_dup (body : Body) (s : State) : (placeReport body s).dup = s.dup := rfl
@[simp] theorem placeReport_table (body : Body) (s : State) : (placeReport body s).table = s.table := rfl
@[simp] theorem placeReport_strangers (body : Body) (s : State) : (placeReport body s).strangers = s.strangers := rfl
@[simp] theorem placeReport_vehicle (body : Body) (s : State) : (placeReport body s).vehicle = s.vehicle := rfl
@[simp] theorem placeReport_pos (body : Body) (s : State) : (placeReport body s).pos = s.pos := rfl
@[simp] theorem placeReport_truckWalk (body : Body) (s : State) : (placeReport body s).truckWalk = s.truckWalk := rfl
@[simp] theorem placeReport_trailerWalk (body : Body) (s : State) : (placeReport body s).trailerWalk = s.trailerWalk := rfl
@[simp] theorem placeReport_chan (body : Body) (s : State) : (placeReport body s).chan = s.chan := rfl
@[simp] theorem placeReport_mgmt (body : Body) (s : State) : (placeReport body s).mgmt = s.mgmt := rfl
@[simp] theorem placeReport_store (body : Body) (s : State) : (placeReport body s).store = s.store := rfl
@[simp] theorem placeReport_pending (body : Body) (s : State) : (placeReport body s).pending = s.pending := rfl

/-! ### reply -/

@[simp] theorem reply_time (kind : Byte) (st : Status) (s : State) : (reply kind st s).time = s.time := rfl
@[simp] theorem reply_content (kind : Byte) (st : Status) (s : State) : (reply kind st s).content = s.content := rfl
@[simp] theorem reply_frontPort (kind : Byte) (st : Status) (s : State) : (reply kind st s).frontPort = s.frontPort := rfl
@[simp] theorem reply_rearPort (kind : Byte) (st : Status) (s : State) : (reply kind st s).rearPort = s.rearPort := rfl
@[simp] theorem reply_dup (kind : Byte) (st : Status) (s : State) : (reply kind st s).dup = s.dup := rfl
@[simp] theorem reply_table (kind : Byte) (st : Status) (s : State) : (reply kind st s).table = s.table := rfl
@[simp] theorem reply_strangers (kind : Byte) (st : Status) (s : State) : (reply kind st s).strangers = s.strangers := rfl
@[simp] theorem reply_vehicle (kind : Byte) (st : Status) (s : State) : (reply kind st s).vehicle = s.vehicle := rfl
@[simp] theorem reply_pos (kind : Byte) (st : Status) (s : State) : (reply kind st s).pos = s.pos := rfl
@[simp] theorem reply_truckWalk (kind : Byte) (st : Status) (s : State) : (reply kind st s).truckWalk = s.truckWalk := rfl
@[simp] theorem reply_trailerWalk (kind : Byte) (st : Status) (s : State) : (reply kind st s).trailerWalk = s.trailerWalk := rfl
@[simp] theorem reply_chan (kind : Byte) (st : Status) (s : State) : (reply kind st s).chan = s.chan := rfl
@[simp] theorem reply_mgmt (kind : Byte) (st : Status) (s : State) : (reply kind st s).mgmt = s.mgmt := rfl
@[simp] theorem reply_store (kind : Byte) (st : Status) (s : State) : (reply kind st s).store = s.store := rfl
@[simp] theorem reply_pending (kind : Byte) (st : Status) (s : State) : (reply kind st s).pending = s.pending := rfl

/-! ### replyAwaited -/

@[simp] theorem replyAwaited_time (kind : Byte) (a : Await) (s : State) : (replyAwaited kind a s).time = s.time := rfl
@[simp] theorem replyAwaited_content (kind : Byte) (a : Await) (s : State) : (replyAwaited kind a s).content = s.content := rfl
@[simp] theorem replyAwaited_frontPort (kind : Byte) (a : Await) (s : State) : (replyAwaited kind a s).frontPort = s.frontPort := rfl
@[simp] theorem replyAwaited_rearPort (kind : Byte) (a : Await) (s : State) : (replyAwaited kind a s).rearPort = s.rearPort := rfl
@[simp] theorem replyAwaited_dup (kind : Byte) (a : Await) (s : State) : (replyAwaited kind a s).dup = s.dup := rfl
@[simp] theorem replyAwaited_table (kind : Byte) (a : Await) (s : State) : (replyAwaited kind a s).table = s.table := rfl
@[simp] theorem replyAwaited_strangers (kind : Byte) (a : Await) (s : State) : (replyAwaited kind a s).strangers = s.strangers := rfl
@[simp] theorem replyAwaited_vehicle (kind : Byte) (a : Await) (s : State) : (replyAwaited kind a s).vehicle = s.vehicle := rfl
@[simp] theorem replyAwaited_pos (kind : Byte) (a : Await) (s : State) : (replyAwaited kind a s).pos = s.pos := rfl
@[simp] theorem replyAwaited_truckWalk (kind : Byte) (a : Await) (s : State) : (replyAwaited kind a s).truckWalk = s.truckWalk := rfl
@[simp] theorem replyAwaited_trailerWalk (kind : Byte) (a : Await) (s : State) : (replyAwaited kind a s).trailerWalk = s.trailerWalk := rfl
@[simp] theorem replyAwaited_chan (kind : Byte) (a : Await) (s : State) : (replyAwaited kind a s).chan = s.chan := rfl
@[simp] theorem replyAwaited_mgmt (kind : Byte) (a : Await) (s : State) : (replyAwaited kind a s).mgmt = s.mgmt := rfl
@[simp] theorem replyAwaited_store (kind : Byte) (a : Await) (s : State) : (replyAwaited kind a s).store = s.store := rfl
@[simp] theorem replyAwaited_pending (kind : Byte) (a : Await) (s : State) : (replyAwaited kind a s).pending = s.pending := rfl

/-! ### setFrames -/

@[simp] theorem setFrames_time (fs : List Frame) (s : State) : (setFrames fs s).time = s.time := rfl
@[simp] theorem setFrames_content (fs : List Frame) (s : State) : (setFrames fs s).content = s.content := rfl
@[simp] theorem setFrames_frontPort (fs : List Frame) (s : State) : (setFrames fs s).frontPort = s.frontPort := rfl
@[simp] theorem setFrames_rearPort (fs : List Frame) (s : State) : (setFrames fs s).rearPort = s.rearPort := rfl
@[simp] theorem setFrames_dup (fs : List Frame) (s : State) : (setFrames fs s).dup = s.dup := rfl
@[simp] theorem setFrames_table (fs : List Frame) (s : State) : (setFrames fs s).table = s.table := rfl
@[simp] theorem setFrames_strangers (fs : List Frame) (s : State) : (setFrames fs s).strangers = s.strangers := rfl
@[simp] theorem setFrames_vehicle (fs : List Frame) (s : State) : (setFrames fs s).vehicle = s.vehicle := rfl
@[simp] theorem setFrames_pos (fs : List Frame) (s : State) : (setFrames fs s).pos = s.pos := rfl
@[simp] theorem setFrames_truckWalk (fs : List Frame) (s : State) : (setFrames fs s).truckWalk = s.truckWalk := rfl
@[simp] theorem setFrames_trailerWalk (fs : List Frame) (s : State) : (setFrames fs s).trailerWalk = s.trailerWalk := rfl
@[simp] theorem setFrames_chan (fs : List Frame) (s : State) : (setFrames fs s).chan = s.chan := rfl
@[simp] theorem setFrames_mgmt (fs : List Frame) (s : State) : (setFrames fs s).mgmt = s.mgmt := rfl
@[simp] theorem setFrames_store (fs : List Frame) (s : State) : (setFrames fs s).store = s.store := rfl
@[simp] theorem setFrames_pending (fs : List Frame) (s : State) : (setFrames fs s).pending = s.pending := rfl

/-! ### enterBusOff -/

@[simp] theorem enterBusOff_time (s : State) : (enterBusOff s).time = s.time := rfl
@[simp] theorem enterBusOff_content (s : State) : (enterBusOff s).content = s.content := rfl
@[simp] theorem enterBusOff_frontPort (s : State) : (enterBusOff s).frontPort = s.frontPort := rfl
@[simp] theorem enterBusOff_rearPort (s : State) : (enterBusOff s).rearPort = s.rearPort := rfl
@[simp] theorem enterBusOff_dup (s : State) : (enterBusOff s).dup = s.dup := rfl
@[simp] theorem enterBusOff_table (s : State) : (enterBusOff s).table = s.table := rfl
@[simp] theorem enterBusOff_strangers (s : State) : (enterBusOff s).strangers = s.strangers := rfl
@[simp] theorem enterBusOff_vehicle (s : State) : (enterBusOff s).vehicle = s.vehicle := rfl
@[simp] theorem enterBusOff_pos (s : State) : (enterBusOff s).pos = s.pos := rfl
@[simp] theorem enterBusOff_truckWalk (s : State) : (enterBusOff s).truckWalk = s.truckWalk := rfl
@[simp] theorem enterBusOff_trailerWalk (s : State) : (enterBusOff s).trailerWalk = s.trailerWalk := rfl
@[simp] theorem enterBusOff_chan (s : State) : (enterBusOff s).chan = s.chan := rfl
@[simp] theorem enterBusOff_mgmt (s : State) : (enterBusOff s).mgmt = s.mgmt := rfl
@[simp] theorem enterBusOff_store (s : State) : (enterBusOff s).store = s.store := rfl
@[simp] theorem enterBusOff_pending (s : State) : (enterBusOff s).pending = s.pending := rfl

/-! ### forgetNode -/

@[simp] theorem forgetNode_time (s : State) : (forgetNode s).time = s.time := rfl
@[simp] theorem forgetNode_content (s : State) : (forgetNode s).content = s.content := rfl
@[simp] theorem forgetNode_frontPort (s : State) : (forgetNode s).frontPort = s.frontPort := rfl
@[simp] theorem forgetNode_rearPort (s : State) : (forgetNode s).rearPort = s.rearPort := rfl
@[simp] theorem forgetNode_dup (s : State) : (forgetNode s).dup = s.dup := rfl
@[simp] theorem forgetNode_table (s : State) : (forgetNode s).table = s.table := rfl
@[simp] theorem forgetNode_strangers (s : State) : (forgetNode s).strangers = s.strangers := rfl
@[simp] theorem forgetNode_vehicle (s : State) : (forgetNode s).vehicle = s.vehicle := rfl
@[simp] theorem forgetNode_pos (s : State) : (forgetNode s).pos = s.pos := rfl
@[simp] theorem forgetNode_truckWalk (s : State) : (forgetNode s).truckWalk = s.truckWalk := rfl
@[simp] theorem forgetNode_trailerWalk (s : State) : (forgetNode s).trailerWalk = s.trailerWalk := rfl
@[simp] theorem forgetNode_chan (s : State) : (forgetNode s).chan = s.chan := rfl
@[simp] theorem forgetNode_mgmt (s : State) : (forgetNode s).mgmt = s.mgmt := rfl
@[simp] theorem forgetNode_store (s : State) : (forgetNode s).store = s.store := rfl
@[simp] theorem forgetNode_pending (s : State) : (forgetNode s).pending = s.pending := rfl

/-! ### putGeometry -/

@[simp] theorem putGeometry_time (p : Pos) (g : Geometry) (s : State) : (putGeometry p g s).time = s.time := rfl
@[simp] theorem putGeometry_frontPort (p : Pos) (g : Geometry) (s : State) : (putGeometry p g s).frontPort = s.frontPort := rfl
@[simp] theorem putGeometry_rearPort (p : Pos) (g : Geometry) (s : State) : (putGeometry p g s).rearPort = s.rearPort := rfl
@[simp] theorem putGeometry_dup (p : Pos) (g : Geometry) (s : State) : (putGeometry p g s).dup = s.dup := rfl
@[simp] theorem putGeometry_table (p : Pos) (g : Geometry) (s : State) : (putGeometry p g s).table = s.table := rfl
@[simp] theorem putGeometry_strangers (p : Pos) (g : Geometry) (s : State) : (putGeometry p g s).strangers = s.strangers := rfl
@[simp] theorem putGeometry_vehicle (p : Pos) (g : Geometry) (s : State) : (putGeometry p g s).vehicle = s.vehicle := rfl
@[simp] theorem putGeometry_pos (p : Pos) (g : Geometry) (s : State) : (putGeometry p g s).pos = s.pos := rfl
@[simp] theorem putGeometry_truckWalk (p : Pos) (g : Geometry) (s : State) : (putGeometry p g s).truckWalk = s.truckWalk := rfl
@[simp] theorem putGeometry_trailerWalk (p : Pos) (g : Geometry) (s : State) : (putGeometry p g s).trailerWalk = s.trailerWalk := rfl
@[simp] theorem putGeometry_chan (p : Pos) (g : Geometry) (s : State) : (putGeometry p g s).chan = s.chan := rfl
@[simp] theorem putGeometry_tx (p : Pos) (g : Geometry) (s : State) : (putGeometry p g s).tx = s.tx := rfl
@[simp] theorem putGeometry_mgmt (p : Pos) (g : Geometry) (s : State) : (putGeometry p g s).mgmt = s.mgmt := rfl
@[simp] theorem putGeometry_store (p : Pos) (g : Geometry) (s : State) : (putGeometry p g s).store = s.store := rfl
@[simp] theorem putGeometry_pending (p : Pos) (g : Geometry) (s : State) : (putGeometry p g s).pending = s.pending := rfl

/-! ### putAxle -/

@[simp] theorem putAxle_time (a : AxleNo) (x : AxleRec) (s : State) : (putAxle a x s).time = s.time := rfl
@[simp] theorem putAxle_frontPort (a : AxleNo) (x : AxleRec) (s : State) : (putAxle a x s).frontPort = s.frontPort := rfl
@[simp] theorem putAxle_rearPort (a : AxleNo) (x : AxleRec) (s : State) : (putAxle a x s).rearPort = s.rearPort := rfl
@[simp] theorem putAxle_dup (a : AxleNo) (x : AxleRec) (s : State) : (putAxle a x s).dup = s.dup := rfl
@[simp] theorem putAxle_table (a : AxleNo) (x : AxleRec) (s : State) : (putAxle a x s).table = s.table := rfl
@[simp] theorem putAxle_strangers (a : AxleNo) (x : AxleRec) (s : State) : (putAxle a x s).strangers = s.strangers := rfl
@[simp] theorem putAxle_vehicle (a : AxleNo) (x : AxleRec) (s : State) : (putAxle a x s).vehicle = s.vehicle := rfl
@[simp] theorem putAxle_pos (a : AxleNo) (x : AxleRec) (s : State) : (putAxle a x s).pos = s.pos := rfl
@[simp] theorem putAxle_truckWalk (a : AxleNo) (x : AxleRec) (s : State) : (putAxle a x s).truckWalk = s.truckWalk := rfl
@[simp] theorem putAxle_trailerWalk (a : AxleNo) (x : AxleRec) (s : State) : (putAxle a x s).trailerWalk = s.trailerWalk := rfl
@[simp] theorem putAxle_chan (a : AxleNo) (x : AxleRec) (s : State) : (putAxle a x s).chan = s.chan := rfl
@[simp] theorem putAxle_tx (a : AxleNo) (x : AxleRec) (s : State) : (putAxle a x s).tx = s.tx := rfl
@[simp] theorem putAxle_mgmt (a : AxleNo) (x : AxleRec) (s : State) : (putAxle a x s).mgmt = s.mgmt := rfl
@[simp] theorem putAxle_store (a : AxleNo) (x : AxleRec) (s : State) : (putAxle a x s).store = s.store := rfl
@[simp] theorem putAxle_pending (a : AxleNo) (x : AxleRec) (s : State) : (putAxle a x s).pending = s.pending := rfl

/-! ### modSettings -/

@[simp] theorem modSettings_time (f : Settings → Settings) (s : State) : (modSettings f s).time = s.time := rfl
@[simp] theorem modSettings_frontPort (f : Settings → Settings) (s : State) : (modSettings f s).frontPort = s.frontPort := rfl
@[simp] theorem modSettings_rearPort (f : Settings → Settings) (s : State) : (modSettings f s).rearPort = s.rearPort := rfl
@[simp] theorem modSettings_dup (f : Settings → Settings) (s : State) : (modSettings f s).dup = s.dup := rfl
@[simp] theorem modSettings_table (f : Settings → Settings) (s : State) : (modSettings f s).table = s.table := rfl
@[simp] theorem modSettings_strangers (f : Settings → Settings) (s : State) : (modSettings f s).strangers = s.strangers := rfl
@[simp] theorem modSettings_vehicle (f : Settings → Settings) (s : State) : (modSettings f s).vehicle = s.vehicle := rfl
@[simp] theorem modSettings_pos (f : Settings → Settings) (s : State) : (modSettings f s).pos = s.pos := rfl
@[simp] theorem modSettings_truckWalk (f : Settings → Settings) (s : State) : (modSettings f s).truckWalk = s.truckWalk := rfl
@[simp] theorem modSettings_trailerWalk (f : Settings → Settings) (s : State) : (modSettings f s).trailerWalk = s.trailerWalk := rfl
@[simp] theorem modSettings_chan (f : Settings → Settings) (s : State) : (modSettings f s).chan = s.chan := rfl
@[simp] theorem modSettings_tx (f : Settings → Settings) (s : State) : (modSettings f s).tx = s.tx := rfl
@[simp] theorem modSettings_mgmt (f : Settings → Settings) (s : State) : (modSettings f s).mgmt = s.mgmt := rfl
@[simp] theorem modSettings_pending (f : Settings → Settings) (s : State) : (modSettings f s).pending = s.pending := rfl

/-! ### modConfig -/

@[simp] theorem modConfig_time (c : ChanNo) (f : ChanConfig → ChanConfig) (s : State) : (modConfig c f s).time = s.time := rfl
@[simp] theorem modConfig_frontPort (c : ChanNo) (f : ChanConfig → ChanConfig) (s : State) : (modConfig c f s).frontPort = s.frontPort := rfl
@[simp] theorem modConfig_rearPort (c : ChanNo) (f : ChanConfig → ChanConfig) (s : State) : (modConfig c f s).rearPort = s.rearPort := rfl
@[simp] theorem modConfig_dup (c : ChanNo) (f : ChanConfig → ChanConfig) (s : State) : (modConfig c f s).dup = s.dup := rfl
@[simp] theorem modConfig_table (c : ChanNo) (f : ChanConfig → ChanConfig) (s : State) : (modConfig c f s).table = s.table := rfl
@[simp] theorem modConfig_strangers (c : ChanNo) (f : ChanConfig → ChanConfig) (s : State) : (modConfig c f s).strangers = s.strangers := rfl
@[simp] theorem modConfig_vehicle (c : ChanNo) (f : ChanConfig → ChanConfig) (s : State) : (modConfig c f s).vehicle = s.vehicle := rfl
@[simp] theorem modConfig_pos (c : ChanNo) (f : ChanConfig → ChanConfig) (s : State) : (modConfig c f s).pos = s.pos := rfl
@[simp] theorem modConfig_truckWalk (c : ChanNo) (f : ChanConfig → ChanConfig) (s : State) : (modConfig c f s).truckWalk = s.truckWalk := rfl
@[simp] theorem modConfig_trailerWalk (c : ChanNo) (f : ChanConfig → ChanConfig) (s : State) : (modConfig c f s).trailerWalk = s.trailerWalk := rfl
@[simp] theorem modConfig_chan (c : ChanNo) (f : ChanConfig → ChanConfig) (s : State) : (modConfig c f s).chan = s.chan := rfl
@[simp] theorem modConfig_tx (c : ChanNo) (f : ChanConfig → ChanConfig) (s : State) : (modConfig c f s).tx = s.tx := rfl
@[simp] theorem modConfig_mgmt (c : ChanNo) (f : ChanConfig → ChanConfig) (s : State) : (modConfig c f s).mgmt = s.mgmt := rfl
@[simp] theorem modConfig_pending (c : ChanNo) (f : ChanConfig → ChanConfig) (s : State) : (modConfig c f s).pending = s.pending := rfl

/-! ### beginStore -/

@[simp] theorem beginStore_time (s : State) : (beginStore s).time = s.time := rfl
@[simp] theorem beginStore_content (s : State) : (beginStore s).content = s.content := rfl
@[simp] theorem beginStore_frontPort (s : State) : (beginStore s).frontPort = s.frontPort := rfl
@[simp] theorem beginStore_rearPort (s : State) : (beginStore s).rearPort = s.rearPort := rfl
@[simp] theorem beginStore_dup (s : State) : (beginStore s).dup = s.dup := rfl
@[simp] theorem beginStore_table (s : State) : (beginStore s).table = s.table := rfl
@[simp] theorem beginStore_strangers (s : State) : (beginStore s).strangers = s.strangers := rfl
@[simp] theorem beginStore_vehicle (s : State) : (beginStore s).vehicle = s.vehicle := rfl
@[simp] theorem beginStore_pos (s : State) : (beginStore s).pos = s.pos := rfl
@[simp] theorem beginStore_truckWalk (s : State) : (beginStore s).truckWalk = s.truckWalk := rfl
@[simp] theorem beginStore_trailerWalk (s : State) : (beginStore s).trailerWalk = s.trailerWalk := rfl
@[simp] theorem beginStore_chan (s : State) : (beginStore s).chan = s.chan := rfl
@[simp] theorem beginStore_tx (s : State) : (beginStore s).tx = s.tx := rfl
@[simp] theorem beginStore_mgmt (s : State) : (beginStore s).mgmt = s.mgmt := rfl
@[simp] theorem beginStore_pending (s : State) : (beginStore s).pending = s.pending := rfl

/-! ### stopSilence -/

@[simp] theorem stopSilence_time (old s : State) : (stopSilence old s).time = s.time := by simp only [stopSilence]
@[simp] theorem stopSilence_content (old s : State) : (stopSilence old s).content = s.content := by simp only [stopSilence]
@[simp] theorem stopSilence_frontPort (old s : State) : (stopSilence old s).frontPort = s.frontPort := by simp only [stopSilence]
@[simp] theorem stopSilence_rearPort (old s : State) : (stopSilence old s).rearPort = s.rearPort := by simp only [stopSilence]
@[simp] theorem stopSilence_dup (old s : State) : (stopSilence old s).dup = s.dup := by simp only [stopSilence]
@[simp] theorem stopSilence_table (old s : State) : (stopSilence old s).table = s.table := by simp only [stopSilence]
@[simp] theorem stopSilence_strangers (old s : State) : (stopSilence old s).strangers = s.strangers := by simp only [stopSilence]
@[simp] theorem stopSilence_vehicle (old s : State) : (stopSilence old s).vehicle = s.vehicle := by simp only [stopSilence]
@[simp] theorem stopSilence_truckWalk (old s : State) : (stopSilence old s).truckWalk = s.truckWalk := by simp only [stopSilence]
@[simp] theorem stopSilence_trailerWalk (old s : State) : (stopSilence old s).trailerWalk = s.trailerWalk := by simp only [stopSilence]
@[simp] theorem stopSilence_chan (old s : State) : (stopSilence old s).chan = s.chan := by simp only [stopSilence]
@[simp] theorem stopSilence_tx (old s : State) : (stopSilence old s).tx = s.tx := by simp only [stopSilence]
@[simp] theorem stopSilence_mgmt (old s : State) : (stopSilence old s).mgmt = s.mgmt := by simp only [stopSilence]
@[simp] theorem stopSilence_store (old s : State) : (stopSilence old s).store = s.store := by simp only [stopSilence]
@[simp] theorem stopSilence_pending (old s : State) : (stopSilence old s).pending = s.pending := by simp only [stopSilence]

/-- All that a stop of the counting leaves of a record: the record, but for the silence of a position that the stop keeps
from the expiry it has reached (R64). -/
theorem stopSilence_posRec (old s : State) (p : Pos) : posRec (stopSilence old s) p = stoppedRec old s p := by
  simp [stopSilence, posRec, pick]

/-! ### tick -/

@[simp] theorem tick_content (s : State) : (tick s).content = s.content := rfl
@[simp] theorem tick_frontPort (s : State) : (tick s).frontPort = s.frontPort := rfl
@[simp] theorem tick_rearPort (s : State) : (tick s).rearPort = s.rearPort := rfl
@[simp] theorem tick_dup (s : State) : (tick s).dup = s.dup := rfl
@[simp] theorem tick_table (s : State) : (tick s).table = s.table := rfl
@[simp] theorem tick_strangers (s : State) : (tick s).strangers = s.strangers := rfl
@[simp] theorem tick_vehicle (s : State) : (tick s).vehicle = s.vehicle := rfl
@[simp] theorem tick_truckWalk (s : State) : (tick s).truckWalk = s.truckWalk := rfl
@[simp] theorem tick_trailerWalk (s : State) : (tick s).trailerWalk = s.trailerWalk := rfl
@[simp] theorem tick_chan (s : State) : (tick s).chan = s.chan := rfl
@[simp] theorem tick_tx (s : State) : (tick s).tx = s.tx := rfl
@[simp] theorem tick_mgmt (s : State) : (tick s).mgmt = s.mgmt := rfl
@[simp] theorem tick_store (s : State) : (tick s).store = s.store := rfl
@[simp] theorem tick_pending (s : State) : (tick s).pending = s.pending := rfl

/-! ### completeStore -/

@[simp] theorem completeStore_time (job : StoreJob) (r : ReadBack) (s : State) :
    (completeStore job r s).time = s.time := by cases r <;> rfl
@[simp] theorem completeStore_content (job : StoreJob) (r : ReadBack) (s : State) :
    (completeStore job r s).content = s.content := by cases r <;> rfl
@[simp] theorem completeStore_frontPort (job : StoreJob) (r : ReadBack) (s : State) :
    (completeStore job r s).frontPort = s.frontPort := by cases r <;> rfl
@[simp] theorem completeStore_rearPort (job : StoreJob) (r : ReadBack) (s : State) :
    (completeStore job r s).rearPort = s.rearPort := by cases r <;> rfl
@[simp] theorem completeStore_dup (job : StoreJob) (r : ReadBack) (s : State) :
    (completeStore job r s).dup = s.dup := by cases r <;> rfl
@[simp] theorem completeStore_table (job : StoreJob) (r : ReadBack) (s : State) :
    (completeStore job r s).table = s.table := by cases r <;> rfl
@[simp] theorem completeStore_strangers (job : StoreJob) (r : ReadBack) (s : State) :
    (completeStore job r s).strangers = s.strangers := by cases r <;> rfl
@[simp] theorem completeStore_vehicle (job : StoreJob) (r : ReadBack) (s : State) :
    (completeStore job r s).vehicle = s.vehicle := by cases r <;> rfl
@[simp] theorem completeStore_pos (job : StoreJob) (r : ReadBack) (s : State) :
    (completeStore job r s).pos = s.pos := by cases r <;> rfl
@[simp] theorem completeStore_truckWalk (job : StoreJob) (r : ReadBack) (s : State) :
    (completeStore job r s).truckWalk = s.truckWalk := by cases r <;> rfl
@[simp] theorem completeStore_trailerWalk (job : StoreJob) (r : ReadBack) (s : State) :
    (completeStore job r s).trailerWalk = s.trailerWalk := by cases r <;> rfl
@[simp] theorem completeStore_chan (job : StoreJob) (r : ReadBack) (s : State) :
    (completeStore job r s).chan = s.chan := by cases r <;> rfl
@[simp] theorem completeStore_mgmt (job : StoreJob) (r : ReadBack) (s : State) :
    (completeStore job r s).mgmt = s.mgmt := by cases r <;> rfl
@[simp] theorem completeStore_pending (job : StoreJob) (r : ReadBack) (s : State) :
    (completeStore job r s).pending = s.pending := by cases r <;> rfl

/-- What a completion leaves of the image store (R172): the image is the snapshot or marked invalid, as the read-back
says, no store is in progress, and its result is known. -/
theorem completeStore_store (job : StoreJob) (r : ReadBack) (s : State) :
    (completeStore job r s).store =
      { s.store with
        image := if r = .matches then writtenImage job.snapshot else { s.store.image with markedInvalid := true }
        job := none, lastOk := some (decide (r = .matches))
        changed := s.store.changed || decide (r = .differs), readBacks := s.store.readBacks + 1 } := by
  cases r <;> simp [completeStore, placeService]

/-! ### idle -/

/-- All an idle step can do: take the events that are due, or, where none is due, let a millisecond pass. -/
theorem idle_cases (s : State) :
    (dueEvents s ≠ [] ∧ idle s = { s with pending := dueEvents s }) ∨ (dueEvents s = [] ∧ idle s = tick s) := by
  unfold idle
  cases h : dueEvents s with
  | nil => exact .inr ⟨rfl, rfl⟩
  | cons i rest => exact .inl ⟨List.cons_ne_nil i rest, rfl⟩

/-- No millisecond passes over a write that has taken its longest time (R172). -/
theorem storeDue_of_idle_tick {s : State} (h : dueEvents s = []) : storeDue s = false := by
  cases hd : storeDue s with
  | false => rfl
  | true => simp [dueEvents, whenDue, hd] at h

end Sys2Proof.Machine
end

