-- ==== Sys2Proof/Laws/Queue.lean ====
section
/-! SUPPORT. The transmit queue: what joining, evicting and offering a frame can do (R158). -/

namespace Sys2Proof.Machine

open Sys2Proof

@[simp] theorem insertFrame_length (f : Frame) (q : List Frame) : (insertFrame f q).length = q.length + 1 := by
  induction q with
  | nil => rfl
  | cons g rest ih => simp only [insertFrame]; split <;> simp [ih]

/-- A joined frame parts the queue it joins: what stood there keeps its order around it. -/
theorem insertFrame_split (f : Frame) (q : List Frame) :
    ∃ before after, q = before ++ after ∧ insertFrame f q = before ++ f :: after ∧
      (∀ g ∈ before, classRank g.cls ≤ classRank f.cls) ∧ (∀ g, after.head? = some g → classRank f.cls < classRank g.cls) := by
  induction q with
  | nil => exact ⟨[], [], rfl, rfl, by simp, by simp⟩
  | cons g rest ih =>
    simp only [insertFrame]
    split
    · next h =>
      obtain ⟨b, a, rfl, hi, hb, ha⟩ := ih
      refine ⟨g :: b, a, rfl, by rw [hi]; rfl, ?_, ha⟩
      intro x hx
      rcases List.mem_cons.mp hx with rfl | hx
      · exact h
      · exact hb x hx
    · next h => exact ⟨[], g :: rest, rfl, rfl, by simp, by simpa using Nat.lt_of_not_le h⟩

theorem mem_insertFrame {f g : Frame} {q : List Frame} : g ∈ insertFrame f q ↔ g = f ∨ g ∈ q := by
  obtain ⟨b, a, rfl, hi, -, -⟩ := insertFrame_split f q
  rw [hi]; simp only [List.mem_append, List.mem_cons]; tauto

/-- An eviction takes out one REPORT frame that is not offered. -/
theorem evictReport_some {q q' : List Frame} (h : evictReport q = some q') :
    ∃ before f after, q = before ++ f :: after ∧ q' = before ++ after ∧ f.cls = .report ∧ f.offered = none ∧
      ∀ g ∈ after, ¬(g.cls = .report ∧ g.offered = none) := by
  induction q generalizing q' with
  | nil => cases h
  | cons f rest ih =>
    simp only [evictReport] at h
    split at h
    · next r hr =>
      obtain ⟨b, x, a, rfl, rfl, hc, ho, hl⟩ := ih hr
      cases h
      exact ⟨f :: b, x, a, rfl, rfl, hc, ho, hl⟩
    · next hr =>
      split at h
      · next hf =>
        cases h
        simp only [Bool.and_eq_true, beq_iff_eq, Option.isNone_iff_eq_none] at hf
        refine ⟨[], f, rest, rfl, rfl, hf.1, hf.2, ?_⟩
        clear ih hf
        intro g hg hgr
        induction rest with
        | nil => cases hg
        | cons y ys ih2 =>
          simp only [evictReport] at hr
          split at hr
          · cases hr
          · next hys =>
            split at hr
            · cases hr
            · next hy =>
              rcases List.mem_cons.mp hg with rfl | hg
              · simp [hgr.1, hgr.2] at hy
              · exact ih2 hys hg
      · cases h

theorem evictReport_none {q : List Frame} (h : evictReport q = none) :
    ∀ g ∈ q, ¬(g.cls = .report ∧ g.offered = none) := by
  induction q with
  | nil => simp
  | cons f rest ih =>
    simp only [evictReport] at h
    split at h
    · cases h
    · next hr =>
      split at h
      · cases h
      · next hf =>
        intro g hg hgr
        rcases List.mem_cons.mp hg with rfl | hg
        · simp [hgr.1, hgr.2] at hf
        · exact ih hr g hg hgr

/-- All that offering a frame can do: it joins a queue with room, or takes the place of an evicted REPORT frame, or is
refused, counted by its class. -/
theorem offerFrame_cases (f : Frame) (tx : TxQueue) :
    (tx.frames.length < Config.queueCap ∧
      offerFrame f tx = { tx := { tx with frames := insertFrame f tx.frames }, placed := true }) ∨
    (¬tx.frames.length < Config.queueCap ∧ f.cls ≠ .report ∧ ∃ q, evictReport tx.frames = some q ∧
      offerFrame f tx =
        { tx := { tx with frames := insertFrame f q, reportEvictions := countUp tx.reportEvictions }, placed := true }) ∨
    (¬tx.frames.length < Config.queueCap ∧ (f.cls ≠ .report → evictReport tx.frames = none) ∧
      (offerFrame f tx).placed = false ∧ (offerFrame f tx).tx.frames = tx.frames ∧
      (offerFrame f tx).tx.busOff = tx.busOff) := by
  unfold offerFrame
  by_cases h : tx.frames.length < Config.queueCap
  · simp [h]
  · cases hc : f.cls <;> cases he : evictReport tx.frames <;> simp [h]

@[simp] theorem offerFrame_busOff (f : Frame) (tx : TxQueue) : (offerFrame f tx).tx.busOff = tx.busOff := by
  rcases offerFrame_cases f tx with ⟨-, h⟩ | ⟨-, -, q, -, h⟩ | ⟨-, -, -, -, h⟩ <;> simp [h]

end Sys2Proof.Machine
end

