-- ==== Sys2Proof/Laws/Reach.lean ====
section
/-! SUPPORT. How far the composed operations reach: for each the parts of the state it leaves as they are, said once by
one relation between the state before and the state after. -/

namespace Sys2Proof.Machine

open Sys2Proof

/-- Only the transmit queue and the channels may differ. -/
structure TxChan (s t : State) : Prop where
  time : t.time = s.time
  content : t.content = s.content
  frontPort : t.frontPort = s.frontPort
  rearPort : t.rearPort = s.rearPort
  dup : t.dup = s.dup
  table : t.table = s.table
  strangers : t.strangers = s.strangers
  vehicle : t.vehicle = s.vehicle
  pos : t.pos = s.pos
  truckWalk : t.truckWalk = s.truckWalk
  trailerWalk : t.trailerWalk = s.trailerWalk
  mgmt : t.mgmt = s.mgmt
  store : t.store = s.store
  pending : t.pending = s.pending

theorem TxChan.refl (s : State) : TxChan s s := by constructor <;> rfl

theorem TxChan.trans {s t u : State} (h : TxChan s t) (k : TxChan t u) : TxChan s u :=
  ⟨k.time.trans h.time, k.content.trans h.content, k.frontPort.trans h.frontPort, k.rearPort.trans h.rearPort,
   k.dup.trans h.dup, k.table.trans h.table, k.strangers.trans h.strangers, k.vehicle.trans h.vehicle,
   k.pos.trans h.pos, k.truckWalk.trans h.truckWalk, k.trailerWalk.trans h.trailerWalk, k.mgmt.trans h.mgmt,
   k.store.trans h.store, k.pending.trans h.pending⟩

theorem TxChan.foldl {α : Type} {f : State → α → State} (h : ∀ s x, TxChan s (f s x)) (l : List α) (s : State) :
    TxChan s (l.foldl f s) := by
  induction l generalizing s with
  | nil => exact TxChan.refl s
  | cons x l ih => exact (h s x).trans (ih _)

/-- Only the positions, the transmit queue and the channels may differ. -/
structure PosTxChan (s t : State) : Prop where
  time : t.time = s.time
  content : t.content = s.content
  frontPort : t.frontPort = s.frontPort
  rearPort : t.rearPort = s.rearPort
  dup : t.dup = s.dup
  table : t.table = s.table
  strangers : t.strangers = s.strangers
  vehicle : t.vehicle = s.vehicle
  truckWalk : t.truckWalk = s.truckWalk
  trailerWalk : t.trailerWalk = s.trailerWalk
  mgmt : t.mgmt = s.mgmt
  store : t.store = s.store
  pending : t.pending = s.pending

theorem PosTxChan.refl (s : State) : PosTxChan s s := by constructor <;> rfl

theorem PosTxChan.trans {s t u : State} (h : PosTxChan s t) (k : PosTxChan t u) : PosTxChan s u :=
  ⟨k.time.trans h.time, k.content.trans h.content, k.frontPort.trans h.frontPort, k.rearPort.trans h.rearPort,
   k.dup.trans h.dup, k.table.trans h.table, k.strangers.trans h.strangers, k.vehicle.trans h.vehicle,
   k.truckWalk.trans h.truckWalk, k.trailerWalk.trans h.trailerWalk, k.mgmt.trans h.mgmt, k.store.trans h.store,
   k.pending.trans h.pending⟩

theorem PosTxChan.foldl {α : Type} {f : State → α → State} (h : ∀ s x, PosTxChan s (f s x)) (l : List α) (s : State) :
    PosTxChan s (l.foldl f s) := by
  induction l generalizing s with
  | nil => exact PosTxChan.refl s
  | cons x l ih => exact (h s x).trans (ih _)

/-- As far as a reading reaches: the positions, the transmit queue, the channels and the summary flag. -/
structure ReadReach (s t : State) : Prop where
  time : t.time = s.time
  content : t.content = s.content
  frontPort : t.frontPort = s.frontPort
  rearPort : t.rearPort = s.rearPort
  dup : t.dup = s.dup
  table : t.table = s.table
  strangers : t.strangers = s.strangers
  vehicle : t.vehicle = s.vehicle
  truckWalk : t.truckWalk = s.truckWalk
  trailerWalk : t.trailerWalk = s.trailerWalk
  store : t.store = s.store
  pending : t.pending = s.pending
  nodeInForce : t.mgmt.nodeInForce = s.mgmt.nodeInForce
  nodePending : t.mgmt.nodePending = s.mgmt.nodePending
  restartPending : t.mgmt.restartPending = s.mgmt.restartPending

theorem ReadReach.refl (s : State) : ReadReach s s := by constructor <;> rfl

theorem ReadReach.trans {s t u : State} (h : ReadReach s t) (k : ReadReach t u) : ReadReach s u :=
  ⟨k.time.trans h.time, k.content.trans h.content, k.frontPort.trans h.frontPort, k.rearPort.trans h.rearPort,
   k.dup.trans h.dup, k.table.trans h.table, k.strangers.trans h.strangers, k.vehicle.trans h.vehicle,
   k.truckWalk.trans h.truckWalk, k.trailerWalk.trans h.trailerWalk, k.store.trans h.store, k.pending.trans h.pending,
   k.nodeInForce.trans h.nodeInForce, k.nodePending.trans h.nodePending, k.restartPending.trans h.restartPending⟩

theorem ReadReach.foldl {α : Type} {f : State → α → State} (h : ∀ s x, ReadReach s (f s x)) (l : List α) (s : State) :
    ReadReach s (l.foldl f s) := by
  induction l generalizing s with
  | nil => exact ReadReach.refl s
  | cons x l ih => exact (h s x).trans (ih _)

/-- As far as evidence reaches: a reading, the sensor entries with their acceptances and the changed flag, the
stranger list and the walk slots. -/
structure LearnReach (s t : State) : Prop where
  time : t.time = s.time
  frontPort : t.frontPort = s.frontPort
  rearPort : t.rearPort = s.rearPort
  dup : t.dup = s.dup
  vehicle : t.vehicle = s.vehicle
  pending : t.pending = s.pending
  nodeInForce : t.mgmt.nodeInForce = s.mgmt.nodeInForce
  nodePending : t.mgmt.nodePending = s.mgmt.nodePending
  restartPending : t.mgmt.restartPending = s.mgmt.restartPending
  settings : t.content.settings = s.content.settings
  geometry : t.content.geometry = s.content.geometry
  axles : t.content.axles = s.content.axles
  profiles : t.content.profiles = s.content.profiles
  channels : t.content.channels = s.content.channels
  image : t.store.image = s.store.image
  job : t.store.job = s.store.job
  lastOk : t.store.lastOk = s.store.lastOk
  configured : t.store.configured = s.store.configured
  readBacks : t.store.readBacks = s.store.readBacks
  inactiveSet : t.table.inactiveSet = s.table.inactiveSet
  lateRepeat : t.table.lateRepeat = s.table.lateRepeat
  unplaced : t.table.unplaced = s.table.unplaced

theorem LearnReach.refl (s : State) : LearnReach s s := by constructor <;> rfl

theorem LearnReach.trans {s t u : State} (h : LearnReach s t) (k : LearnReach t u) : LearnReach s u :=
  ⟨k.time.trans h.time, k.frontPort.trans h.frontPort, k.rearPort.trans h.rearPort, k.dup.trans h.dup,
   k.vehicle.trans h.vehicle, k.pending.trans h.pending, k.nodeInForce.trans h.nodeInForce, k.nodePending.trans h.nodePending,
   k.restartPending.trans h.restartPending, k.settings.trans h.settings, k.geometry.trans h.geometry, k.axles.trans h.axles,
   k.profiles.trans h.profiles, k.channels.trans h.channels, k.image.trans h.image, k.job.trans h.job,
   k.lastOk.trans h.lastOk, k.configured.trans h.configured,
   k.readBacks.trans h.readBacks, k.inactiveSet.trans h.inactiveSet, k.lateRepeat.trans h.lateRepeat,
   k.unplaced.trans h.unplaced⟩

theorem LearnReach.foldl {α : Type} {f : State → α → State} (h : ∀ s x, LearnReach s (f s x)) (l : List α) (s : State) :
    LearnReach s (l.foldl f s) := by
  induction l generalizing s with
  | nil => exact LearnReach.refl s
  | cons x l ih => exact (h s x).trans (ih _)

/-- As far as a character reaches: evidence, the ports, the duplicate list and the counts of the sensor table. -/
structure ReceptionReach (s t : State) : Prop where
  time : t.time = s.time
  vehicle : t.vehicle = s.vehicle
  pending : t.pending = s.pending
  nodeInForce : t.mgmt.nodeInForce = s.mgmt.nodeInForce
  nodePending : t.mgmt.nodePending = s.mgmt.nodePending
  restartPending : t.mgmt.restartPending = s.mgmt.restartPending
  settings : t.content.settings = s.content.settings
  geometry : t.content.geometry = s.content.geometry
  axles : t.content.axles = s.content.axles
  profiles : t.content.profiles = s.content.profiles
  channels : t.content.channels = s.content.channels
  image : t.store.image = s.store.image
  job : t.store.job = s.store.job
  lastOk : t.store.lastOk = s.store.lastOk
  configured : t.store.configured = s.store.configured
  readBacks : t.store.readBacks = s.store.readBacks

theorem ReceptionReach.refl (s : State) : ReceptionReach s s := by constructor <;> rfl

theorem ReceptionReach.trans {s t u : State} (h : ReceptionReach s t) (k : ReceptionReach t u) : ReceptionReach s u :=
  ⟨k.time.trans h.time, k.vehicle.trans h.vehicle, k.pending.trans h.pending, k.nodeInForce.trans h.nodeInForce,
   k.nodePending.trans h.nodePending, k.restartPending.trans h.restartPending, k.settings.trans h.settings, k.geometry.trans h.geometry,
   k.axles.trans h.axles, k.profiles.trans h.profiles, k.channels.trans h.channels, k.image.trans h.image,
   k.job.trans h.job, k.lastOk.trans h.lastOk, k.configured.trans h.configured,
   k.readBacks.trans h.readBacks⟩

theorem ReceptionReach.foldl {α : Type} {f : State → α → State} (h : ∀ s x, ReceptionReach s (f s x)) (l : List α) (s : State) :
    ReceptionReach s (l.foldl f s) := by
  induction l generalizing s with
  | nil => exact ReceptionReach.refl s
  | cons x l ih => exact (h s x).trans (ih _)

theorem TxChan.toPosTxChan {s t : State} (h : TxChan s t) : PosTxChan s t :=
  ⟨h.time, h.content, h.frontPort,
   h.rearPort, h.dup, h.table,
   h.strangers, h.vehicle, h.truckWalk,
   h.trailerWalk, h.mgmt, h.store,
   h.pending⟩

theorem PosTxChan.toReadReach {s t : State} (h : PosTxChan s t) : ReadReach s t :=
  ⟨h.time, h.content, h.frontPort,
   h.rearPort, h.dup, h.table,
   h.strangers, h.vehicle, h.truckWalk,
   h.trailerWalk, h.store, h.pending,
   congrArg (·.nodeInForce) h.mgmt, congrArg (·.nodePending) h.mgmt, congrArg (·.restartPending) h.mgmt⟩

theorem ReadReach.toLearnReach {s t : State} (h : ReadReach s t) : LearnReach s t :=
  ⟨h.time, h.frontPort, h.rearPort,
   h.dup, h.vehicle, h.pending,
   h.nodeInForce, h.nodePending, h.restartPending,
   congrArg (·.settings) h.content, congrArg (·.geometry) h.content, congrArg (·.axles) h.content,
   congrArg (·.profiles) h.content, congrArg (·.channels) h.content, congrArg (·.image) h.store,
   congrArg (·.job) h.store, congrArg (·.lastOk) h.store, congrArg (·.configured) h.store,
   congrArg (·.readBacks) h.store,
   congrArg (·.inactiveSet) h.table, congrArg (·.lateRepeat) h.table, congrArg (·.unplaced) h.table⟩

theorem LearnReach.toReceptionReach {s t : State} (h : LearnReach s t) : ReceptionReach s t :=
  ⟨h.time, h.vehicle, h.pending,
   h.nodeInForce, h.nodePending, h.restartPending,
   h.settings, h.geometry, h.axles,
   h.profiles, h.channels, h.image,
   h.job, h.lastOk, h.configured,
   h.readBacks⟩

/-! ## The queue and the channels -/

theorem placeService_reach (body : Body) (s : State) : TxChan s (placeService body s) := by constructor <;> rfl

theorem reply_reach (kind : Byte) (st : Status) (s : State) : TxChan s (reply kind st s) := placeService_reach _ s

theorem replyAwaited_reach (kind : Byte) (a : Await) (s : State) : TxChan s (replyAwaited kind a s) := by
  constructor <;> rfl

theorem placeAll_reach (bodies : List Body) (s : State) : TxChan s (placeAll bodies s) :=
  TxChan.foldl (fun s b => placeService_reach b s) bodies s

theorem placeReport_reach (body : Body) (s : State) : TxChan s (placeReport body s) := by constructor <;> rfl

theorem modChan_reach (c : ChanNo) (f : ChanRun → ChanRun) (s : State) : TxChan s (modChan c f s) := by
  constructor <;> rfl

theorem setFrames_reach (fs : List Frame) (s : State) : TxChan s (setFrames fs s) := by constructor <;> rfl

theorem runSlot_reach (c : ChanNo) (s : State) : TxChan s (runSlot c s) := by
  unfold runSlot
  simp only
  split
  · exact modChan_reach _ _ _
  · split
    · exact (placeReport_reach _ _).trans (modChan_reach _ _ _)
    · split
      · exact (placeReport_reach _ _).trans (modChan_reach _ _ _)
      · exact modChan_reach _ _ _

theorem startPending_reach (c : ChanNo) (s : State) : TxChan s (startPending c s) := by
  unfold startPending
  simp only
  split
  · exact modChan_reach _ _ _
  · exact TxChan.refl s

theorem runJob_reach (n : Nat) (c : ChanNo) (s : State) : TxChan s (runJob n c s) := by
  induction n generalizing s with
  | zero => exact TxChan.refl s
  | succ n ih =>
    simp only [runJob]
    split
    · exact ((runSlot_reach c s).trans (startPending_reach c _)).trans (ih _)
    · exact TxChan.refl s

theorem trigger_reach (c : ChanNo) (s : State) : TxChan s (trigger c s) := by
  unfold trigger
  simp only
  split
  · exact TxChan.refl s
  · exact TxChan.refl s
  · exact (modChan_reach _ _ _).trans (runJob_reach _ _ _)
  all_goals
    split
    · exact modChan_reach _ _ _
    · exact modChan_reach _ _ _

theorem tellChannel_reach (alerts : List Pos) (sample : Option Pos) (s : State) (c : ChanNo) :
    TxChan s (tellChannel alerts sample s c) := by
  unfold tellChannel
  simp only
  split
  · exact TxChan.foldl (fun s _ => trigger_reach c s) _ s
  · split
    · split
      · exact trigger_reach c s
      · exact TxChan.refl s
    · exact TxChan.refl s
  · exact TxChan.refl s
  · exact TxChan.refl s

theorem tellChannels_reach (alerts : List Pos) (sample : Option Pos) (s : State) :
    TxChan s (tellChannels alerts sample s) :=
  TxChan.foldl (tellChannel_reach alerts sample) _ s

theorem grantTo_reach (s : State) (c : ChanNo) : TxChan s (grantTo s c) := by
  unfold grantTo
  split
  · exact (modChan_reach _ _ _).trans (runJob_reach _ _ _)
  · exact TxChan.refl s

theorem grantSlot_reach (s : State) : TxChan s (grantSlot s) := TxChan.foldl grantTo_reach _ s

theorem loadChannel_reach (c : ChanNo) (s : State) : TxChan s (loadChannel c s) := by
  unfold loadChannel
  exact modChan_reach _ _ _

theorem slotFreed_reach (race : SlotRace) (s : State) : TxChan s (slotFreed race s) := by
  cases race
  · exact grantSlot_reach s
  · exact TxChan.refl s

theorem takeHead_reach (race : SlotRace) (n : Nat) (s : State) : TxChan s (takeHead race n s) := by
  induction n generalizing s with
  | zero => exact TxChan.refl s
  | succ n ih =>
    simp only [takeHead]
    split
    · exact TxChan.refl s
    · split
      · refine TxChan.trans ?_ ((slotFreed_reach race _).trans (ih _))
        constructor <;> rfl
      · exact setFrames_reach _ _

theorem queueStep_reach (race : SlotRace) (s : State) : TxChan s (queueStep race s) := by
  unfold queueStep
  split
  · exact takeHead_reach _ _ s
  · exact TxChan.refl s

theorem frameLeaves_reach (race : SlotRace) (s : State) : TxChan s (frameLeaves race s) :=
  ((setFrames_reach _ _).trans (slotFreed_reach race _)).trans (queueStep_reach race _)

/-- Start-up reads nothing of a state but its image, the model's number of read-backs and its waiting commands. -/
theorem startUp_congr {s t : State} (image : t.store.image = s.store.image)
    (readBacks : t.store.readBacks = s.store.readBacks) (pending : t.pending = s.pending) : startUp t = startUp s := by
  unfold startUp startUpBase
  rw [image, readBacks, pending]

/-- All that a report of a sent frame can do (R159, R170): nothing where none is offered, start-up, or what the queue and
the channels do. -/
theorem sendFrame_cases (race : SlotRace) (s : State) :
    (linkHolds s = false ∧ sendFrame race s = s) ∨
    (linkHolds s = true ∧ restartDue (frameLeaves race s) = true ∧ sendFrame race s = startUp s) ∨
    (linkHolds s = true ∧ restartDue (frameLeaves race s) = false ∧ sendFrame race s = frameLeaves race s) := by
  have h := frameLeaves_reach race s
  unfold sendFrame startIfDue
  cases hl : linkHolds s with
  | false => exact .inl ⟨rfl, rfl⟩
  | true =>
    cases hd : restartDue (frameLeaves race s) with
    | true =>
      exact .inr (.inl ⟨rfl, rfl, startUp_congr (congrArg (·.image) h.store) (congrArg (·.readBacks) h.store) h.pending⟩)
    | false => exact .inr (.inr ⟨rfl, rfl, rfl⟩)

/-- All that an accepted RESTART can do (R170): wait behind its reply, or start up at once. -/
theorem beginRestart_cases (s : State) :
    let out := offerFrame (newFrame s .service (.reply 0x1A .done) (some .restart)) s.tx
    (out.placed = true ∧
      beginRestart s = { s with tx := out.tx, mgmt := { s.mgmt with restartPending := true } }) ∨
    (out.placed = false ∧ beginRestart s = startUp s) := by
  intro out
  cases h : out.placed with
  | true => exact .inl ⟨rfl, if_pos h⟩
  | false => exact .inr ⟨rfl, if_neg (fun e => Bool.noConfusion (h.symm.trans e))⟩

/-! ## The positions -/

theorem modPos_reach (p : Pos) (f : PosRec → PosRec) (s : State) : PosTxChan s (modPos p f s) := by
  constructor <;> rfl

theorem modCond_reach (p : Pos) (f : Cond → Cond) (s : State) : PosTxChan s (modCond p f s) := modPos_reach _ _ s

theorem setBinding_reach (p : Pos) (st : PosState) (e : Option EntryNo) (s : State) :
    PosTxChan s (setBinding p st e s) := modPos_reach _ _ s

theorem generateAlert_reach (p : Pos) (why : Reason) (s : State) : PosTxChan s (generateAlert p why s) := by
  constructor <;> rfl

theorem closeAt_reach (before : State) (cleared : Pos → Bool) (acc : Closing) (p : Pos) :
    PosTxChan acc.state (closeAt before cleared acc p).state := by
  unfold closeAt
  split
  · exact generateAlert_reach _ _ _
  · exact PosTxChan.refl _

theorem closeEvent_reach (before : State) (cleared : Pos → Bool) (s : State) :
    PosTxChan s (closeEvent before cleared s).state := by
  have go : ∀ (l : List Pos) (acc : Closing), PosTxChan acc.state (l.foldl (closeAt before cleared) acc).state := by
    intro l
    induction l with
    | nil => exact fun acc => PosTxChan.refl _
    | cons p l ih => exact fun acc => (closeAt_reach before cleared acc p).trans (ih _)
  exact go (List.finRange 32) { state := s, alerts := [] }

theorem finishEvent_reach (before : State) (touched : List Pos) (sample : Option Pos) (s : State) :
    PosTxChan s (finishEvent before touched sample s) :=
  (closeEvent_reach _ _ s).trans (tellChannels_reach _ _ _).toPosTxChan

theorem partnerNotice_reach (p : Pos) (partner : Option Pos) (s : State) : PosTxChan s (partnerNotice p partner s) := by
  unfold partnerNotice
  split
  · exact PosTxChan.refl s
  · split
    · exact (modCond_reach _ _ _).trans (modCond_reach _ _ _)
    · exact PosTxChan.refl s

theorem noticeIfLive_reach (p : Pos) (partner : Option Pos) (s : State) : PosTxChan s (noticeIfLive p partner s) := by
  unfold noticeIfLive
  split
  · exact partnerNotice_reach _ _ _
  · exact PosTxChan.refl s

theorem clearRuntime_reach (p : Pos) (partner : Option Pos) (s : State) : PosTxChan s (clearRuntime p partner s) :=
  (noticeIfLive_reach p partner s).trans (modPos_reach _ _ _)

theorem bindPos_reach (p : Pos) (e : EntryNo) (s : State) : PosTxChan s (bindPos p e s) := by
  unfold bindPos
  split
  · exact PosTxChan.refl s
  · exact setBinding_reach _ _ _ _
  all_goals exact (clearRuntime_reach _ _ _).trans (setBinding_reach _ _ _ _)

theorem unbindPos_reach (p : Pos) (s : State) : PosTxChan s (unbindPos p s) := by
  unfold unbindPos
  split
  · exact PosTxChan.refl s
  · exact PosTxChan.refl s
  all_goals exact (clearRuntime_reach _ _ _).trans (setBinding_reach _ _ _ _)

theorem clearPos_reach (p : Pos) (s : State) : PosTxChan s (clearPos p s) := by
  unfold clearPos
  split
  · exact PosTxChan.refl s
  · exact PosTxChan.refl s
  all_goals exact (clearRuntime_reach _ _ _).trans (modPos_reach _ _ _)

theorem rederivePos_reach (s : State) (p : Pos) : PosTxChan s (rederivePos s p) := by
  unfold rederivePos
  split
  · exact PosTxChan.refl s
  · simp only
    split <;> exact (unbindPos_reach _ _).trans (setBinding_reach _ _ _ _)

theorem rederiveTrailer_reach (s : State) : PosTxChan s (rederiveTrailer s) := PosTxChan.foldl rederivePos_reach _ s

theorem goSilent_reach (p : Pos) (s : State) : PosTxChan s (goSilent p s) :=
  (noticeIfLive_reach _ _ _).trans (modPos_reach _ _ _)

theorem rederiveCache_reach (s : State) (p : Pos) : PosTxChan s (rederiveCache s p) := modPos_reach _ _ s

theorem rederiveCaches_reach (which : Pos → Bool) (s : State) : PosTxChan s (rederiveCaches which s) :=
  PosTxChan.foldl rederiveCache_reach _ s

theorem expireInterval_reach (p : Pos) (t : Nat) (s : State) : PosTxChan s (expireInterval p t s) := modPos_reach _ _ s

theorem judgeTwin_reach (p : Pos) (s : State) : PosTxChan s (judgeTwin p s) := by
  unfold judgeTwin
  repeat' split
  all_goals first
    | exact PosTxChan.refl s
    | exact (modCond_reach _ _ _).trans (modCond_reach _ _ _)

/-! ## Readings and evidence -/

theorem applyReading_reach (p : Pos) (rd : Reading) (s : State) : ReadReach s (applyReading p rd s) := by
  unfold applyReading
  refine ReadReach.trans ?_ (judgeTwin_reach _ _).toReadReach
  constructor <;> rfl

theorem writeEntry_reach (e : EntryNo) (new : Entry) (s : State) : LearnReach s (writeEntry e new s) := by
  constructor <;> rfl

theorem dropStranger_reach (sid : SensorId) (s : State) : LearnReach s (dropStranger sid s) := by constructor <;> rfl

theorem modWalk_reach (h : Half) (f : WalkSlot → WalkSlot) (s : State) : LearnReach s (modWalk h f s) := by
  cases h <;> constructor <;> rfl

theorem placeService_learn (body : Body) (s : State) : LearnReach s (placeService body s) :=
  (placeService_reach body s).toPosTxChan.toReadReach.toLearnReach

theorem finishEvent_learn (before : State) (touched : List Pos) (sample : Option Pos) (s : State) :
    LearnReach s (finishEvent before touched sample s) :=
  (finishEvent_reach before touched sample s).toReadReach.toLearnReach

theorem displace_reach (g : SetNo) (p : Pos) (s : State) : LearnReach s (displace g p s) := by
  unfold displace
  split
  · exact writeEntry_reach _ _ _
  · exact LearnReach.refl s

theorem bindTable_reach {sid : SensorId} {g : SetNo} {p : Pos} {s : State} {b : TableBinding}
    (h : bindTable sid g p s = some b) : LearnReach s b.state := by
  unfold bindTable at h
  split at h
  · simp only at h
    split at h <;> cases h
    · exact LearnReach.refl s
    · exact (displace_reach g p s).trans (writeEntry_reach _ _ _)
  · simp only at h
    split at h <;> cases h
    exact ((displace_reach g p s).trans (writeEntry_reach _ _ _)).trans (dropStranger_reach _ _)

theorem bindAndRead_reach (b : TableBinding) (p : Pos) (ev : Evidence) : LearnReach b.state (bindAndRead b p ev) := by
  unfold bindAndRead
  simp only
  split
  · exact (((unbindPos_reach _ _).trans (bindPos_reach _ _ _)).toReadReach.trans (applyReading_reach _ _ _)).toLearnReach
  · exact ((bindPos_reach _ _ _).toReadReach.trans (applyReading_reach _ _ _)).toLearnReach

theorem finishWalk_reach (h : Half) (r : WalkResult) (s : State) : LearnReach s (finishWalk h r s) :=
  (modWalk_reach h _ s).trans (placeService_learn _ _)

theorem endWalkIfOpen_reach (h : Half) (r : WalkResult) (s : State) : LearnReach s (endWalkIfOpen h r s) := by
  unfold endWalkIfOpen
  split
  · exact finishWalk_reach _ _ _
  · exact LearnReach.refl s

theorem advanceWalk_reach (h : Half) (w : OpenWalk) (k : Nat) (s : State) : LearnReach s (advanceWalk h w k s) := by
  unfold advanceWalk
  split
  · exact modWalk_reach _ _ _
  · exact finishWalk_reach _ _ _

theorem countBinding_reach (h : Half) (w : OpenWalk) (ev : Evidence) (s : State) :
    LearnReach s (countBinding h w ev s) := by
  unfold countBinding
  exact (modWalk_reach _ _ _).trans (advanceWalk_reach _ _ _ _)

theorem carryBinding_reach (h : Half) (w : OpenWalk) (ev : Evidence) (b : TableBinding) (before : State) :
    LearnReach b.state (carryBinding h w ev b before) := by
  unfold carryBinding
  simp only
  refine LearnReach.trans ?_ (countBinding_reach h w ev _)
  refine LearnReach.trans ?_ (placeService_learn _ _)
  refine LearnReach.trans ?_ (finishEvent_learn _ _ _ _)
  exact bindAndRead_reach b w.current ev

theorem updateStranger_reach (x : Stranger) (ev : Evidence) (s : State) : LearnReach s (updateStranger x ev s) := by
  unfold updateStranger
  simp only
  split
  · refine LearnReach.trans ?_ (placeService_learn _ _)
    constructor <;> rfl
  · constructor <;> rfl

theorem hearStranger_reach (ev : Evidence) (s : State) : LearnReach s (hearStranger ev s) := by
  unfold hearStranger
  split
  · exact updateStranger_reach _ _ _
  · unfold addStranger
    simp only
    split <;> constructor <;> rfl

theorem handOn_reach (ev : Evidence) (s : State) : LearnReach s (handOn ev s) := by
  unfold handOn
  split
  · exact hearStranger_reach _ _
  · exact LearnReach.refl s

theorem bindAtWalk_reach (h : Half) (w : OpenWalk) (ev : Evidence) (s : State) : LearnReach s (bindAtWalk h w ev s) := by
  unfold bindAtWalk
  split
  · next hb => exact (bindTable_reach hb).trans (carryBinding_reach _ _ _ _ _)
  · exact (finishWalk_reach _ _ _).trans (handOn_reach _ _)

theorem judgeOne_reach (h : Half) (w : OpenWalk) (ev : Evidence) (s : State) : LearnReach s (judgeOne h w ev s) := by
  unfold judgeOne
  split
  · exact bindAtWalk_reach _ _ _ _
  · exact (modWalk_reach _ _ _).trans (handOn_reach _ _)

theorem judgeTwo_reach (t r : OpenWalk) (ev : Evidence) (s : State) : LearnReach s (judgeTwo t r ev s) := by
  unfold judgeTwo
  split
  · exact bindAtWalk_reach _ _ _ _
  · exact bindAtWalk_reach _ _ _ _
  · exact ((modWalk_reach _ _ _).trans (modWalk_reach _ _ _)).trans (handOn_reach _ _)
  · exact ((modWalk_reach _ _ _).trans (modWalk_reach _ _ _)).trans (handOn_reach _ _)

theorem deliver_reach (ev : Evidence) (s : State) : LearnReach s (deliver ev s) := by
  unfold deliver
  repeat' split
  all_goals first
    | exact judgeTwo_reach _ _ _ _
    | exact judgeOne_reach _ _ _ _
    | exact handOn_reach _ _

theorem expiryProcessing_reach (e : DupEntry) (s : State) : LearnReach s (expiryProcessing e s) := by
  unfold expiryProcessing
  split
  · exact deliver_reach _ _
  · exact LearnReach.refl s

/-! ## Reception -/

theorem acceptTelegram_reach (e : EntryNo) (seq : Fin 16) (t : Telegram) (s : State) :
    ReceptionReach s (acceptTelegram e seq t s) := by
  unfold acceptTelegram
  simp only
  refine ReceptionReach.trans ?_
    ((applyReading_reach _ _ _).trans (finishEvent_reach _ _ _ _).toReadReach).toLearnReach.toReceptionReach
  constructor <;> rfl

theorem setTable_reach (x : TableState) (s : State) : ReceptionReach s { s with table := x } := by
  constructor <;> rfl

theorem lookup_reach (sid : SensorId) (seq : Fin 16) (t : Telegram) (s : State) :
    ReceptionReach s (lookup sid seq t s).state := by
  have h := fun e => acceptTelegram_reach e seq t s
  unfold lookup
  extract_lets learn
  split
  · exact ReceptionReach.refl s
  · split
    · exact setTable_reach { s.table with inactiveSet := countUp s.table.inactiveSet } s
    · split
      · exact setTable_reach { s.table with lateRepeat := countUp s.table.lateRepeat } s
      · split
        · exact setTable_reach { s.table with unplaced := countUp s.table.unplaced } s
        · dsimp only; exact h _

theorem setDupEntries_reach (xs : List DupEntry) (s : State) : ReceptionReach s (setDupEntries xs s) := by
  constructor <;> rfl

theorem evictIfFull_reach (s : State) : ReceptionReach s (evictIfFull s) := by
  unfold evictIfFull
  repeat' split
  · exact ReceptionReach.refl s
  · exact ReceptionReach.refl s
  · refine ReceptionReach.trans ?_ (expiryProcessing_reach _ _).toReceptionReach
    constructor <;> rfl

theorem firstCopy_reach (c : Copy) (s : State) : ReceptionReach s (firstCopy c s) := by
  unfold firstCopy
  simp only
  split
  · exact ((setDupEntries_reach _ _).trans (lookup_reach _ _ _ _)).trans (setDupEntries_reach _ _)
  · exact (setDupEntries_reach _ _).trans (lookup_reach _ _ _ _)

theorem takeCopy_reach (c : Copy) (s : State) : ReceptionReach s (takeCopy c s) := by
  unfold takeCopy
  split
  · constructor <;> rfl
  · exact (evictIfFull_reach _).trans (firstCopy_reach _ _)

theorem modPort_reach (port : Port) (f : PortState → PortState) (s : State) : ReceptionReach s (modPort port f s) := by
  cases port <;> constructor <;> rfl

theorem setFraming_reach (port : Port) (f : Framing) (s : State) : ReceptionReach s (setFraming port f s) :=
  modPort_reach port _ s

theorem breakRecord_reach (port : Port) (f : Framing) (s : State) : ReceptionReach s (breakRecord port f s) :=
  modPort_reach port _ s

theorem judgeRecord_reach (port : Port) (bytes : List Byte) (s : State) : ReceptionReach s (judgeRecord port bytes s) := by
  have h := modPort_reach port (fun p => { p with taken := countUp p.taken }) s
  unfold judgeRecord
  extract_lets s1
  split
  · exact h.trans (takeCopy_reach _ s1)
  · exact h.trans (modPort_reach port _ s1)

theorem addByte_reach (port : Port) (bytes : List Byte) (b : Byte) (s : State) :
    ReceptionReach s (addByte port bytes b s) := by
  unfold addByte
  split
  · exact modPort_reach _ _ _
  · exact (modPort_reach _ _ _).trans (judgeRecord_reach _ _ _)

theorem takeChar_reach (port : Port) (c : Byte) (s : State) : ReceptionReach s (takeChar port c s) := by
  unfold takeChar
  split
  · split
    · exact setFraming_reach _ _ _
    · exact ReceptionReach.refl s
  · unfold takeCollecting
    split
    · split
      · exact setFraming_reach _ _ _
      · exact breakRecord_reach _ _ _
    · split
      · split
        · exact addByte_reach _ _ _ _
        · exact breakRecord_reach _ _ _
      · split
        · exact setFraming_reach _ _ _
        · exact addByte_reach _ _ _ _

theorem expireDupHead_reach (s : State) : ReceptionReach s (expireDupHead s) := by
  unfold expireDupHead
  repeat' split
  · exact (setDupEntries_reach _ _).trans (expiryProcessing_reach _ _).toReceptionReach
  · exact ReceptionReach.refl s
  · exact ReceptionReach.refl s

end Sys2Proof.Machine
end

