-- ==== Sys2Proof/Laws/Tables.lean ====
section
/-! SUPPORT. Reading a table after a write: at the entry written, and at every other. -/

namespace Sys2Proof.Machine

open Sys2Proof

@[simp] theorem pick_put_self {α : Type} {n : Nat} (v : Vector α n) (i : Fin n) (a : α) : pick (put v i a) i = a := by
  simp [pick, put]

theorem pick_put_ne {α : Type} {n : Nat} (v : Vector α n) {i j : Fin n} (a : α) (h : j ≠ i) :
    pick (put v i a) j = pick v j := by
  have : i.val ≠ j.val := fun e => h (Fin.ext e.symm)
  simp [pick, put, this]

theorem pick_put {α : Type} {n : Nat} (v : Vector α n) (i j : Fin n) (a : α) :
    pick (put v i a) j = if j = i then a else pick v j := by
  split
  · next h => subst h; simp
  · next h => exact pick_put_ne v a h

@[simp] theorem posRec_modPos_self (p : Pos) (f : PosRec → PosRec) (s : State) :
    posRec (modPos p f s) p = f (posRec s p) := by
  simp [posRec, modPos]

theorem posRec_modPos_ne {p q : Pos} (f : PosRec → PosRec) (s : State) (h : q ≠ p) :
    posRec (modPos p f s) q = posRec s q := by
  simp [posRec, modPos, pick_put_ne _ _ h]

theorem posRec_modPos (p q : Pos) (f : PosRec → PosRec) (s : State) :
    posRec (modPos p f s) q = if q = p then f (posRec s p) else posRec s q := by
  simp only [posRec, modPos, pick_put]

theorem posRec_modCond (p q : Pos) (f : Cond → Cond) (s : State) :
    posRec (modCond p f s) q = if q = p then { posRec s p with cond := f (posRec s p).cond } else posRec s q :=
  posRec_modPos p q _ s

@[simp] theorem chanRun_modChan_self (c : ChanNo) (f : ChanRun → ChanRun) (s : State) :
    chanRun (modChan c f s) c = f (chanRun s c) := by
  simp [chanRun, modChan]

theorem chanRun_modChan_ne {c d : ChanNo} (f : ChanRun → ChanRun) (s : State) (h : d ≠ c) :
    chanRun (modChan c f s) d = chanRun s d := by
  simp [chanRun, modChan, pick_put_ne _ _ h]

theorem chanRun_modChan (c d : ChanNo) (f : ChanRun → ChanRun) (s : State) :
    chanRun (modChan c f s) d = if d = c then f (chanRun s c) else chanRun s d := by
  simp only [chanRun, modChan, pick_put]

@[simp] theorem walkSlot_modWalk_self (h : Half) (f : WalkSlot → WalkSlot) (s : State) :
    walkSlot (modWalk h f s) h = f (walkSlot s h) := by
  cases h <;> rfl

theorem walkSlot_modWalk_ne {h k : Half} (f : WalkSlot → WalkSlot) (s : State) (hk : k ≠ h) :
    walkSlot (modWalk h f s) k = walkSlot s k := by
  cases h <;> cases k <;> first | rfl | exact absurd rfl hk

@[simp] theorem portState_modPort_self (port : Port) (f : PortState → PortState) (s : State) :
    portState (modPort port f s) port = f (portState s port) := by
  cases port <;> rfl

theorem portState_modPort_ne {port other : Port} (f : PortState → PortState) (s : State) (h : other ≠ port) :
    portState (modPort port f s) other = portState s other := by
  cases port <;> cases other <;> first | rfl | exact absurd rfl h

@[simp] theorem entryAt_writeEntry_self (e : EntryNo) (new : Entry) (s : State) :
    entryAt (writeEntry e new s) e = new := by
  simp [entryAt, writeEntry]

theorem entryAt_writeEntry_ne {e i : EntryNo} (new : Entry) (s : State) (h : i ≠ e) :
    entryAt (writeEntry e new s) i = entryAt s i := by
  simp [entryAt, writeEntry, pick_put_ne _ _ h]

theorem entryAt_writeEntry (e i : EntryNo) (new : Entry) (s : State) :
    entryAt (writeEntry e new s) i = if i = e then new else entryAt s i := by
  simp only [entryAt, writeEntry, pick_put]

/-! ## What the searches of the sensor table find -/

theorem findId_some {s : State} {sid : SensorId} {e : EntryNo} (h : findId s sid = some e) :
    (entryAt s e).valid = true ∧ (entryAt s e).sid = sid := by
  have := List.find?_some h
  simpa using this

theorem findId_none {s : State} {sid : SensorId} (h : findId s sid = none) (e : EntryNo) :
    ¬((entryAt s e).valid = true ∧ (entryAt s e).sid = sid) := by
  have := List.find?_eq_none.mp h e (List.mem_finRange e)
  simpa using this

theorem findPlace_some {s : State} {g : SetNo} {p : Pos} {e : EntryNo} (h : findPlace s g p = some e) :
    (entryAt s e).valid = true ∧ (entryAt s e).set = g ∧ (entryAt s e).pos = p := by
  have := List.find?_some h
  simpa [and_assoc] using this

theorem findPlace_none {s : State} {g : SetNo} {p : Pos} (h : findPlace s g p = none) (e : EntryNo) :
    ¬((entryAt s e).valid = true ∧ (entryAt s e).set = g ∧ (entryAt s e).pos = p) := by
  have := List.find?_eq_none.mp h e (List.mem_finRange e)
  simpa [and_assoc] using this

theorem entryFor_some {s : State} {p : Pos} {e : EntryNo} (h : entryFor s p = some e) :
    (entryAt s e).valid = true ∧ isActive s (entryAt s e).set = true ∧ (entryAt s e).pos = p := by
  have := List.find?_some h
  simpa [and_assoc] using this

theorem entryFor_none {s : State} {p : Pos} (h : entryFor s p = none) (e : EntryNo) :
    ¬((entryAt s e).valid = true ∧ isActive s (entryAt s e).set = true ∧ (entryAt s e).pos = p) := by
  have := List.find?_eq_none.mp h e (List.mem_finRange e)
  simpa [and_assoc] using this

theorem findFree_some {s : State} {e : EntryNo} (h : findFree s = some e) : (entryAt s e).valid = false := by
  have := List.find?_some h
  simpa using this

end Sys2Proof.Machine
end

