-- ==== Sys2Proof/Laws/Records.lean ====
section
/-! SUPPORT. What the composed operations leave of each position record. -/

namespace Sys2Proof.Machine

open Sys2Proof

/-! ## Alert frames (R122 to R126) -/

/-- A frame generated for p writes of the records only the alert bookkeeping of p. -/
theorem generateAlert_posRec (p q : Pos) (why : Reason) (s : State) :
    posRec (generateAlert p why s) q =
      if q = p then
        { posRec s p with cond :=
          { (posRec s p).cond with
            lastAlert := some s.time
            owed := !(offerFrame (newFrame s .alert (.alert (viewOf s p) why) none) s.tx).placed
            repeatDue := repeatAfter s.time (repeatMs s)
              (offerFrame (newFrame s .alert (.alert (viewOf s p) why) none) s.tx).placed (posRec s p).cond } }
      else posRec s q := by
  unfold generateAlert
  simp only [posRec_modCond]
  rfl

/-- A condition unit record that agrees with another but for the last alert time, the owed flag and the repeat timer. -/
def AlertOnly (c d : Cond) : Prop := d = { c with lastAlert := d.lastAlert, owed := d.owed, repeatDue := d.repeatDue }

/-- A position record that agrees with another but for the alert bookkeeping of its condition unit. -/
def RecAlertOnly (r t : PosRec) : Prop := t = { r with cond := t.cond } ∧ AlertOnly r.cond t.cond

theorem AlertOnly.refl (c : Cond) : AlertOnly c c := rfl

theorem AlertOnly.trans {c d e : Cond} (h : AlertOnly c d) (k : AlertOnly d e) : AlertOnly c e := by
  unfold AlertOnly at *
  rw [h] at k
  exact k

theorem RecAlertOnly.refl (r : PosRec) : RecAlertOnly r r := ⟨rfl, rfl⟩

theorem RecAlertOnly.trans {r t u : PosRec} (h : RecAlertOnly r t) (k : RecAlertOnly t u) : RecAlertOnly r u := by
  refine ⟨?_, h.2.trans k.2⟩
  have := k.1
  rw [h.1] at this
  exact this

theorem generateAlert_record (p q : Pos) (why : Reason) (s : State) :
    RecAlertOnly (posRec s q) (posRec (generateAlert p why s) q) := by
  rw [generateAlert_posRec]
  split
  · next h => subst h; exact ⟨rfl, rfl⟩
  · exact RecAlertOnly.refl _

theorem closeAt_record (before : State) (cleared : Pos → Bool) (acc : Closing) (p q : Pos) :
    RecAlertOnly (posRec acc.state q) (posRec (closeAt before cleared acc p).state q) := by
  unfold closeAt
  split
  · exact generateAlert_record _ _ _ _
  · exact RecAlertOnly.refl _

/-- The closing of an event at other positions leaves a record alone. -/
theorem closeAt_other (before : State) (cleared : Pos → Bool) (acc : Closing) {p q : Pos} (h : q ≠ p) :
    posRec (closeAt before cleared acc p).state q = posRec acc.state q := by
  unfold closeAt
  split
  · rw [generateAlert_posRec, if_neg h]
  · rfl

theorem closeFold_record (before : State) (cleared : Pos → Bool) (q : Pos) (l : List Pos) (acc : Closing) :
    RecAlertOnly (posRec acc.state q) (posRec (l.foldl (closeAt before cleared) acc).state q) := by
  induction l generalizing acc with
  | nil => exact RecAlertOnly.refl _
  | cons p l ih => exact (closeAt_record before cleared acc p q).trans (ih _)

/-- A position whose record the event left as it was, and whose runtime it did not clear, gives no reason. -/
theorem alertReason_same (c : Cond) : alertReason false c c = none := by
  have raise : madeRaise c c = false := by
    cases c with | mk level => cases level <;> simp [madeRaise, allConditions, levelRaised]
  have clear : madeClear c c = false := by
    cases c with | mk => simp [madeClear, allConditions]
  simp [alertReason, raise, clear]

theorem closeFold_quiet (before : State) (cleared : Pos → Bool) (q : Pos) (hq : cleared q = false) (l : List Pos)
    (acc : Closing) (h : posRec acc.state q = posRec before q) :
    posRec (l.foldl (closeAt before cleared) acc).state q = posRec before q := by
  induction l generalizing acc with
  | nil => exact h
  | cons p l ih =>
    refine ih _ ?_
    by_cases hp : q = p
    · subst hp
      unfold closeAt
      rw [hq, h, alertReason_same]
      exact h
    · rw [closeAt_other _ _ _ hp, h]

/-- The close of an event writes of each record only the alert bookkeeping. -/
theorem finishEvent_record (before : State) (touched : List Pos) (sample : Option Pos) (s : State) (q : Pos) :
    RecAlertOnly (posRec s q) (posRec (finishEvent before touched sample s) q) := by
  unfold finishEvent
  have : ∀ u, posRec (tellChannels (closeEvent before
      (fun p => touched.contains p && hasBinding (posRec before p).state) s).alerts sample u) q = posRec u q :=
    fun u => congrArg (fun v => pick v q) (tellChannels_reach _ _ u).pos
  simp only [this]
  exact closeFold_record _ _ _ _ _

/-- The close of an event leaves alone a record that the event left alone and whose runtime it did not clear. -/
theorem finishEvent_quiet (before : State) (touched : List Pos) (sample : Option Pos) (s : State) (q : Pos)
    (ht : q ∉ touched) (h : posRec s q = posRec before q) :
    posRec (finishEvent before touched sample s) q = posRec s q := by
  unfold finishEvent
  have : ∀ u, posRec (tellChannels (closeEvent before
      (fun p => touched.contains p && hasBinding (posRec before p).state) s).alerts sample u) q = posRec u q :=
    fun u => congrArg (fun v => pick v q) (tellChannels_reach _ _ u).pos
  simp only [this]
  rw [h]
  exact closeFold_quiet _ _ _ (by simp [ht]) _ _ h

/-! ## Notices (R57 to R60, R117) -/

/-- A partner notice may end TWIN, and with it its acknowledgement, at p and at the partner; nothing else. -/
theorem partnerNotice_posRec (p q : Pos) (partner : Option Pos) (s : State) :
    posRec (partnerNotice p partner s) q = posRec s q ∨
    ((q = p ∨ partner = some q) ∧
      posRec (partnerNotice p partner s) q = { posRec s q with cond := clearCond .twin (posRec s q).cond }) := by
  unfold partnerNotice
  split
  · exact Or.inl rfl
  · next m =>
    split
    · by_cases hm : q = m
      · refine Or.inr ⟨Or.inr (by rw [hm]), ?_⟩
        subst hm
        by_cases hp : q = p
        · subst hp; simp [posRec_modCond, clearCond, condSet]
        · simp [posRec_modCond, hp]
      · by_cases hp : q = p
        · refine Or.inr ⟨Or.inl hp, ?_⟩
          subst hp
          simp [posRec_modCond, hm]
        · exact Or.inl (by simp [posRec_modCond, hm, hp])
    · exact Or.inl rfl

theorem noticeIfLive_posRec (p q : Pos) (partner : Option Pos) (s : State) :
    posRec (noticeIfLive p partner s) q = posRec s q ∨
    ((q = p ∨ partner = some q) ∧
      posRec (noticeIfLive p partner s) q = { posRec s q with cond := clearCond .twin (posRec s q).cond }) := by
  unfold noticeIfLive
  split
  · exact partnerNotice_posRec p q partner s
  · exact Or.inl rfl

/-- Clearing the runtime of p leaves there its state, bound entry and cache (R57). -/
theorem clearRuntime_self (p : Pos) (partner : Option Pos) (s : State) :
    posRec (clearRuntime p partner s) p = clearedRec (posRec s p) := by
  unfold clearRuntime
  rw [posRec_modPos_self]
  rcases noticeIfLive_posRec p p partner s with h | ⟨-, h⟩
  · rw [h]
  · rw [h]; rfl

theorem clearRuntime_other {p q : Pos} (partner : Option Pos) (s : State) (hp : q ≠ p) (hm : partner ≠ some q) :
    posRec (clearRuntime p partner s) q = posRec s q := by
  unfold clearRuntime
  rw [posRec_modPos_ne _ _ hp]
  rcases noticeIfLive_posRec p q partner s with h | ⟨h | h, -⟩
  · exact h
  · exact absurd h hp
  · exact absurd h hm

/-- Clearing the runtime of p may end TWIN at its partner; nothing else changes there (R117). -/
theorem clearRuntime_partner {p q : Pos} (partner : Option Pos) (s : State) (hp : q ≠ p) :
    posRec (clearRuntime p partner s) q = posRec s q ∨
      posRec (clearRuntime p partner s) q = { posRec s q with cond := clearCond .twin (posRec s q).cond } := by
  unfold clearRuntime
  rw [posRec_modPos_ne _ _ hp]
  rcases noticeIfLive_posRec p q partner s with h | ⟨-, h⟩
  · exact Or.inl h
  · exact Or.inr h

/-- A bind notice at a fitted position: WAITING and bound, with a clear runtime where it held a binding (R58). -/
theorem bindPos_self {p : Pos} {e : EntryNo} {s : State} (h : (posRec s p).state ≠ .vacant) :
    posRec (bindPos p e s) p =
      { (if (posRec s p).state = .unbound then posRec s p else clearedRec (posRec s p)) with
        state := .waiting, bound := some e } := by
  unfold bindPos setBinding
  split
  · next hv => exact absurd hv h
  · next hv => rw [posRec_modPos_self, if_pos hv]
  all_goals next hv => rw [posRec_modPos_self, clearRuntime_self, if_neg (by rw [hv]; decide)]

/-- An unbind notice at a position with a binding: UNBOUND, with a clear runtime (R59). -/
theorem unbindPos_self {p : Pos} {s : State} (h : hasBinding (posRec s p).state = true) :
    posRec (unbindPos p s) p = { clearedRec (posRec s p) with state := .unbound, bound := none } := by
  unfold unbindPos setBinding
  split
  · next hv => rw [hv] at h; cases h
  · next hv => rw [hv] at h; cases h
  all_goals rw [posRec_modPos_self, clearRuntime_self]

/-- A cleared position that holds a binding: WAITING, its entry kept (R67). -/
theorem clearPos_self {p : Pos} {s : State} (h : hasBinding (posRec s p).state = true) :
    posRec (clearPos p s) p = { clearedRec (posRec s p) with state := .waiting } := by
  unfold clearPos
  split
  · next hv => rw [hv] at h; cases h
  · next hv => rw [hv] at h; cases h
  all_goals rw [posRec_modPos_self, clearRuntime_self]

theorem partnerOf_eq {s : State} {p q : Pos} (h : partnerOf s p = some q) : q = mateOf p := by
  unfold partnerOf at h
  split at h
  · exact (Option.some.inj h).symm
  · cases h

theorem partnerOf_ne {s : State} {p q : Pos} (h : q ≠ mateOf p) : partnerOf s p ≠ some q :=
  fun e => h (partnerOf_eq e)

theorem bindPos_other {p q : Pos} (e : EntryNo) (s : State) (hp : q ≠ p) (hm : q ≠ mateOf p) :
    posRec (bindPos p e s) q = posRec s q := by
  unfold bindPos setBinding
  split
  · rfl
  · rw [posRec_modPos_ne _ _ hp]
  all_goals rw [posRec_modPos_ne _ _ hp, clearRuntime_other _ _ hp (partnerOf_ne hm)]

theorem unbindPos_other {p q : Pos} (s : State) (hp : q ≠ p) (hm : q ≠ mateOf p) :
    posRec (unbindPos p s) q = posRec s q := by
  unfold unbindPos setBinding
  split
  · rfl
  · rfl
  all_goals rw [posRec_modPos_ne _ _ hp, clearRuntime_other _ _ hp (partnerOf_ne hm)]

theorem clearPos_other {p q : Pos} (s : State) (hp : q ≠ p) (hm : q ≠ mateOf p) :
    posRec (clearPos p s) q = posRec s q := by
  unfold clearPos
  split
  · rfl
  · rfl
  all_goals rw [posRec_modPos_ne _ _ hp, clearRuntime_other _ _ hp (partnerOf_ne hm)]

/-- The silence expiry leaves alone every position but its own and that position's partner (R64, R117). -/
theorem goSilent_other {p q : Pos} (s : State) (hp : q ≠ p) (hm : q ≠ mateOf p) :
    posRec (goSilent p s) q = posRec s q := by
  unfold goSilent
  rw [posRec_modPos_ne _ _ hp]
  rcases noticeIfLive_posRec p q (partnerOf s p) s with h | ⟨h | h, -⟩
  · exact h
  · exact absurd h hp
  · exact absurd h (partnerOf_ne hm)

/-! ## Readings (R61, R116) -/

/-- TWIN judged at p writes only the TWIN condition, of p and of its partner. -/
theorem judgeTwin_posRec (p q : Pos) (s : State) :
    posRec (judgeTwin p s) q = posRec s q ∨
    ((q = p ∨ partnerOf s p = some q) ∧
      ((posRec (judgeTwin p s) q = { posRec s q with cond := raiseCond .twin (posRec s q).cond }) ∨
       (posRec (judgeTwin p s) q = { posRec s q with cond := clearCond .twin (posRec s q).cond }))) := by
  unfold judgeTwin
  split
  · exact Or.inl rfl
  · next m hm =>
    have write : ∀ f : Cond → Cond, (∀ c, f (f c) = f c) →
        posRec (modCond m f (modCond p f s)) q = posRec s q ∨
        ((q = p ∨ partnerOf s p = some q) ∧
          posRec (modCond m f (modCond p f s)) q = { posRec s q with cond := f (posRec s q).cond }) := by
      intro f hf
      by_cases h1 : q = m
      · refine Or.inr ⟨Or.inr (by rw [hm, h1]), ?_⟩
        subst h1
        by_cases h2 : q = p
        · subst h2; simp [posRec_modCond, hf]
        · simp [posRec_modCond, h2]
      · by_cases h2 : q = p
        · refine Or.inr ⟨Or.inl h2, ?_⟩
          subst h2
          simp [posRec_modCond, h1]
        · exact Or.inl (by simp [posRec_modCond, h1, h2])
    repeat' split
    · rcases write (raiseCond .twin) (fun _ => rfl) with h | ⟨h, k⟩
      · exact Or.inl h
      · exact Or.inr ⟨h, Or.inl k⟩
    · rcases write (clearCond .twin) (fun _ => rfl) with h | ⟨h, k⟩
      · exact Or.inl h
      · exact Or.inr ⟨h, Or.inr k⟩
    all_goals exact Or.inl rfl

/-- A reading leaves alone every position but its own and that position's neighbour on the axle. -/
theorem applyReading_other {p q : Pos} (rd : Reading) (s : State) (hp : q ≠ p) (hm : q ≠ mateOf p) :
    posRec (applyReading p rd s) q = posRec s q := by
  unfold applyReading
  have first : ∀ m : Mgmt, posRec { modPos p (fun _ => (readRec s rd (posRec s p)).out) s with mgmt := m } q =
      posRec s q := fun m => posRec_modPos_ne (fun _ => (readRec s rd (posRec s p)).out) s hp
  rcases judgeTwin_posRec p q _ with h | ⟨h | h, -⟩
  · exact h.trans (first _)
  · exact absurd h hp
  · exact absurd (partnerOf_eq h) hm

/-! ## Caches (R109) -/

theorem rederiveCache_posRec (s : State) (p q : Pos) :
    posRec (rederiveCache s p) q =
      if q = p then
        { posRec s p with cache := cacheFor s p, cond := { (posRec s p).cond with pendingLevel := none } }
      else posRec s q := by
  unfold rederiveCache
  rw [posRec_modPos]

end Sys2Proof.Machine
end

