-- ==== Sys2Proof/Tests/Slice0.lean ====
section
/-! SUPPORT. Tests on fixed values, the expected results taken from the spec's layouts and worked examples, and for
every statement with hypotheses a witness that meets them. -/

-- One test after the other: together they would ask for more threads than the check's memory limit gives.
set_option Elab.async false

namespace Sys2Proof.Tests

open Sys2Proof Sys2Proof.Machine

/-! ## Ill-formed commands are refused (WellFormed) -/

theorem test_frame_longer_than_8_is_ill_formed : (Instr.clearSensorEntry 9 1).wf = false := by decide

theorem test_field_beyond_the_length_is_ill_formed : (Instr.clearSensorEntry 1 7).wf = false := by decide

theorem test_vehicle_field_beyond_the_length_is_ill_formed :
    (Instr.vehicleCondition 5 0 0 203 0 1).wf = false := by decide

theorem test_request_without_kind_is_ill_formed : (Instr.readSettings 0).wf = false := by decide

theorem test_served_kind_is_no_unknown_request : (Instr.unknownRequest 0x19).wf = false := by decide

theorem test_discarded_frame_of_9_bytes_is_ill_formed :
    (Instr.discardedFrame { extended := true, remote := false, ident := 5, data := List.replicate 9 0 }).wf = false := by
  decide

theorem test_standard_identifier_above_11_bits_is_ill_formed :
    (Instr.discardedFrame { extended := false, remote := false, ident := 0x800, data := [] }).wf = false := by decide

theorem test_well_formed_commands :
    (Instr.clearSensorEntry 2 255).wf = true ∧ (Instr.unknownRequest 0x1B).wf = true ∧
    (Instr.vehicleCondition 6 9 9 999 255 9).wf = true ∧ (Instr.ack 0 0 0).wf = true := by decide

/-! ## Frames written out byte by byte from chapter 12 -/

/-- A standard data frame. -/
def can (ident : Nat) (data : List Byte) : CanFrame :=
  { extended := false, remote := false, ident := BitVec.ofNat 29 ident, data := data }

theorem test_decode_vehicle_condition :
    decodeCan 5 (can 0x0A0 [0x01, 0x00, 0xCB, 0x00, 0x44, 0x02]) = .vehicleCondition 6 1 0 203 0x44 2 := by decide

theorem test_decode_ack : decodeCan 5 (can 0x3B5 [0x1F, 0x03]) = .ack 2 31 3 := by decide

theorem test_decode_write_sensor_entry :
    decodeCan 5 (can 0x5C5 [0x01, 0x0C, 0x34, 0x12, 0x0E, 0x0B, 0x89, 0xFC]) =
      .writeSensorEntry 8 12 0x0B0E1234 9 2 (-4) := by decide

theorem test_decode_write_position : decodeCan 0 (can 0x5C0 [0x04, 0x14, 0x07]) = .writePosition 3 20 true 3 := by
  decide

theorem test_decode_write_axle : decodeCan 0 (can 0x5C0 [0x05, 0x02, 0x19, 0x01]) = .writeAxle 4 2 1 6 true := by decide

theorem test_decode_read_history : decodeCan 0 (can 0x5C0 [0x08, 0x1A, 0x83]) = .readHistory 3 26 3 8 := by decide

theorem test_decode_write_profile_a :
    decodeCan 0 (can 0x5C0 [0x09, 0x89, 0xA2, 0xB4, 0x96, 0xF0, 0x00]) = .writeProfileA 7 1 2 1300 90 75 120 := by decide

theorem test_decode_write_profile_b :
    decodeCan 0 (can 0x5C0 [0x0A, 0x4E, 0x10, 0x45, 0x01]) = .writeProfileB 5 2 3 130 40 10 := by decide

theorem test_decode_open_walk :
    decodeCan 0 (can 0x5C0 [0x0B, 0x10, 0x4F, 0x96, 0x00]) = .openWalk 5 16 true true 3 2 300 := by decide

theorem test_decode_configure_channel_a :
    decodeCan 0 (can 0x5C0 [0x0E, 0x01, 0x36, 0x44, 0x00]) = .configureChannelA 5 1 2 1 3 16 8 := by decide

theorem test_decode_configure_channel_b :
    decodeCan 0 (can 0x5C0 [0x0F, 0x03, 0xF4, 0x01, 0x1E, 0x05]) = .configureChannelB 6 3 500 30 true false true := by
  decide

theorem test_decode_trigger_channel : decodeCan 0 (can 0x5C0 [0x12, 0x03]) = .triggerChannel 2 3 := by decide

theorem test_decode_write_setting :
    decodeCan 0 (can 0x5C0 [0x14, 0x06, 0x05, 0x00]) = .writeSettingNodeNumber 4 5 := by decide

theorem test_decode_setting_code_above_7 :
    decodeCan 0 (can 0x5C0 [0x14, 0x08, 0x05, 0x00]) = .unknownRequest 0x14 := by decide

theorem test_decode_store : decodeCan 0 (can 0x5C0 [0x19]) = .store 1 := by decide

theorem test_decode_other_node_number :
    decodeCan 4 (can 0x5C5 [0x19]) = .discardedFrame (can 0x5C5 [0x19]) := by decide

theorem test_decode_request_without_kind : decodeCan 0 (can 0x5C0 []) = .discardedFrame (can 0x5C0 []) := by decide

theorem test_table_words_spell_no_command : decodeTableWord 8 0x19 = none := by decide

/-! ## The checks of section 2.8 -/

/-- The record of sensor 0x1A2B3C4D, PERIODIC, sequence 6, code 1700, temperature code 110, heard at RSSI 41. -/
def record : List Byte := [0x4D, 0x3C, 0x2B, 0x1A, 0x18, 0xA4, 0x06, 0x6E, 0x51, 41]

theorem test_telegram_check : crc8 (record.take 8) = 0x51 := by decide +kernel

theorem test_image_check_of_one_zero_byte : crc16 [0] = 0xE1F0 := by decide +kernel

theorem test_record_is_read :
    decodeRecord .front record =
      { port := .front, sid := 0x1A2B3C4D, seq := 6, rssi := 41
        telegram := { kind := .periodic, pressure := 1700, fault := false, battery := false, temp := 110 } } := by decide

/-! ## Worked examples of the spec -/

/-- 5.7.1, 5.7.2, 5.7.3 and 5.7.5, stage 3. -/
theorem test_cold_equivalents :
    coldEquivalent 1796 293 358 = { value := 1470, clamped := false } ∧
    coldEquivalent 3000 293 243 = { value := 3617, clamped := false } ∧
    coldEquivalent 4094 293 223 = { value := 4094, clamped := true } ∧
    coldEquivalent 1802 300 400 = { value := 1352, clamped := false } := by decide

/-- 5.7.1 and 5.7.7, stage 5. -/
theorem test_filter_steps :
    filterStep .periodic 1267 (some 5080) = 5077 ∧ filteredOf 5077 = 1269 ∧ filterStep .periodic 1300 none = 5200 ∧
    filterStep .periodic 1290 (some 5196) = 5187 ∧ filterStep .rapid 1150 (some 5187) = 4600 := by decide

/-- 5.7.4, the calibration at both ends and the flat tyre. -/
theorem test_calibration :
    calibrate 4090 10 = { value := 4094, clamped := true } ∧ calibrate 30 (-40) = { value := 0, clamped := true } ∧
    calibrate 205 (-4) = { value := 201, clamped := false } := by decide

/-- 5.7.6 at 1 060 s and at 1 600 s: held 60 s, and exactly 600 s. -/
theorem test_temperature_hold :
    (chooseTemp 20 255 1060000 (some { code := 110, time := 1000000 })).kelvin = 333 ∧
    (chooseTemp 20 255 1600000 (some { code := 110, time := 1000000 })).judging = none := by decide

/-- 6.6.1: the averages of intervals 1, 2 and 4. -/
theorem test_interval_records :
    intervalRecord { History.empty with sum := 12815, count := 10 } = some 1282 ∧
    intervalRecord { History.empty with sum := 12794, count := 10 } = some 1279 ∧
    intervalRecord History.empty = none := by decide

/-- 6.6.2: the estimates before the repair and at its third expiry. -/
theorem test_leak_rates :
    leakRate [some 1280, none, some 1277, some 1275, some 1272, some 1270, some 1268, some 1266] 10 = some 12 ∧
    leakRate [some 1275, some 1272, some 1270, some 1268, some 1266, some 1265, some 1265, some 1265] 10 = some 8 := by
  decide

/-- 7.9.1: readings 2, 7 and 9 against low 1170, critical 975, high 1560 and H 26. -/
theorem test_slow_fall :
    let cache : Cache := { Cache.unconfigured with checks := true, low := 1170, critical := 975, high := 1560, band := 26 }
    (judgeLevel cache .periodic 1168 Cond.clear).pendingLevel = some .low ∧
    (judgeLevel cache .periodic 1190 { Cond.clear with level := .low }).pendingLevel = none ∧
    (judgeLevel cache .periodic 1198 { Cond.clear with level := .low, pendingLevel := some .normal }).level = .normal := by
  decide

/-- 8.12.1: both orders from offset 5 of a block of 8. -/
theorem test_visiting_orders :
    (List.range 8).map (visitOffset .sequential 5 8) = [5, 6, 7, 0, 1, 2, 3, 4] ∧
    (List.range 8).map (visitOffset .interleaved 5 8) = [5, 4, 7, 6, 1, 0, 3, 2] := by decide

/-- 9.9.2: the watch block 4 to 7; R148: the block of 4 from 30 on, and a block length of 0. -/
theorem test_watch_block :
    let k : ChanConfig := { ChanConfig.default with start := 4, blockLen := 4 }
    watches k 6 = true ∧ watches k 9 = false ∧ watches k 3 = false ∧
    (List.finRange 32).filter (watches { k with start := 30 }) = [0, 1, 30, 31] ∧
    ∀ p : Pos, watches { k with blockLen := 0 } p = true := by decide

/-- The bytes of two frames by 12.4 and R176: an END frame of channel 2, and STORE FAILED. -/
theorem test_frame_bytes :
    bodyBytes (.endFrame 2) = [0xC0, 0, 0, 0, 0, 0, 0, 0] ∧
    bodyBytes (.long 0x1C [fld 1 1]) = [0x3C, 0, 0, 0, 0, 0, 0, 0] := by decide

/-! ## Small states -/

/-- A position fitted and UNBOUND. -/
def fit (p : Pos) (s : State) : State :=
  { s with
    content := { s.content with geometry := put s.content.geometry p { fitted := true, cls := 0 } }
    pos := put s.pos p { PosRec.vacant with state := .unbound } }

/-- An entry of set 0 or 1 written for a position, which is fitted and has the given record. -/
def bindAt (e : EntryNo) (sid : SensorId) (p : Pos) (r : PosRec) (s : State) : State :=
  let s := fit p s
  let entry : Entry := { valid := true, sid := sid, set := (if p.val < 16 then 0 else 1), pos := p, offset := 0 }
  { s with
    content := { s.content with sensors := put s.content.sensors e entry }
    pos := put s.pos p { r with bound := some e } }

/-- A WAITING record. -/
def waiting : PosRec := { PosRec.vacant with state := .waiting }

/-- A LIVE record, heard at 9 000 ms, with TWIN active. -/
def live : PosRec :=
  { PosRec.vacant with
    state := .live, lastTime := some 9000, lastKind := some .periodic, acc := some 4000, filtered := some 1000
    temp := some 70, cold := some 1000, hot := some 1040, readings := 1
    history := { History.empty with expiry := some 609000, sum := 1000, count := 1 }
    cond := { Cond.clear with active := { CondSet.none with twin := true } } }

/-- A telegram of kind LEARN. -/
def learn : Telegram := { kind := .learn, pressure := 1200, fault := false, battery := false, temp := 70 }

/-- A duplicate entry of a sensor, flagged. -/
def burst (sid : SensorId) (first : Nat) : DupEntry :=
  { sid := sid, seq := 2, firstArrival := first, telegram := learn, front := some 30, rear := none, flagged := true }

/-- A stranger heard a number of times, while moving each time. -/
def stranger (sid : SensorId) (heard : Nat) : Stranger :=
  { sid := sid, first := 100, last := 9000, heard := heard, moving := heard, front := some 30, rear := none
    reported := false }

/-- Evidence of a sensor, of kind LEARN. -/
def evidence (sid : SensorId) : Evidence := { sid := sid, seq := 2, front := some 30, rear := none, telegram := learn }

/-- A frame of a class, entered at a time. -/
def frame (cls : FrameClass) (entry : Nat) : Frame :=
  { cls := cls, entry := entry, body := .endFrame 0, offered := none, awaited := none }

/-- The queue with the given frames, the link not bus-off. -/
def queued (fs : List Frame) (s : State) : State := { s with tx := { TxQueue.empty with frames := fs } }

/-- An open TRAILER walk over 16 to 19 for set 1, at its first step. -/
def walk16 : OpenWalk :=
  { target := 1, blockStart := 16, length := 4, order := .sequential, start := 0, step := 0, current := 16
    window := 120, expiry := 120000 }

/-- A state with every block at work: positions 0 and 1 LIVE partners with TWIN, 16 WAITING under an open TRAILER walk,
a stranger, a burst, frames of two classes of which one is offered, channel 0 ARMED, and a sync character waiting. -/
def busy : State :=
  let s := bindAt 2 0x33 16 waiting (bindAt 1 0x22 1 live (bindAt 0 0x11 0 live State.reset))
  { s with
    time := 10000
    dup := { s.dup with entries := [burst 0x99 9000] }
    strangers := { s.strangers with entries := [stranger 0x99 3] }
    vehicle := { s.vehicle with set := 1, staleDue := some 12000 }
    trailerWalk := { WalkSlot.closed with walk := some walk16 }
    chan := put s.chan 0 { ChanRun.idle with state := .armed, remaining := 1, blockRem := 32 }
    tx := { TxQueue.empty with frames := [{ frame .alert 9900 with offered := some 0x3A0 }, frame .service 9900] }
    pending := [.characterTaken .front 0xE5] }

/-- The state after reset with nothing in the queue, ten seconds on. -/
def quiet : State := { queued [] State.reset with time := 10000, vehicle := { Vehicle.reset with staleDue := some 12000 } }

/-- A state with a position bound to entry 0, at record r. -/
def oneBound (p : Pos) (r : PosRec) : State := bindAt 0 0x11 p r quiet

/-- Axle 0 liftable and lifted, with a pending level at its position 0. -/
def lifted0 : State :=
  let s := oneBound 0 { live with cond := { Cond.clear with pendingLevel := some .low } }
  { s with
    content := { s.content with axles := put s.content.axles 0 { near := .either, margin := 0, liftable := true } }
    vehicle := { s.vehicle with lift := 1 } }

/-- Whether an outcome is a next state that passes a test. -/
def answersWith (o : Result) (test : State → Bool) : Bool :=
  match o with
  | .next t => test t
  | .fault _ => false
  | .refused _ => false

/-! ## Witnesses: the machine -/

theorem witness_IdleStepTakesWhatIsDue :
    (State.reset.pending = [] ∧ dueEvents State.reset ≠ []) ∧ (quiet.pending = [] ∧ dueEvents quiet = []) := by
  decide +kernel

/-- A reply that is placed, one that a full queue of ALERT frames refuses, and the reply of a pending restart offered;
and a state where start-up is due. -/
theorem witness_RestartIsPowerOn :
    let pending : State → State := fun s => { s with mgmt := { s.mgmt with restartPending := true } }
    let full := queued (List.replicate 24 (frame .alert 9000)) quiet
    let f := { frame .service 9000 with offered := some 0x5D0, awaited := some .restart }
    Served lockStore State.reset ∧ (offerFrame (frame .service 0) State.reset.tx).placed = true ∧
    Served lockStore full ∧ (offerFrame (frame .service 0) full.tx).placed = false ∧
    (let s := pending (queued [frame .alert 9900, f, frame .report 9000] quiet)
     s.mgmt.restartPending = true ∧ s.tx.frames = [frame .alert 9900] ++ f :: [frame .report 9000] ∧
     f.offered.isSome = true ∧
     ∀ g ∈ [frame .alert 9900] ++ [frame .report 9000], g.offered = none ∧ g.awaited ≠ some .restart) ∧
    (let s := pending quiet
     s.mgmt.restartPending = true ∧ ∀ f ∈ s.tx.frames, f.awaited ≠ some .restart) := by
  unfold Served
  decide +kernel

/-- The start-up begins within the step that makes it due (R170): where the queue refuses the reply to RESTART, and where
the link reports it sent; the report of a frame ahead of it leaves the restart pending. -/
theorem test_restart_begins_at_once :
    let pending : List Frame → State := fun fs =>
      { queued fs quiet with mgmt := { quiet.mgmt with restartPending := true } }
    let awaited := { frame .service 9000 with awaited := some .restart }
    let started : State → Bool := fun t => t.time == 0 && !t.mgmt.restartPending && t.tx.frames.length == 1
    answersWith (exec (.restart 1) (queued (List.replicate 24 (frame .alert 9000)) quiet)) started = true ∧
    answersWith (exec (.frameSent .grantFirst) (pending [{ awaited with offered := some 0x5D0 }])) started = true ∧
    answersWith (exec (.frameSent .grantFirst) (pending [{ frame .alert 9000 with offered := some 0x3A0 }, awaited]))
      (fun t => t.time == 10000 && t.mgmt.restartPending && t.tx.frames.length == 1) = true := by decide +kernel

theorem witness_CommandsKeepQueueAndTime :
    Instr.busOff ≠ .powerOn ∧ Instr.busOff ≠ .restartStartUp ∧ (∀ len, Instr.busOff ≠ .restart len) ∧
    ∀ race, Instr.busOff ≠ .frameSent race := by
  refine ⟨by decide, by decide, ?_, ?_⟩ <;> intro _ h <;> cases h

/-- Nothing is due in `quiet`, and none of the times of `busy` has come one ms early. -/
theorem witness_NothingHappensBeforeItsTime :
    (¬IsDue quiet (.idleTimerExpiry .front) ∧ ¬IsDue quiet .duplicateWindowExpiry ∧ ¬IsDue quiet .strangerAgeOut ∧
      ¬IsDue quiet .stalenessExpiry ∧ ¬IsDue quiet (.silenceExpiry 0) ∧ ¬IsDue quiet (.intervalExpiry 31) ∧
      ¬IsDue quiet (.repeatTimerExpiry 0) ∧ ¬IsDue quiet (.walkWindowExpiry .trailer) ∧
      ¬IsDue quiet (.periodTimerExpiry 3) ∧ ¬IsDue quiet .channelGrant ∧ ¬IsDue quiet (.queueTakesHead .grantFirst) ∧
      ¬IsDue quiet .nodeNumberInForce ∧ ¬IsDue quiet .restartStartUp) ∧
    ((∀ f ∈ quiet.tx.frames, f.offered = none) ∧ quiet.tx.busOff = false ∧ quiet.store.job = none) := by
  refine ⟨⟨?_, ?_, ?_, ?_, ?_, ?_, ?_, ?_, ?_, ?_, ?_, ?_, ?_⟩, by decide +kernel⟩
  · rintro ⟨_, _, _, h, _⟩; cases h
  · rintro ⟨_, _, h, _⟩; cases h
  · rintro ⟨_, _, h, _⟩; cases h
  · rintro ⟨_, _, h, l⟩; cases h; exact absurd l (by decide +kernel)
  · rintro ⟨h, _⟩; exact absurd h (by decide +kernel)
  · rintro ⟨_, h, _⟩; exact absurd h (fun e => by cases (show none = some _ from (by decide +kernel :
      (posRec quiet 31).history.expiry = none).symm.trans e))
  · rintro ⟨_, h, _⟩; exact absurd h (fun e => by cases (show none = some _ from (by decide +kernel :
      (posRec quiet 0).cond.repeatDue = none).symm.trans e))
  · rintro ⟨_, h, _⟩; cases h
  · rintro ⟨_, h, _⟩; exact absurd h (fun e => by cases (show none = some _ from (by decide +kernel :
      (chanRun quiet 3).due = none).symm.trans e))
  · rintro ⟨_, h⟩; exact absurd h (by decide +kernel)
  · rintro ⟨h, _⟩; exact absurd rfl h
  · rintro ⟨h, _⟩; exact absurd rfl h
  · rintro ⟨h, _⟩; cases h

/-- The events of a list, by whether they are due: a duplicate window at 2000 ms and one ms before, a stranger at 600 s and
one ms before, a silence at the timeout of 420 s and one ms short of it, and an idle timer. -/
theorem test_due_at_the_boundary :
    let dup : Nat → State := fun time => { quiet with time := time, dup := { quiet.dup with entries := [burst 0x99 9000] } }
    let heard : Nat → State := fun time =>
      { quiet with time := time, strangers := { quiet.strangers with entries := [stranger 0x99 3] } }
    let silent : Nat → State := fun n => oneBound 31 { waiting with silence := n }
    let collecting : Nat → State := fun due =>
      { quiet with rearPort := { quiet.rearPort with framing := .collecting [] true due } }
    .duplicateWindowExpiry ∈ dueEvents (dup 11000) ∧ .duplicateWindowExpiry ∉ dueEvents (dup 10999) ∧
    .strangerAgeOut ∈ dueEvents (heard 609000) ∧ .strangerAgeOut ∉ dueEvents (heard 608999) ∧
    .silenceExpiry 31 ∈ dueEvents (silent 420000) ∧ .silenceExpiry 31 ∉ dueEvents (silent 419999) ∧
    .idleTimerExpiry .rear ∈ dueEvents (collecting 10000) ∧ .idleTimerExpiry .rear ∉ dueEvents (collecting 10001) := by
  decide +kernel

/-! ## Witnesses: chapters 1 and 2 -/

/-- HUNTING, and COLLECTING with no byte, with nine bytes and with an escape pending, its idle timer run out. -/
theorem witness_CharacterIsFramed :
    (portState quiet .front).framing = .hunting ∧
    (let s := modPort .front (fun x => { x with framing := .collecting [] false 10000 }) quiet
     (portState s .front).framing = .collecting [] false 10000 ∧ 10000 ≤ s.time) ∧
    (let s := modPort .rear (fun x => { x with framing := .collecting (record.take 9) true 10005 }) quiet
     (portState s .rear).framing = .collecting (record.take 9) true 10005 ∧ (record.take 9).length ≤ 9) := by
  decide +kernel

theorem witness_CompleteRecordIsJudged :
    let s := modPort .front (fun x => { x with framing := .collecting (record.take 9) false 10005 }) quiet
    (portState s .front).framing = .collecting (record.take 9) false 10005 ∧ (record.take 9).length = 9 ∧
    (41 : Byte) ≠ 0xE5 ∧ (41 : Byte) ≠ 0xE6 ∧ record.take 9 ++ [41] = record ∧
    (let e := modPort .front (fun x => { x with framing := .collecting (record.take 9) true 10005 }) quiet
     (portState e .front).framing = .collecting (record.take 9) true 10005) ∧
    (crc8 ((record.take 9 ++ [0xE5]).take 8) = recordByte (record.take 9 ++ [0xE5]) 8) ∧
    (crc8 (record.take 8) = recordByte record 8 ∧ recordId record ≠ 0 ∧ recordId record ≠ 0xFFFFFFFF) ∧
    ¬(crc8 ((0 :: record.drop 1).take 8) = recordByte (0 :: record.drop 1) 8) := by decide +kernel

/-- A copy of the burst of 1.4.2. -/
def copyOf (sid : SensorId) : Copy := { port := .rear, sid := sid, seq := 2, rssi := 15, telegram := learn }

theorem witness_CopyIsMerged : ∃ e ∈ busy.dup.entries, e.sid = (copyOf 0x99).sid ∧ e.seq = (copyOf 0x99).seq :=
  ⟨burst 0x99 9000, by decide +kernel, rfl, rfl⟩

/-- A full duplicate list whose head is not flagged. -/
def fullDup : State :=
  let others := (List.range 15).map (fun i => burst (BitVec.ofNat 32 (0x60 + i)) 9000)
  { quiet with dup := { quiet.dup with entries := { burst 0x50 9000 with flagged := false } :: others } }

/-- The full list with its head flagged. -/
def fullFlagged : State :=
  { fullDup with dup := { fullDup.dup with entries := burst 0x50 9000 :: fullDup.dup.entries.drop 1 } }

/-- A list with room; a full one with a head that is not flagged, and one with a head that is. -/
theorem witness_FirstCopyOfUnknownSensor :
    ((∀ e ∈ busy.dup.entries, ¬(e.sid = (copyOf 0x98).sid ∧ e.seq = (copyOf 0x98).seq)) ∧ findId busy 0x98 = none ∧
      busy.dup.entries.length < 16) ∧
    ((∀ e ∈ fullDup.dup.entries, ¬(e.sid = (copyOf 0x98).sid ∧ e.seq = (copyOf 0x98).seq)) ∧
      findId fullDup 0x98 = none ∧ 16 ≤ fullDup.dup.entries.length ∧ (fullDup.dup.entries.drop 1).length = 15 ∧
      fullDup.dup.entries = { burst 0x50 9000 with flagged := false } :: fullDup.dup.entries.drop 1) ∧
    ((∀ e ∈ fullFlagged.dup.entries, ¬(e.sid = (copyOf 0x98).sid ∧ e.seq = (copyOf 0x98).seq)) ∧
      (fullFlagged.dup.entries.drop 1).length = 15 ∧
      fullFlagged.dup.entries = burst 0x50 9000 :: fullFlagged.dup.entries.drop 1 ∧
      (burst 0x50 9000).flagged = true) := by decide +kernel

/-- Lookups of a known sensor: of a set that is not attached, of set 0 and of the attached set; accepted 9 999 ms and
10 000 ms ago under the same sequence; at a VACANT position and at one that is not. -/
theorem witness_AcceptedTelegramIsRead :
    let accepted : Nat → State := fun time =>
      { busy with table := { busy.table with accepted := put busy.table.accepted 0 (some { seq := 2, time := time }) } }
    let late : State → Prop := fun s => ∃ a, pick s.table.accepted 0 = some a ∧ a.seq = (copyOf 0x11).seq ∧
      s.time < a.time + 10000
    let away := { busy with vehicle := { busy.vehicle with set := 3 } }
    (∀ x ∈ busy.dup.entries, ¬(x.sid = (copyOf 0x11).sid ∧ x.seq = (copyOf 0x11).seq)) ∧
    (∀ x ∈ busy.dup.entries, ¬(x.sid = (copyOf 0x33).sid ∧ x.seq = (copyOf 0x33).seq)) ∧
    busy.dup.entries.length < 16 ∧ findId busy 0x11 = some 0 ∧ findId busy 0x33 = some 2 ∧
    (entryAt busy 0).set = 0 ∧ (entryAt busy 2).set = busy.vehicle.set ∧
    findId away 0x33 = some 2 ∧ ¬((entryAt away 2).set = 0 ∨ (entryAt away 2).set = away.vehicle.set) ∧
    late (accepted 1) ∧ ¬late (accepted 0) ∧ (posRec busy (entryAt busy 0).pos).state ≠ .vacant ∧
    (posRec { busy with pos := put busy.pos 0 PosRec.vacant } (entryAt busy 0).pos).state = .vacant := by
  refine ⟨by decide +kernel, by decide +kernel, by decide +kernel, by decide +kernel, by decide +kernel,
    by decide +kernel, by decide +kernel, by decide +kernel, by decide +kernel,
    ⟨{ seq := 2, time := 1 }, by decide +kernel, by decide +kernel, by decide +kernel⟩, ?_, by decide +kernel,
    by decide +kernel⟩
  rintro ⟨a, h, _, l⟩
  cases h
  exact absurd l (by decide +kernel)

theorem witness_ListHeadsExpire :
    (let s := { busy with time := 11000 }
     s.dup.entries = [burst 0x99 9000] ∧ (burst 0x99 9000).firstArrival + 2000 ≤ s.time ∧
     (burst 0x99 9000).flagged = true) ∧
    (fullDup.dup.entries = { burst 0x50 9000 with flagged := false } :: fullDup.dup.entries.drop 1 ∧
     { burst 0x50 9000 with flagged := false }.firstArrival + 2000 ≤ { fullDup with time := 11000 }.time) ∧
    (let s := { busy with time := 609000 }
     s.strangers.entries = [stranger 0x99 3] ∧ (stranger 0x99 3).last + 600000 ≤ s.time) := by decide +kernel

/-- A full stranger list. -/
def fullStrangers : State :=
  { quiet with strangers :=
      { quiet.strangers with entries := (List.range 16).map (fun i => stranger (BitVec.ofNat 32 (0x60 + i)) (9 - i % 8)) } }

/-- An open TRUCK walk over positions 0 to 3, at its first step. -/
def walk0 : OpenWalk := { walk16 with target := 0, blockStart := 0, current := 0 }

/-- Both walks open, the axle of position 0 nearer the front port by a margin of 5, that of position 16 nearer the rear. -/
def bothWalks : State :=
  { busy with
    truckWalk := { WalkSlot.closed with walk := some walk0 }
    content := { busy.content with
      axles := put (put busy.content.axles 0 { near := .front, margin := 5, liftable := false }) 4
        { near := .rear, margin := 5, liftable := false } } }

/-- An ID not listed, with room and without; an ID listed whose moving count reaches 8, and one whose does not. -/
theorem witness_EvidenceReachesTheStrangerList :
    ((∀ x ∈ busy.strangers.entries, x.sid ≠ (evidence 0x98).sid) ∧ busy.strangers.entries.length < 16) ∧
    ((∀ x ∈ fullStrangers.strangers.entries, x.sid ≠ (evidence 0x98).sid) ∧
      16 ≤ fullStrangers.strangers.entries.length) ∧
    (busy.strangers.entries = [] ++ stranger 0x99 3 :: [] ∧ (stranger 0x99 3).sid = (evidence 0x99).sid) ∧
    (let s := { busy with strangers := { busy.strangers with entries := [stranger 0x99 7] } }
     s.strangers.entries = [] ++ stranger 0x99 7 :: [] ∧ s.vehicle.motion = .moving ∧
     (stranger 0x99 7).reported = false) := by decide +kernel

/-- Evidence not judged: of another kind, and the repeat of a walk's last binding. No walk open; one open, to which the
evidence is plausible whatever its RSSI; both open, at one of which it is plausible, at both and at neither. A near RSSI
that the far one passes by exactly the margin is plausible, and one more is not. -/
theorem witness_EvidenceReachesTheStrangerList_walks :
    let near : Option Nat → Option Nat → Nat → Prop := fun n far margin =>
      ∃ v, n = some v ∧ ∀ x, far = some x → x ≤ v + margin
    let repeats : WalkSlot → Prop := fun slot => slot.walk.isSome = true ∧ slot.lastBound = some (0x98, 2)
    (({ learn with kind := .motion } : Telegram).kind ≠ .learn ∧
      repeats { WalkSlot.closed with walk := some walk0, lastBound := some (0x98, 2) }) ∧
    (quiet.truckWalk.walk = none ∧ quiet.trailerWalk.walk = none) ∧
    ((evidence 0x98).telegram.kind = .learn ∧ ¬repeats busy.truckWalk ∧ ¬repeats busy.trailerWalk ∧
      (walkSlot busy .trailer).walk = some walk16 ∧ (walkSlot busy .truck).walk = none ∧
      (pick busy.content.axles (axleOf walk16.current)).near = .either ∧
      (pick bothWalks.content.axles (axleOf walk16.current)).near = .rear ∧
      (evidence 0x98).rear = none) ∧
    (bothWalks.truckWalk.walk = some walk0 ∧ bothWalks.trailerWalk.walk = some walk16 ∧
      (pick bothWalks.content.axles (axleOf walk0.current)).near = .front ∧
      (pick bothWalks.content.axles (axleOf walk0.current)).margin = 5 ∧
      near (some 30) none 5 ∧ near (some 30) (some 35) 5 ∧ ¬near (some 30) (some 36) 5 ∧ ¬near none (some 30) 5) := by
  refine ⟨by decide +kernel, by decide +kernel, by decide +kernel, by decide +kernel, by decide +kernel,
    by decide +kernel, by decide +kernel, ⟨30, rfl, ?_⟩, ⟨30, rfl, ?_⟩, ?_, ?_⟩
  · intro x h; cases h
  · intro x h; cases h; decide
  · rintro ⟨v, h, l⟩; cases h; exact absurd (l 36 rfl) (by decide)
  · rintro ⟨v, h, _⟩; cases h

/-- A write that clashes, one that does not to a FREE entry for an UNBOUND position, and entries to clear. -/
theorem witness_SensorEntriesAreWritten :
    Served lockSensors busy ∧ entryArg 47 = some 47 ∧ entryArg 0 = some 0 ∧
    sensorArg 0x11 5 0 0 = some { valid := true, sid := 0x11, set := 0, pos := 5, offset := 0 } ∧
    (∃ i : EntryNo, i ≠ 47 ∧ (entryAt busy i).valid = true ∧ (entryAt busy i).sid = 0x11) ∧
    sensorArg 0x77 5 0 63 = some { valid := true, sid := 0x77, set := 0, pos := 5, offset := 63 } ∧
    (¬∃ i : EntryNo, i ≠ 47 ∧ (entryAt busy i).valid = true ∧
      ((entryAt busy i).sid = 0x77 ∨ ((entryAt busy i).set = 0 ∧ (entryAt busy i).pos = 5))) ∧
    (entryAt (fit 5 busy) 47).valid = false ∧ isActive (fit 5 busy) 0 = true ∧
    (posRec (fit 5 busy) 5).state = .unbound ∧
    (entryAt busy 0).valid = true ∧ isActive busy (entryAt busy 0).set = true ∧
    hasBinding (posRec busy (entryAt busy 0).pos).state = true := by
  unfold Served
  decide +kernel

/-- Writes onto the valid entry 0: for its place under its ID, for its place under another, and for another place. -/
theorem witness_SensorEntriesAreWritten_rewritten :
    let clash : Entry → Prop := fun new => ∃ i : EntryNo, i ≠ 0 ∧ (entryAt busy i).valid = true ∧
      ((entryAt busy i).sid = new.sid ∨ ((entryAt busy i).set = new.set ∧ (entryAt busy i).pos = new.pos))
    sensorArg 0x11 0 0 (-64) = some { valid := true, sid := 0x11, set := 0, pos := 0, offset := -64 } ∧
    ¬clash { valid := true, sid := 0x11, set := 0, pos := 0, offset := -64 } ∧
    sensorArg 0x77 0 0 0 = some { valid := true, sid := 0x77, set := 0, pos := 0, offset := 0 } ∧
    ¬clash { valid := true, sid := 0x77, set := 0, pos := 0, offset := 0 } ∧
    sensorArg 0x11 5 0 0 = some { valid := true, sid := 0x11, set := 0, pos := 5, offset := 0 } ∧
    ¬clash { valid := true, sid := 0x11, set := 0, pos := 5, offset := 0 } ∧
    (entryAt busy 0).valid = true ∧ (entryAt busy 0).sid = 0x11 ∧ (entryAt busy 0).set = 0 ∧
    (entryAt busy 0).pos = 0 ∧ isActive busy 0 = true ∧ hasBinding (posRec busy 0).state = true := by decide +kernel

/-! ## Witnesses: chapters 3 and 4 -/

/-- A frame with set 1, which is attached already, and one with set 2; a position that is not fitted. -/
theorem witness_VehicleFrameIsInForce :
    answersWith (exec (.vehicleCondition 6 1 0 203 0 1) busy) (fun t => t.vehicle.set = busy.vehicle.set) = true ∧
    answersWith (exec (.vehicleCondition 6 1 0 203 0 2) busy) (fun t => t.vehicle.set ≠ busy.vehicle.set) = true ∧
    (15 : Pos).val < 16 ∧ (geometry busy 31).fitted = false ∧ (posRec busy 31).state = .vacant := by
  decide +kernel

/-- A position that has counted its 420 s, WAITING and not yet SILENT: STATIONARY, taken first, leaves it one ms short and
with no expiry, by R64; a frame that stays MOVING leaves the expiry due. -/
theorem test_stop_just_short_of_the_timeout :
    let s := oneBound 0 { waiting with silence := 420000 }
    let frame_ : Byte → Instr := fun motion => .vehicleCondition 6 0 motion 203 0 0
    answersWith (exec (frame_ 0) s) (fun t => (posRec t 0).silence == 419999 && (posRec t 0).state == .waiting) = true ∧
    answersWith (exec (frame_ 1) s) (fun t => (posRec t 0).silence == 420000 && silenceDue t 0) = true := by
  decide +kernel

theorem witness_DiscardedFramesDoNothing :
    (0 ≠ 6 ∧ 5 ≠ 6 ∧ 8 ≠ 6) ∧ (1 ≠ 2 ∧ 32 ≤ (32 : Byte).toNat ∧ 7 ≤ (7 : Byte).toNat) ∧
    ({ can 0x0A0 [] with remote := true }.remote = true ∧ { can 0x0A0 [] with extended := true }.extended = true) ∧
    ((can 0x3B4 [0, 0]).ident.toNat ≠ 0x0A0 ∧ (can 0x3B4 [0, 0]).ident.toNat ≠ 0x3B0 + 5 ∧
      (can 0x3B4 [0, 0]).ident.toNat ≠ 0x5C0 + 5) ∧
    ((can 0x5CF []).ident.toNat = 0x5C0 + 15 ∧ (can 0x5CF []).data = []) ∧
    (neverTaken (can 0x5D0 [0x19]) = true ∧ neverTaken (can 0x3AF [0, 0]) = true ∧
      neverTaken (can 0x5CF [0x19]) = false) := by decide

theorem witness_StalenessExpires :
    let s := { quiet with time := 12000 }
    s.vehicle.stale = false ∧ s.vehicle.staleDue = some 12000 ∧ 12000 ≤ s.time := by decide +kernel

/-- Set 2 attached in place of set 1, with a bound, an unbound and a VACANT trailer position and an open walk. -/
theorem witness_TrailerSetChangeRederives :
    let s := fit 17 busy
    (2 : Byte).toNat ≤ 3 ∧ (2 : Byte).toNat ≠ s.vehicle.set.val ∧ 16 ≤ (16 : Pos).val ∧
    hasBinding (posRec s 16).state = true ∧ (posRec s 17).state = .unbound ∧
    (posRec s (mateOf 17)).cond.active.twin = false ∧ (posRec s 31).state = .vacant ∧
    (15 : Pos).val < 16 ∧ s.trailerWalk.walk.isSome = true := by decide +kernel

theorem witness_SilenceExpires :
    let s := oneBound 0 { live with silence := 420000 }
    (posRec s 0).state = .live ∧ s.vehicle.motion = .moving ∧ lifted s 0 = false ∧
    s.content.settings.silenceTimeout * 1000 ≤ (posRec s 0).silence ∧
    (let x := oneBound 0 { waiting with silence := 420000 }
     (posRec x 0).cond.active.silent = false ∧ (posRec x 0).cond.active.twin = false ∧
     s.content.settings.silenceTimeout * 1000 ≤ (posRec x 0).silence ∧
     ∀ ch : ChanNo, (chanConfig x ch).trigger ≠ .alert) ∧
    (let y := fit 1 s
     (posRec y 0).state = .live ∧ (posRec y 0).cond.active.twin = true ∧ (geometry y 0).fitted = true ∧
     (geometry y (mateOf 0)).fitted = true) := by decide +kernel

/-- A walk open in the half; a position made unfit, made fit, changed in class and not changed. -/
theorem witness_PositionIsWritten :
    Served lockTables busy ∧ posArg 31 = some 31 ∧ walkOpen busy (halfOf 31) = true ∧
    posArg 0 = some 0 ∧ walkOpen busy (halfOf 0) = false ∧ (geometry busy 0).fitted = true ∧
    hasBinding (posRec busy 0).state = true ∧ posArg 5 = some 5 ∧ (geometry busy 5).fitted = false ∧
    hasBinding (posRec busy 5).state = false ∧
    (geometry busy 0).cls.val ≠ (7 : BitVec 3).toNat ∧ (geometry busy 0).cls.val = (0 : BitVec 3).toNat := by
  unfold Served
  decide +kernel

theorem witness_AxleIsWritten :
    Served lockTables busy ∧ axleArg 7 = some 7 ∧ axleArg 0 = some 0 ∧
    axleRecArg 2 40 true = some { near := .either, margin := 40, liftable := true } ∧
    walkOpen busy (if (7 : AxleNo).val < 4 then .truck else .trailer) = true ∧
    walkOpen busy (if (0 : AxleNo).val < 4 then .truck else .trailer) = false ∧
    (3 : Pos).val / 4 = (0 : AxleNo).val ∧ lifted0.vehicle.lift.getLsbD (0 : AxleNo).val = true ∧
    (pick lifted0.content.axles 0).liftable = true ∧ Served lockTables lifted0 ∧
    walkOpen lifted0 (if (0 : AxleNo).val < 4 then .truck else .trailer) = false := by
  unfold Served
  decide +kernel

/-- R43, R45: the lifted axle 0 made not liftable leaves the mask, and a position on it discards its pending level. -/
theorem test_axle_leaves_the_lift_mask :
    (posRec lifted0 0).cond.pendingLevel = some .low ∧
    answersWith (exec (.writeAxle 4 0 2 5 false) lifted0)
      (fun t => t.vehicle.lift == 0 && (posRec t 0).cond.pendingLevel == none) = true := by decide +kernel

theorem witness_PositionIsCleared :
    busy.mgmt.restartPending = false ∧ posArg 31 = some 31 ∧ hasBinding (posRec busy 31).state = false ∧
    posArg 0 = some 0 ∧ hasBinding (posRec busy 0).state = true ∧
    (let c := (posRec (oneBound 0 { live with cond := { Cond.clear with level := .low } }) 0).cond
     c.level ≠ .normal ∧ c.active.twin = false) ∧
    (let c := (posRec (oneBound 0 waiting) 0).cond
     c.level = .normal ∧ condAny c.active = false ∧ c.owed = false) := by decide +kernel

theorem witness_ReadsPlaceTheirReplies :
    busy.mgmt.restartPending = false ∧ entryArg 47 = some 47 ∧ posArg 31 = some 31 ∧ (7 : BitVec 4).toNat ≤ 7 ∧
    1 ≤ (1 : BitVec 4).toNat ∧ (8 : BitVec 4).toNat ≤ 8 ∧ halfArg 1 = some .trailer ∧ halfArg 0 = some .truck ∧
    chanArg 3 = some 3 ∧ (walkSlot busy .trailer).walk = some walk16 ∧ (walkSlot busy .truck).walk = none ∧
    (8 ≤ 8 ∧ 3 * 2 < (historyPlaces 8 7 8).length) ∧ 5 < 6 := by decide +kernel

/-- Replies of `busy` by 12.5.1 and 12.5.2: entry 2, valid and of set 1, with no acceptance; and position 1, cold 1000. -/
theorem test_reply_bytes :
    bodyBytes (sensorEntryReply busy 2) = [0x63, 0x06, 0x00, 0x00, 0x00, 0x0A, 0x00, 0x00] ∧
    bodyBytes (positionReplyB busy 1) = [0x66, 0x40, 0x1F, 0x08, 0x42, 0x1F, 0x23, 0x00] := by decide +kernel

/-! ## Witnesses: chapters 5 and 6 -/

theorem witness_ColdEquivalentIsNearest :
    0 < 358 ∧ (coldEquivalent 1796 293 358).clamped = false ∧ (coldEquivalent 4094 293 223).clamped = true ∧
    (293 = 293 ∧ 4094 ≤ 4094) := by decide

theorem witness_FilterSettles :
    TelKind.periodic ≠ .rapid ∧ 4094 ≤ 4094 ∧ 16376 ≤ 16376 ∧ (4 * 1000 ≤ 4003 ∧ 4003 ≤ 4 * 1000 + 3) ∧ 3999 < 4 * 1000 ∧
    4 * 1000 + 3 < 4004 := by decide

/-- A pressure and none; a temperature and none, held 599 999 ms, 600 000 ms and not at all. -/
theorem witness_ReadingIsCompensated :
    (learn.pressure ≠ 4095 ∧ { learn with pressure := 4095 }.pressure = 4095) ∧
    (learn.temp ≠ 255 ∧ { learn with temp := 255 }.temp = 255) ∧ TelKind.motion ≠ .rapid ∧
    (let heldUsable : Nat → Option Held → Prop := fun time held => ∃ h, held = some h ∧ time < h.time + 600000
     heldUsable 600000 (some { code := 70, time := 1 }) ∧ ¬heldUsable 600001 (some { code := 70, time := 1 }) ∧
     ¬heldUsable 0 none) := by
  refine ⟨by decide, by decide, by decide, ⟨_, rfl, by decide⟩, ?_, ?_⟩
  · rintro ⟨h, e, l⟩; cases e; exact absurd l (by decide)
  · rintro ⟨h, e, _⟩; cases e

theorem witness_IntervalExpires :
    (posRec { busy with time := 609000 } 0).history.expiry = some 609000 ∧ 609000 ≤ { busy with time := 609000 }.time := by
  decide +kernel

/-- An interval that ends on four falling averages: LEAK raised by 60 pu/h against a limit of 10, cleared where the limit
is 0, and not raised there. -/
theorem witness_IntervalExpires_leak :
    let at_ : Nat → Bool → State := fun limit leak =>
      let r := { live with
        history := { History.empty with expiry := some 10000, ring := [some 1280, some 1270, some 1260, some 1250] }
        cond := { Cond.clear with active := { CondSet.none with leak := leak } } }
      let s := oneBound 0 r
      { s with content := { s.content with profiles := s.content.profiles.map (fun x => { x with leakLimit := limit }) } }
    let leaks : Nat → Bool → Bool → Bool := fun limit old new =>
      (posRec (at_ limit old) 0).cond.active.leak == old &&
        answersWith (exec (.intervalExpiry 0) (at_ limit old)) (fun t => (posRec t 0).cond.active.leak == new)
    leaks 10 false true = true ∧ leaks 0 true false = true ∧ leaks 0 false false = true ∧ leaks 10 true true = true ∧
    ∀ ch : ChanNo, (chanConfig (at_ 10 false) ch).trigger ≠ .alert := by decide +kernel

/-- Three averages, and four with an EMPTY record first: the places of the oldest and the newest are 1 and 4. -/
theorem witness_LeakRateIsEstimated :
    (([some 9, none, some 8, some 7] : List (Option Nat)).filter Option.isSome).length < 4 ∧
    (let ring : List (Option Nat) := [none, some 9, some 8, some 8, some 7]
     4 ≤ (ring.filter Option.isSome).length ∧ ring[1]? = some (some 9) ∧ ring[4]? = some (some 7) ∧
     ∀ k, k < 5 → (ring[k]?.join).isSome = true → 1 ≤ k ∧ k ≤ 4) := by decide

theorem witness_HistoryPlacesAreInOrder : 0 < 8 ∧ 7 < min 8 8 := by decide

/-! ## Witnesses: chapters 7 and 8 -/

theorem witness_ProfileIsWritten :
    Served lockTables busy ∧ loadArg 2 = some .tipping ∧ (4094 : BitVec 12).toNat ≤ 4094 ∧ 50 ≤ (99 : Byte).toNat ∧
    (99 : Byte).toNat ≤ 99 ∧ 30 ≤ (30 : Byte).toNat ∧ (30 : Byte).toNat < (99 : Byte).toNat ∧ 101 ≤ (150 : Byte).toNat ∧
    (150 : Byte).toNat ≤ 150 ∧ 40 ≤ (150 : Byte).toNat := by
  unfold Served
  decide +kernel

/-- At once; the level again; a new candidate; the candidate again. HOT absent and present at 60 °C and at 54 °C for a
limit of 60; BATTERY at the first, the second and the third clear reading. -/
theorem witness_LevelIsConfirmed :
    (TelKind.rapid = .rapid ∧ Level.low = .low) ∧ (TelKind.periodic ≠ .rapid ∧ Level.normal = Cond.clear.level) ∧
    (Level.low ≠ Cond.clear.level ∧ Cond.clear.pendingLevel ≠ some .low) ∧
    { Cond.clear with pendingLevel := some .low }.pendingLevel = some Level.low ∧
    ({ Cache.unconfigured with checks := true }.checks = true ∧ Cache.unconfigured.checks = false) ∧
    (60 ≠ 0 ∧ CondSet.none.hot = false ∧ (60 : Int) ≤ ((110 : Nat) : Int) - 50 ∧
      { CondSet.none with hot := true }.hot = true ∧ ((104 : Nat) : Int) - 50 < 60 - 5 ∧
      ¬(((105 : Nat) : Int) - 50 < 60 - 5)) ∧
    (CondSet.none.battery = false ∧ { CondSet.none with battery := true }.battery = true ∧ 0 < 2 ∧ 1 < 2 ∧ 2 = 2) := by
  decide

/-- Partners of 1000 pu and 940 pu with twin limits 60 and 80 and a clear band of 20: TWIN is judged, and raised exactly
at the smaller limit. A partner that is not LIVE is not judged. -/
theorem witness_LevelIsConfirmed_twin :
    let at_ : Nat → Nat → Bool → PosRec := fun limit gauge twin =>
      { live with
        cache := { live.cache with twinLimit := limit, band := 20 }, filtered := some gauge
        cond := { Cond.clear with active := { CondSet.none with twin := twin } } }
    let pair : Nat → Bool → State := fun other twin =>
      bindAt 1 0x22 1 (at_ 80 other twin) (bindAt 0 0x11 0 (at_ 60 1000 twin) quiet)
    let judged : State → Prop := fun s =>
      (geometry s 0).fitted = true ∧ (geometry s 1).fitted = true ∧ (posRec s 1).state = .live ∧
      (posRec s 0).filtered.isSome = true ∧ (posRec s 1).filtered.isSome = true
    mateOf 0 = 1 ∧ judged (pair 940 false) ∧ judged (pair 961 true) ∧ ¬judged (oneBound 0 live) ∧
    min (posRec (pair 940 false) 0).cache.twinLimit (posRec (pair 940 false) 1).cache.twinLimit = 60 ∧
    60 ≤ max 1000 940 - min 1000 940 ∧ (max 1000 961 - min 1000 961) + 20 < 60 ∧
    60 ≤ (max 1000 960 - min 1000 960) + 20 ∧
    (posRec (judgeTwin 0 (pair 940 false)) 1).cond.active.twin = true ∧
    (posRec (judgeTwin 0 (pair 941 false)) 1).cond.active.twin = false ∧
    (posRec (judgeTwin 0 (pair 961 true)) 1).cond.active.twin = false ∧
    (posRec (judgeTwin 0 (pair 960 true)) 1).cond.active.twin = true := by decide +kernel

/-- An item that is not active, one that is, and a running timer at the last item of severity 2. -/
theorem witness_AckMarksItsItem :
    posArg 0 = some 0 ∧ ackItem 2 = some (.cond .twin) ∧ ackItem 6 = some (.cond .battery) ∧
    itemActive (posRec busy 0).cond (.cond .battery) = false ∧ itemActive (posRec busy 0).cond (.cond .twin) = true ∧
    itemAcked (posRec busy 0).cond (.cond .twin) = false := by decide +kernel

theorem witness_RepeatTimerExpires :
    let s := oneBound 0 { live with cond := { live.cond with level := .low, repeatDue := some 9500, lastAlert := some 0 } }
    (posRec s 0).cond.repeatDue = some 9500 ∧ 9500 ≤ s.time ∧
    ∀ ch : ChanNo, (chanConfig s ch).trigger ≠ .alert := by decide +kernel

/-- Each reason and none, by the alert state before and after; and an event that changes position 0 alone. -/
theorem witness_RepeatTimerExpires_reasons :
    let low := { Cond.clear with level := .low }
    let hot := { Cond.clear with active := { CondSet.none with hot := true } }
    alertReason true low Cond.clear = some .reset ∧ alertReason false low Cond.clear = some .cleared ∧
    alertReason true Cond.clear hot = some .raised ∧ alertReason false hot low = some .raised ∧
    alertReason false { low with level := .critical } low = some .cleared ∧ alertReason true Cond.clear Cond.clear = none ∧
    (let before := oneBound 0 waiting
     ∀ q : Pos, q ≠ 0 → (posRec (oneBound 0 { waiting with cond := hot }) q).cond = (posRec before q).cond ∧
       q ∉ ([0] : List Pos)) := by decide +kernel

/-- An open slot, another target set, a block with its third position fitted, and a block with none. -/
theorem witness_WalkIsOpened :
    let a : WalkArgs := { start := 16, half := .trailer, order := .sequential, length := 4, target := 1, window := 0 }
    let b : WalkArgs := { start := 0, half := .truck, order := .interleaved, length := 16, target := 0, window := 600 }
    Served lockWalk busy ∧ walkArgs 16 true false 2 1 0 = some a ∧ walkArgs 0 false true 4 0 600 = some b ∧
    walkOpen busy a.half = true ∧ walkOpen busy b.half = false ∧ targetMatches busy b.half b.target = true ∧
    walkOpen quiet a.half = false ∧ targetMatches quiet a.half a.target = false ∧
    (geometry (fit 2 quiet) (visitAt { walk16 with order := .interleaved, blockStart := 0, length := 16 } 2)).fitted = true ∧
    (∀ k, k < 16 → (geometry quiet (visitAt { walk16 with blockStart := 0, length := 16 } k)).fitted = false) := by
  unfold Served
  decide +kernel

theorem witness_WalkEnds :
    busy.mgmt.restartPending = false ∧ (1 : Byte).toNat = halfCode .trailer ∧ (0 : Byte).toNat = halfCode .truck ∧
    (3 ≠ 2 ∨ 2 ≤ (0 : Byte).toNat) ∧ (2 ≠ 2 ∨ 2 ≤ (2 : Byte).toNat) ∧ (walkSlot busy .truck).walk = none ∧
    (walkSlot busy .trailer).walk.isSome = true ∧ (walkSlot busy .trailer).walk = some walk16 ∧
    walk16.expiry ≤ { busy with time := 120000 }.time := by decide +kernel

theorem witness_VisitingOrderIsComplete : (16 = 1 ∨ 16 = 2 ∨ 16 = 4 ∨ 16 = 8 ∨ 16 = 16) ∧ 15 < 16 ∧ 0 < 16 := by decide

/-- A sensor no entry holds, at a position that is UNBOUND and at one that no entry names but is bound. -/
theorem witness_NewSensorIsBound :
    let s := fit 17 busy
    findId s (evidence 0x98).sid = none ∧ findPlace s 1 17 = none ∧ findFree s = some 3 ∧
    (posRec s { walk16 with current := 17 }.current).state ≠ .vacant := by decide +kernel

theorem witness_NewSensorIsBound_rebound :
    let s := { busy with content := { busy.content with sensors := put busy.content.sensors 2 Entry.free } }
    findId s (evidence 0x98).sid = none ∧ findPlace s walk16.target walk16.current = none ∧ findFree s = some 2 ∧
    hasBinding (posRec s walk16.current).state = true := by decide +kernel

/-- A sensor of another place, MOVED, whose place is bound; the sensor of the place itself, CONFIRMED; a place whose
entry is DISPLACED, by a sensor not known and by a known one; and no entry FREE. -/
theorem witness_NewSensorIsBound_outcomes :
    let s := fit 17 (bindAt 3 0x44 19 waiting busy)
    let full : State :=
      { busy with content := { busy.content with
          sensors := Vector.ofFn (fun i =>
            { valid := true, sid := BitVec.ofNat 32 (0x100 + i.val), set := 3, pos := 18, offset := 0 }) } }
    (findId s 0x44 = some 3 ∧ findPlace s 1 17 = none ∧ (entryAt s 3).set = s.vehicle.set ∧ (entryAt s 3).pos ≠ 17 ∧
      hasBinding (posRec s (entryAt s 3).pos).state = true) ∧
    (findId s 0x33 = some 2 ∧ (entryAt s 2).set = walk16.target ∧ (entryAt s 2).pos = walk16.current) ∧
    (findId s 0x98 = none ∧ findPlace s walk16.target walk16.current = some 2 ∧ findFree (freeEntry 2 s) = some 2) ∧
    (findId s 0x44 = some 3 ∧ ¬((entryAt s 3).set = walk16.target ∧ (entryAt s 3).pos = walk16.current)) ∧
    (findId full 0x98 = none ∧ findPlace full 1 16 = none ∧ findFree full = none) ∧
    ((geometry s (visitAt walk16 1)).fitted = true ∧ (geometry busy (visitAt walk16 1)).fitted = false ∧
      (geometry busy (visitAt walk16 2)).fitted = false ∧ (geometry busy (visitAt walk16 3)).fitted = false) := by
  decide +kernel

/-! ## Witnesses: chapter 9 -/

theorem witness_ChannelIsConfigured :
    Served lockSettings busy ∧ chanArg 0 = some 0 ∧ chanArg 3 = some 3 ∧ modeArg 2 = some .block ∧
    (32 : BitVec 6).toNat ≤ 32 ∧ (255 : Byte) ≠ 0 ∧ (chanRun busy 0).state = .armed ∧ (chanRun busy 3).state = .idle := by
  unfold Served
  decide +kernel

theorem witness_ChannelStartsAndStops :
    busy.mgmt.restartPending = false ∧ chanArg 4 = none ∧ chanArg 3 = some 3 ∧ chanArg 0 = some 0 ∧
    (chanRun busy 3).state = .idle ∧ (chanRun busy 0).state = .armed := by decide +kernel

/-- Channel 0 ARMED with a count of 3, a block of two and a mode; the queue empty. -/
def armed (mode : Mode) : State :=
  { quiet with
    content := { quiet.content with
      channels := put quiet.content.channels 0 { ChanConfig.default with mode := mode, blockLen := 2, count := 3 } }
    chan := put quiet.chan 0 { ChanRun.idle with state := .armed, remaining := 3, blockRem := 2 } }

/-- Channel 3 IDLE; channel 0 WAITING with and without a pending trigger; ARMED with room and at a full queue, with
VACANT positions to pass over, and with nothing to report. -/
theorem witness_TriggerStartsWork :
    let waits := { quiet with chan := put quiet.chan 0 { ChanRun.idle with state := .waiting, pendingTrigger := true } }
    let full := queued (List.replicate 24 (frame .alert 9000)) (armed .run)
    let skips : ChanConfig := { ChanConfig.default with skipVacant := true }
    quiet.mgmt.restartPending = false ∧ chanArg 0 = some 0 ∧ (chanRun quiet 3).state = .idle ∧
    (chanRun waits 0).state = .waiting ∧ (chanRun waits 0).pendingTrigger = true ∧
    (chanRun { quiet with chan := put quiet.chan 0 { ChanRun.idle with state := .waiting } } 0).pendingTrigger = false ∧
    (chanRun (armed .run) 0).state = .armed ∧ (chanRun (armed .run) 0).pendingTrigger = false ∧
    (let pends := modChan 0 (fun r => { r with pendingTrigger := true }) (armed .run)
     (chanRun pends 0).state = .armed ∧ (chanRun pends 0).pendingTrigger = true) ∧
    1 ≤ (chanRun (armed .run) 0).remaining ∧ 1 ≤ (chanRun (armed .run) 0).blockRem ∧
    (reply 0x12 .done (armed .run)).tx.frames.length < 24 ∧ 24 ≤ (reply 0x12 .done full).tx.frames.length ∧
    (seekPosition (armed .run) (chanConfig (armed .run) 0) 32 0).found = true ∧
    (∀ i, i < 32 → (posRec quiet (Nat.repeat (stepPointer skips.step) i 0)).state = .vacant) ∧
    (seekPosition quiet skips 32 0).found = false ∧
    (¬((posRec (oneBound 5 live) 5).state = .vacant) ∧ (seekPosition (oneBound 5 live) skips 32 3).pointer = 5) := by
  decide +kernel

/-- The count of 3 of a channel: its RUN places the three frames and the END frame and ends; its BLOCK the two of the
block; with a queue that has 2 slots left behind the reply, RUN waits after the second frame. -/
theorem test_trigger_jobs :
    let after : State → State := fun s =>
      match exec (.triggerChannel 2 0) s with
      | .next t => t
      | .fault _ => s
      | .refused _ => s
    let crowded := queued (List.replicate 21 (frame .alert 9000)) (armed .run)
    (after (armed .run)).tx.frames.length = 5 ∧ (chanRun (after (armed .run)) 0).state = .ended ∧
    (after (armed .block)).tx.frames.length = 3 ∧ (chanRun (after (armed .block)) 0).state = .armed ∧
    (after crowded).tx.frames.length = 24 ∧ (chanRun (after crowded) 0).state = .waiting ∧
    (chanRun (after crowded) 0).remaining = 1 := by decide +kernel

/-- A SAMPLE channel that watches position 5 places its frame at a reading there (R61 step 6), and not at one of position
4; an ALERT channel places two for the frames of two positions in its watch block. -/
theorem test_channels_told_of_an_event :
    let told : Trigger → State := fun trigger =>
      let k : ChanConfig := { ChanConfig.default with trigger := trigger, start := 5, blockLen := 2, count := 9 }
      { quiet with
        content := { quiet.content with channels := put quiet.content.channels 2 k }
        chan := put quiet.chan 2 { ChanRun.idle with state := .armed, remaining := 9, blockRem := 2 } }
    (tellChannels [] (some 5) (told .sample)).tx.frames.length = 1 ∧
    (tellChannels [] (some 4) (told .sample)).tx.frames.length = 0 ∧
    (tellChannels [4, 5, 6] (some 5) (told .alert)).tx.frames.length = 2 ∧
    (tellChannels [5] (some 5) (told .request)).tx.frames.length = 0 := by decide +kernel

/-- A period timer due at a WAITING channel, and one free slot with that channel the lowest WAITING one; the same with a
pending trigger, with nothing it may report, and with its count out. -/
theorem witness_PeriodAndGrant :
    let grant : ChanConfig → ChanRun → State := fun k r =>
      { queued (List.replicate 23 (frame .service 9000)) quiet with
        content := { quiet.content with channels := put quiet.content.channels 1 k }
        chan := put quiet.chan 1 { r with state := .waiting, job := true, due := some 10000 } }
    let timed : ChanConfig := { ChanConfig.default with trigger := .period }
    let s := grant timed { ChanRun.idle with remaining := 2 }
    (chanRun s 1).due = some 10000 ∧ 10000 ≤ s.time ∧ (chanRun s 1).state = .waiting ∧
    (chanConfig s 1).trigger = .period ∧ s.tx.frames.length = 23 ∧
    (∀ d : ChanNo, d.val < (1 : ChanNo).val → (chanRun s d).state ≠ .waiting) ∧ (chanRun s 1).remaining ≠ 0 ∧
    (chanConfig s 1).skipVacant = false ∧ (chanRun s 1).pendingTrigger = false ∧
    (seekPosition s (chanConfig s 1) 32 (chanRun s 1).pointer).found = true ∧
    (chanRun (grant timed { ChanRun.idle with remaining := 2, pendingTrigger := true }) 1).pendingTrigger = true ∧
    (let k : ChanConfig := { timed with skipVacant := true }
     (seekPosition (grant k { ChanRun.idle with remaining := 2 }) k 32 0).found = false) ∧
    (chanRun (grant timed ChanRun.idle) 1).remaining = 0 ∧ (chanRun s 1).job = true ∧
    (queued (List.replicate 20 (frame .service 9000)) s).tx.frames.length < 24 ∧
    (24 ≤ (queued (List.replicate 24 (frame .service 9000)) s).tx.frames.length ∧
      ∀ d : ChanNo, (chanRun quiet d).state ≠ .waiting) := by decide +kernel

/-- R153: at its last frame of a job a WAITING channel with a pending trigger starts the next job, which waits. -/
theorem test_pending_trigger_starts_at_the_grant :
    let s := queued (List.replicate 23 (frame .service 9000)) (armed .single)
    answersWith (exec .channelGrant
        (modChan 0 (fun r => { r with state := .waiting, job := true, pendingTrigger := true }) s))
      (fun t => t.tx.frames.length == 24 && (chanRun t 0).state == .waiting && (chanRun t 0).job &&
        !(chanRun t 0).pendingTrigger) = true := by decide +kernel

/-- A queue of 23; of 24 with a REPORT frame to lose; of 24 without. -/
theorem witness_QueuePlacesByClass :
    (List.replicate 23 (frame .alert 0)).length < 24 ∧
    (let q := List.replicate 23 (frame .alert 0) ++ [frame .report 0]
     24 ≤ q.length ∧ ∃ g ∈ q, g.cls = .report ∧ g.offered = none) ∧
    (let q := List.replicate 24 (frame .alert 0)
     24 ≤ q.length ∧ ∀ g ∈ q, ¬(g.cls = .report ∧ g.offered = none)) := by decide

/-- A fresh head; a stale REPORT head with a fresh one behind it, exactly and just past the lifetime; a sent frame alone
and with one behind it; bus-off with a fresh head. -/
theorem witness_LinkTakesFrames :
    (let s := queued [frame .report 8000] quiet
     ¬(s.content.settings.reportLifetime < s.time - 8000) ∧ s.tx.busOff = false ∧ restartDue s = false ∧
     (∀ g ∈ s.tx.frames, g.offered = none) ∧ ∀ c : ChanNo, (chanRun s c).state ≠ .waiting) ∧
    (let s := queued [frame .report 7999, frame .report 8000] quiet
     s.content.settings.reportLifetime < s.time - 7999 ∧ ¬(s.content.settings.reportLifetime < s.time - 8000) ∧
     (frame .report 7999).awaited = none ∧ s.tx.busOff = false ∧ (∀ x ∈ s.tx.frames, x.offered = none)) ∧
    (let s := queued [{ frame .alert 9000 with offered := some 0x3A0 }] quiet
     s.tx.frames = [{ frame .alert 9000 with offered := some 0x3A0 }] ∧ s.mgmt.restartPending = false ∧
     { s.mgmt with restartPending := true }.restartPending = true) ∧
    (let f := { frame .alert 9000 with offered := some 0x3A0 }
     let s := queued [f, frame .service 9000] quiet
     s.tx.frames = [] ++ f :: [frame .service 9000] ∧ f.awaited = none ∧ (frame .service 9000).offered = none) ∧
    (let s := { queued [frame .alert 9000] quiet with
       tx := { TxQueue.empty with frames := [frame .alert 9000], busOff := true } }
     s.tx.busOff = true ∧ (∀ g ∈ s.tx.frames, g.offered = none) ∧ restartDue s = false) := by decide +kernel

/-- A queue of 24 with its head offered and one with two stale heads, a channel with a RUN job WAITING beside it: each
granted slot is filled before the next head is taken, and stays free where another placement is taken first. -/
theorem witness_LinkTakesFrames_granted :
    let waits : List Frame → State := fun fs =>
      { queued fs quiet with
        content := { quiet.content with channels := put quiet.content.channels 2 { ChanConfig.default with mode := .run } }
        chan := put quiet.chan 2 { ChanRun.idle with state := .waiting, job := true, remaining := 2 } }
    let behind := List.replicate 23 (frame .report 9000)
    let f := { frame .service 9000 with offered := some 0x5D0 }
    let sent := waits (f :: behind)
    let held : State → Nat → Bool := fun t n => t.tx.frames.length == n && linkHolds t
    (sent.tx.frames = [] ++ f :: behind ∧ f.offered.isSome = true ∧ (∀ x ∈ [] ++ behind, x.offered = none) ∧
      sent.mgmt.restartPending = false) ∧
    answersWith (exec (.frameSent .grantFirst) sent) (fun t => held t 24) = true ∧
    answersWith (exec (.frameSent .placementFirst) sent) (fun t => held t 23) = true ∧
    (let s := waits (frame .report 7998 :: frame .report 7999 :: behind.drop 1)
     s.content.settings.reportLifetime < s.time - 7998 ∧ s.tx.busOff = false ∧ (∀ x ∈ s.tx.frames, x.offered = none) ∧
     s.mgmt.restartPending = false ∧
     answersWith (exec (.queueTakesHead .grantFirst) s) (fun t => held t 24 && t.tx.staleDiscards == 2) = true ∧
     answersWith (exec (.queueTakesHead .placementFirst) s) (fun t => held t 22 && t.tx.staleDiscards == 2) = true) := by
  decide +kernel

/-- The reply of a pending node number 5 sent, with an ALERT frame behind it, which goes out under 5. -/
theorem witness_LinkTakesFrames_node :
    let f := { frame .service 9000 with offered := some 0x5D0, awaited := some .node }
    let s := { queued [f, frame .alert 9000] quiet with mgmt := { quiet.mgmt with nodePending := some 5 } }
    s.mgmt.nodePending = some 5 ∧ s.mgmt.restartPending = false ∧ s.tx.frames = [] ++ f :: [frame .alert 9000] ∧
    f.offered.isSome = true ∧ f.awaited = some .node ∧ (frame .alert 9000).offered = none ∧
    (frame .alert 9000).awaited ≠ some .node ∧ s.tx.busOff = false ∧ 5 ≤ 15 ∧
    answersWith (exec (.frameSent .grantFirst) s)
      (fun t => t.tx.frames == [{ frame .alert 9000 with offered := some 0x3A5 }]) = true := by decide +kernel

/-! ## Witnesses: chapters 10 to 12 -/

/-- A wrong length; arguments out of range and in it; a row that the level locks at its own level and not one below; a
row that the store locks; a row that nothing locks. -/
theorem witness_RequestsAreRefusedInOrder :
    let write : Instr := .writeSensorEntry 8 47 0x11 15 0 63
    let at_ : Nat → Nat := fun level =>
      { quiet with content := { quiet.content with
          settings := { Settings.default with protect := level } } }.content.settings.protect
    requestForm (.store 0) = some { kind := 0x19, len := 0, required := 1 } ∧ quiet.mgmt.restartPending = false ∧
    { quiet.mgmt with restartPending := true }.restartPending = true ∧ (0 ≠ 1) ∧ 0x1A < (0x1B : Byte).toNat ∧
    requestForm write = some { kind := 0x01, len := 8, required := 8 } ∧ argumentsInRange write = true ∧
    argumentsInRange (.writeSensorEntry 8 48 0x11 15 0 63) = false ∧
    argumentsInRange (.writeSensorEntry 8 47 0x11 16 0 63) = false ∧
    argumentsInRange (.writeSensorEntry 8 47 0x11 15 0 64) = false ∧ argumentsInRange (.endWalk 2 2) = false ∧
    (lockRow write).level = some 2 ∧ 2 ≤ at_ 2 ∧ ¬(2 ≤ at_ 1) ∧ (lockRow write).store = true ∧
    { quiet.store with job := some { snapshot := quiet.content, latest := 600 } }.job.isSome = true ∧
    lockRow (.ack 2 0 0) = { level := none, store := false } ∧ lockRow (.restart 1) = { level := none, store := true } := by
  decide +kernel

/-- Values at the ends of their ranges; the level lowered from 3 while STATIONARY, while MOVING, and raised. -/
theorem witness_SettingsAreWritten :
    Served lockSettings quiet ∧ (-20 ≤ (BitVec.ofInt 16 (-20)).toInt ∧ (50 : BitVec 16).toInt ≤ 50) ∧
    (2 ≤ (2 : BitVec 16).toNat ∧ (60 : BitVec 16).toNat ≤ 60) ∧ (3 : BitVec 16).toNat ≤ 3 ∧
    quiet.content.settings.protect ≤ (0 : BitVec 16).toNat ∧
    (let s := { quiet with
       content := { quiet.content with settings := { Settings.default with protect := 3 } }
       vehicle := { quiet.vehicle with motion := .stationary } }
     (2 : BitVec 16).toNat < s.content.settings.protect ∧ s.vehicle.motion = .stationary ∧ s.vehicle.stale = false) ∧
    quiet.vehicle.motion = .moving := by
  unfold Served
  decide +kernel

/-- The value held; a new one that a position has counted exactly, and one that it has not. -/
theorem witness_SilenceTimeoutIsWritten :
    let s := oneBound 0 { live with silence := 60000 }
    Served lockSettings s ∧ 60 ≤ (60 : BitVec 16).toNat ∧ (60 : BitVec 16).toNat ≤ 1800 ∧
    (420 : BitVec 16).toNat = s.content.settings.silenceTimeout ∧
    (60 : BitVec 16).toNat ≠ s.content.settings.silenceTimeout ∧
    (posRec s 0).state = .live ∧ (60 : BitVec 16).toNat * 1000 ≤ (posRec s 0).silence ∧
    ¬((61 : BitVec 16).toNat * 1000 ≤ (posRec s 0).silence) := by
  unfold Served
  decide +kernel

/-- R118: twin partners that one write of the timeout makes SILENT have an event each. In the first the one is RAISED
and the other, still LIVE, loses its TWIN: CLEARED; in the second the other is RAISED. -/
theorem test_silence_of_twins_is_two_events :
    let s := bindAt 1 0x22 1 { live with silence := 60000 } (oneBound 0 { live with silence := 60000 })
    let shown : Body → List (Pos × PosState × Reason) := fun b =>
      match b with
      | .alert v why => [(v.position, v.state, why)]
      | _ => []
    answersWith (exec (.writeSettingSilenceTimeout 4 60) s)
      (fun t => t.tx.frames.flatMap (fun f => shown f.body) ==
        [(0, .silent, .raised), (1, .live, .cleared), (1, .silent, .raised)]) = true := by decide +kernel

/-- A node number written while 5 is pending: its reply waiting, and its reply gone. -/
theorem witness_NodeNumberWaitsForItsReply_again :
    let again : List Frame → State := fun fs =>
      { queued fs quiet with mgmt := { quiet.mgmt with nodePending := some 5 } }
    let asked := again [{ frame .service 9000 with awaited := some .node }]
    let after : State → Nat → Bool := fun s n =>
      answersWith (exec (.writeSettingNodeNumber 4 9) s)
        (fun t => t.mgmt.nodePending == some 9 && t.mgmt.nodeInForce == n &&
          (t.tx.frames.filter (fun f => f.awaited == some .node)).length == 1)
    Served lockSettings asked ∧ asked.mgmt.nodePending = some 5 ∧ (∃ f ∈ asked.tx.frames, f.awaited = some .node) ∧
    after asked 0 = true ∧ after (again []) 5 = true := by
  unfold Served
  decide +kernel

/-- A reply that is placed, one that a full queue refuses, and a pending number whose reply has gone. -/
theorem witness_NodeNumberWaitsForItsReply :
    Served lockSettings quiet ∧ (15 : BitVec 16).toNat ≤ 15 ∧ quiet.mgmt.nodePending = none ∧
    (∀ f ∈ quiet.tx.frames, f.awaited ≠ some .node) ∧ (offerFrame (frame .service 0) quiet.tx).placed = true ∧
    (let q := { TxQueue.empty with frames := List.replicate 24 (frame .alert 0) }
     (∀ f ∈ q.frames, f.awaited ≠ some .node) ∧ (offerFrame (frame .service 0) q).placed = false) ∧
    { quiet.mgmt with nodePending := some 5 }.nodePending = some 5 := by
  unfold Served
  decide +kernel

theorem witness_DiagnosticsAreCleared : busy.mgmt.restartPending = false := by decide +kernel

/-- `quiet` with a store in progress whose 600 ms are over, and nothing in its queue of commands. -/
def storing : State :=
  { quiet with store := { quiet.store with job := some { snapshot := quiet.content, latest := 10000 } } }

theorem witness_StoreWritesTheSnapshot :
    Served lockStore busy ∧ loadTest busy.content = true ∧
    storing.store.job = some { snapshot := quiet.content, latest := 10000 } ∧ storing.pending = [] ∧
    10000 ≤ storing.time := by
  unfold Served
  decide +kernel

/-- A write that has taken its 600 ms completes, with the read-back of its number, before any time passes. -/
theorem test_store_completes_in_time :
    step storing = .next { storing with pending := [.storeCompletion (ownReadBack storing)] } := rfl

/-- A record at the tops of its ranges, and one with everything absent. -/
theorem witness_WheelFramesAreLaidOut :
    let s := oneBound 31 { live with filtered := some 4094, hot := some 4094, temp := some 255 }
    ((∀ f, (posRec s 31).filtered = some f → f ≤ 4094) ∧ (∀ h, (posRec s 31).hot = some h → h ≤ 4094) ∧
      ∀ x, (posRec s 31).temp = some x → x ≤ 255) ∧
    (posRec quiet 0).filtered = none ∧ (posRec quiet 0).hot = none ∧ (posRec quiet 0).temp = none ∧
    ([fld 59 5].map fun f => f.width).sum ≤ 59 := by
  refine ⟨⟨?_, ?_, ?_⟩, by decide +kernel, by decide +kernel, by decide +kernel, by decide⟩ <;> intro x h
  · exact Nat.le_of_eq (Option.some.inj (h.symm.trans (by decide +kernel)))
  · exact Nat.le_of_eq (Option.some.inj (h.symm.trans (by decide +kernel)))
  · exact Nat.le_of_eq (Option.some.inj (h.symm.trans (by decide +kernel)))

theorem witness_CanFramesRoundTrip :
    15 ≤ 15 ∧ (Instr.writePosition 3 31 true 7).wf = true ∧
    encodeCan 15 (.writePosition 3 31 true 7) = some (can 0x5CF [0x04, 0x1F, 0x0F]) := by decide

/-! ## Witnesses: the laws -/

theorem witness_StepKeepsQueueLaw : QueueLaw busy ∧ ∃ t, step busy = .next t := by
  refine ⟨?_, _, rfl⟩
  unfold QueueLaw
  decide +kernel

theorem witness_StepKeepsStrangerLaw : StrangerLaw busy ∧ ∃ t, step busy = .next t := by
  refine ⟨?_, _, rfl⟩
  unfold StrangerLaw
  decide +kernel

theorem witness_StepKeepsVehicleLaw : VehicleLaw busy ∧ ∃ t, step busy = .next t := by
  refine ⟨?_, _, rfl⟩
  unfold VehicleLaw
  decide +kernel

theorem busy_walkLaw : WalkLaw busy := by
  have target : walk16.target = busy.vehicle.set ∧ walk16.target ≠ 0 := by decide +kernel
  refine ⟨(by decide +kernel : (walkSlot busy .truck).bound ≤ 16), ?_⟩
  show openWalkLaw busy .trailer (walkSlot busy .trailer) walk16
  refine ⟨target, ?_⟩
  decide +kernel

theorem busy_storeLaw : StoreLaw busy := by
  refine ⟨by decide +kernel, fun job h => ?_, fun n h => ?_, by decide +kernel⟩ <;> cases h

theorem witness_StepKeepsConfiguredLaw : ConfiguredLaw busy ∧ ∃ t, step busy = .next t := by
  refine ⟨⟨?_, busy_walkLaw, ?_, busy_storeLaw, ⟨trivial, trivial⟩⟩, _, rfl⟩
  · unfold ContentLaw
    decide +kernel
  · unfold DupLaw
    decide +kernel

theorem witness_StepKeepsBindingLaw : ConfiguredLaw busy ∧ BindingLaw busy ∧ ∃ t, step busy = .next t := by
  refine ⟨witness_StepKeepsConfiguredLaw.1, ?_, _, rfl⟩
  unfold BindingLaw bindingLawAt
  decide +kernel

theorem witness_StepKeepsTwinLaw :
    ConfiguredLaw busy ∧ BindingLaw busy ∧ TwinLaw busy ∧ (posRec busy 0).cond.active.twin = true ∧
      ∃ t, step busy = .next t := by
  refine ⟨witness_StepKeepsConfiguredLaw.1, witness_StepKeepsBindingLaw.2.1, ?_, by decide +kernel, _, rfl⟩
  unfold TwinLaw
  decide +kernel

/-- The law of one record, with the six conditions named. -/
theorem recordLaw_of {r : PosRec}
    (h : r.filtered = r.acc.map filteredOf ∧ (r.state = .live → r.lastTime.isSome = true) ∧
      (r.state = .silent ↔ r.cond.active.silent = true) ∧
      (¬r.lastTime.isSome = true → r.filtered = none ∧ r.history.expiry = none ∧ r.cond.level = .normal ∧
        r.cond.active = { CondSet.none with silent := r.cond.active.silent }) ∧
      (r.cond.ackLevel = true → r.cond.level ≠ .normal) ∧ r.cond.acked = CondSet.none ∧
      (r.cond.owed = true → r.cond.repeatDue.isSome = true) ∧ r.history.ring.length ≤ Config.ringCap ∧
      (r.history.expiry = none → r.history.ring = [] ∧ r.history.count = 0) ∧ r.silence ≤ Config.silenceCapMs) :
    recordLaw r := by
  obtain ⟨h1, h2, h3, h4, h5, h6, h7, h8, h9, h10⟩ := h
  refine ⟨h1, h2, h3, h4, h5, fun k hk => ?_, h7, h8, h9, h10⟩
  rw [h6] at hk
  cases k <;> cases hk

theorem busy_recordLaw : RecordLaw busy := by
  intro p
  apply recordLaw_of
  revert p
  decide +kernel

theorem witness_StepKeepsRecordLaw :
    ConfiguredLaw busy ∧ BindingLaw busy ∧ RecordLaw busy ∧ ∃ t, step busy = .next t :=
  ⟨witness_StepKeepsConfiguredLaw.1, witness_StepKeepsBindingLaw.2.1, busy_recordLaw, _, rfl⟩

theorem witness_StepKeepsChannelLaw : ChannelLaw busy ∧ ∃ t, step busy = .next t := by
  refine ⟨?_, _, rfl⟩
  unfold ChannelLaw channelLaw
  decide +kernel

end Sys2Proof.Tests
end

section
/-! PROOF. Reception (chapter 1): what a port makes of a character, what becomes of a complete record, and the merge of
a copy whose burst the duplicate list holds. Settles O7, O8 and O9. -/

namespace Sys2Proof.Machine

open Sys2Proof

/-! ## Two updates of one port -/

/-- Two changes of one port are one change. -/
@[simp] theorem modPort_modPort (port : Port) (f g : PortState → PortState) (s : State) :
    modPort port g (modPort port f s) = modPort port (fun x => g (f x)) s := by
  cases port <;> rfl

/-! ## A port in HUNTING (R2, R4) -/

theorem takeChar_of_hunting {port : Port} {s : State} (h : (portState s port).framing = .hunting) (c : Byte) :
    takeChar port c s = if c = 0xE5 then setFraming port (collectingNow s [] false) s else s := by
  simp only [takeChar, h]
  rfl

theorem takeFramingFault_of_hunting {port : Port} {s : State} (h : (portState s port).framing = .hunting) :
    takeFramingFault port s = s := by
  simp only [takeFramingFault, h]

/-! ## A port in COLLECTING (R3 to R5) -/

section Collecting

variable {port : Port} {bytes : List Byte} {escape : Bool} {due : Nat} {s : State}

theorem takeChar_of_collecting (h : (portState s port).framing = .collecting bytes escape due) (c : Byte) :
    takeChar port c s = takeCollecting port bytes escape c s := by
  simp only [takeChar, h]

theorem takeFramingFault_of_collecting (h : (portState s port).framing = .collecting bytes escape due) :
    takeFramingFault port s = breakRecord port .hunting s := by
  simp only [takeFramingFault, h]

theorem expireIdle_of_due (h : (portState s port).framing = .collecting bytes escape due) (hdue : due ≤ s.time) :
    expireIdle port s = breakRecord port .hunting s := by
  simp only [expireIdle, h, if_pos hdue]

end Collecting

section Characters

variable (port : Port) {bytes : List Byte} {c : Byte} (s : State)

/-- The sync value restarts a record without bytes uncounted, whatever the escape mark (R3). -/
theorem takeCollecting_sync_of_empty (escape : Bool) :
    takeCollecting port [] escape 0xE5 s = setFraming port (collectingNow s [] false) s := by
  simp [takeCollecting, Config.syncChar]

/-- The sync value breaks a record with bytes and opens the next (R3). -/
theorem takeCollecting_sync_of_bytes (escape : Bool) (hb : bytes ≠ []) :
    takeCollecting port bytes escape 0xE5 s = breakRecord port (collectingNow s [] false) s := by
  simp [takeCollecting, Config.syncChar, hb]

theorem takeCollecting_escapeChar :
    takeCollecting port bytes false 0xE6 s = setFraming port (collectingNow s bytes true) s := by
  simp [takeCollecting, Config.syncChar, Config.escapeChar]

theorem takeCollecting_bad_escape (hsync : c ≠ 0xE5) (h5 : c ≠ 0xC5) (h6 : c ≠ 0xC6) :
    takeCollecting port bytes true c s = breakRecord port .hunting s :=
  (if_neg hsync).trans ((if_pos rfl).trans (if_neg (not_or.mpr ⟨h5, h6⟩)))

/-- The characters that yield a logical byte v: one that stands for itself, and an escaped 0xC5 or 0xC6 (R3). -/
def YieldsByte (escape : Bool) (c v : Byte) : Prop :=
  (escape = false ∧ c ≠ 0xE5 ∧ c ≠ 0xE6 ∧ v = c) ∨ (escape = true ∧ c = 0xC5 ∧ v = 0xE5) ∨
    (escape = true ∧ c = 0xC6 ∧ v = 0xE6)

/-- A character that yields a logical byte adds that byte to the record (R3). -/
theorem takeCollecting_of_yieldsByte {escape : Bool} {v : Byte} (h : YieldsByte escape c v) :
    takeCollecting port bytes escape c s = addByte port bytes v s := by
  obtain ⟨rfl, hsync, hesc, rfl⟩ | ⟨rfl, rfl, rfl⟩ | ⟨rfl, rfl, rfl⟩ := h
  · exact (if_neg hsync).trans ((if_neg Bool.false_ne_true).trans (if_neg hesc))
  · simp [takeCollecting, Config.syncChar]
  · simp [takeCollecting, Config.syncChar]

end Characters

/-- Settles O7: row by row, each character by the rule of the port's framing state. -/
theorem characterIsFramed : Obligations.CharacterIsFramed := by
  intro port c s broken framing
  refine ⟨fun h => ⟨?_, ?_⟩, fun bytes escape due h _ => ?_⟩
  · exact congrArg Host.Outcome.next (takeChar_of_hunting h c)
  · exact congrArg Host.Outcome.next (takeFramingFault_of_hunting h)
  · intro added
    have taken {t : State} (ht : takeCollecting port bytes escape c s = t) :
        exec (.characterTaken port c) s = .next t :=
      congrArg Host.Outcome.next ((takeChar_of_collecting h c).trans ht)
    have joins {v : Byte} (hv : YieldsByte escape c v) : exec (.characterTaken port c) s = .next (added v) :=
      taken (takeCollecting_of_yieldsByte port s hv)
    refine ⟨?sync_empty, ?sync_bytes, ?escape, ?itself, ?escaped_sync, ?escaped_escape, ?bad_escape, ?fault, ?idle⟩
    case sync_empty =>
      rintro rfl rfl
      exact taken (takeCollecting_sync_of_empty port s escape)
    case sync_bytes =>
      rintro rfl hb
      exact taken (takeCollecting_sync_of_bytes port s escape hb)
    case escape =>
      rintro rfl rfl
      exact taken (takeCollecting_escapeChar port s)
    case itself => exact fun hsync hesc he => joins (.inl ⟨he, hsync, hesc, rfl⟩)
    case escaped_sync => exact fun he hc => joins (.inr (.inl ⟨he, hc, rfl⟩))
    case escaped_escape => exact fun he hc => joins (.inr (.inr ⟨he, hc, rfl⟩))
    case bad_escape =>
      rintro rfl hsync h5 h6
      exact taken (takeCollecting_bad_escape port s hsync h5 h6)
    case fault => exact congrArg Host.Outcome.next (takeFramingFault_of_collecting h)
    case idle => exact fun hdue => congrArg Host.Outcome.next (expireIdle_of_due h hdue)

/-! ## A complete record (R6) -/

/-- The tenth logical byte returns the port to HUNTING, and the record is judged (R3). -/
theorem addByte_of_nine {bytes : List Byte} (hn : bytes.length = 9) (port : Port) (v : Byte) (s : State) :
    addByte port bytes v s = judgeRecord port (bytes ++ [v]) (setFraming port .hunting s) := by
  simp [addByte, hn]

theorem recordGood_iff (bytes : List Byte) :
    recordGood bytes = true ↔
      crc8 (bytes.take 8) = recordByte bytes 8 ∧ recordId bytes ≠ 0 ∧ recordId bytes ≠ 0xFFFFFFFF := by
  have ones : BitVec.allOnes 32 = 0xFFFFFFFF := by decide
  simp [recordGood, ones, and_assoc]

theorem judgeRecord_of_good {bytes : List Byte} (h : recordGood bytes = true) (port : Port) (s : State) :
    judgeRecord port bytes s =
      takeCopy (decodeRecord port bytes) (modPort port (fun x => { x with taken := countUp x.taken }) s) := by
  simp only [judgeRecord, h, if_true]

theorem judgeRecord_of_bad {bytes : List Byte} (h : ¬recordGood bytes = true) (port : Port) (s : State) :
    judgeRecord port bytes s =
      modPort port (fun x => { x with taken := countUp x.taken, badCheck := countUp x.badCheck }) s := by
  simp only [judgeRecord, if_neg h, modPort_modPort]

/-! ## The fields of a record (12.1) -/

/-- Bytes joined, the first in the lowest place, read as a number. -/
theorem append_byte_toNat {n : Nat} (hi : BitVec n) (lo : Byte) : (hi ++ lo).toNat = lo.toNat + 256 * hi.toNat := by
  rw [BitVec.toNat_append, ← Nat.shiftLeft_add_eq_or_of_lt lo.isLt, Nat.shiftLeft_eq]
  omega

theorem recordId_toNat (bytes : List Byte) :
    (recordId bytes).toNat = (recordByte bytes 0).toNat + 256 * (recordByte bytes 1).toNat +
      65536 * (recordByte bytes 2).toNat + 16777216 * (recordByte bytes 3).toNat := by
  simp only [recordId, append_byte_toNat]
  omega

theorem kindOfCode_eq (b : Byte) :
    kindOfCode (b.extractLsb' 0 2) =
      (if b.toNat % 4 = 0 then .periodic else if b.toNat % 4 = 1 then .rapid
       else if b.toNat % 4 = 2 then .motion else .learn) := by
  have code (k : BitVec 2) : b.extractLsb' 0 2 = k ↔ b.toNat % 4 = k.toNat := by
    simp [BitVec.toNat_eq]
  simp only [kindOfCode, code]
  rfl

/-- Bit i of a byte, read off its number. -/
theorem getLsbD_iff_div_mod (b : Byte) (i : Nat) : b.getLsbD i = true ↔ b.toNat / 2 ^ i % 2 = 1 := by
  simp [BitVec.getLsbD, Nat.testBit_eq_decide_div_mod_eq]

theorem decodeRecord_seq (port : Port) (bytes : List Byte) :
    (decodeRecord port bytes).seq.val = (recordByte bytes 4).toNat / 4 % 16 := by
  simp [decodeRecord, Nat.shiftRight_eq_div_pow]

theorem decodeRecord_fault (port : Port) (bytes : List Byte) :
    (decodeRecord port bytes).telegram.fault = true ↔ (recordByte bytes 4).toNat / 64 % 2 = 1 :=
  getLsbD_iff_div_mod _ 6

theorem decodeRecord_battery (port : Port) (bytes : List Byte) :
    (decodeRecord port bytes).telegram.battery = true ↔ (recordByte bytes 4).toNat / 128 = 1 := by
  have lt := (recordByte bytes 4).isLt
  refine (getLsbD_iff_div_mod _ 7).trans ?_
  omega

theorem decodeRecord_pressure (port : Port) (bytes : List Byte) :
    (decodeRecord port bytes).telegram.pressure =
      (recordByte bytes 5).toNat + 256 * ((recordByte bytes 6).toNat % 16) := by
  have lt := (recordByte bytes 5).isLt
  simp only [decodeRecord, BitVec.extractLsb'_toNat, append_byte_toNat, Nat.shiftRight_zero]
  omega

/-- Settles O8: the tenth byte leads to the judgement, whose two outcomes are the two lemmas of `judgeRecord`; the
fields of the copy are read by one lemma each. -/
theorem completeRecordIsJudged : Obligations.CompleteRecordIsJudged := by
  intro port bytes escape due c v s h hn hv record good copy at_
  have judged : exec (.characterTaken port c) s = .next (judgeRecord port record (setFraming port .hunting s)) :=
    congrArg Host.Outcome.next
      ((takeChar_of_collecting h c).trans
        ((takeCollecting_of_yieldsByte port s hv).trans (addByte_of_nine hn port v s)))
  refine ⟨fun bad => ?_, fun ok => ?_, rfl, rfl, rfl, recordId_toNat record, kindOfCode_eq _,
    decodeRecord_seq port record, decodeRecord_fault port record, decodeRecord_battery port record,
    decodeRecord_pressure port record, rfl, rfl⟩
  · rw [judged, judgeRecord_of_bad (mt (recordGood_iff record).mp bad), setFraming, modPort_modPort]
  · rw [judged, judgeRecord_of_good ((recordGood_iff record).mpr ok), setFraming, modPort_modPort]

/-! ## A copy of a burst the list holds (R10) -/

theorem sameBurst_iff (c : Copy) (e : DupEntry) : sameBurst c e = true ↔ e.sid = c.sid ∧ e.seq = c.seq := by
  simp [sameBurst]

/-- The greater of the RSSI held and the new one, or the new one where none is held (R10). -/
theorem bestRssi_some (held : Option Nat) (r : Nat) : bestRssi held (some r) = some (max (held.getD 0) r) := by
  cases held <;> simp [bestRssi]

theorem mergeCopy_eq (c : Copy) (e : DupEntry) :
    mergeCopy c e = if c.port = .front then { e with front := some (max (e.front.getD 0) c.rssi) }
      else { e with rear := some (max (e.rear.getD 0) c.rssi) } := by
  cases h : c.port <;> simp [mergeCopy, h, bestRssi_some]

theorem takeCopy_of_held {c : Copy} {s : State} (h : ∃ e ∈ s.dup.entries, e.sid = c.sid ∧ e.seq = c.seq) :
    takeCopy c s =
      { s with dup :=
          { s.dup with
            entries := s.dup.entries.map (fun e => if sameBurst c e then mergeCopy c e else e)
            merges := countUp s.dup.merges } } := by
  have held : s.dup.entries.any (sameBurst c) = true := by simpa [sameBurst_iff] using h
  simp only [takeCopy, held, if_true]

/-- Settles O9: a merge rewrites the entries of the burst in their places. -/
theorem copyIsMerged : Obligations.CopyIsMerged := by
  intro c s h
  refine ⟨_, takeCopy_of_held h, rfl, List.length_map _, fun i e he => ?_⟩
  simp [he, sameBurst_iff, mergeCopy_eq]

end Sys2Proof.Machine
end

section
/-! PROOF. Pressure arithmetic (chapter 5): the filter keeps its ranges, and under one repeated cold gauge it settles at
the near end of its band. Settles O25. -/

namespace Sys2Proof.Machine

open Sys2Proof

/-! ## An iteration that comes nearer to its goal at every step -/

/-- One step before n steps is n + 1 steps. -/
theorem repeat_apply_self {α : Type} (f : α → α) (n : Nat) (a : α) : Nat.repeat f n (f a) = Nat.repeat f (n + 1) a := by
  induction n with
  | zero => rfl
  | succ n ih => exact congrArg f ih

/-- A function that keeps to one side of a goal, and comes nearer to it wherever it is not there yet, arrives. -/
theorem exists_repeat_eq_of_dist_lt {f : Nat → Nat} {goal : Nat} {side : Nat → Prop}
    (nearer : ∀ a, side a → a ≠ goal → side (f a) ∧ Nat.dist (f a) goal < Nat.dist a goal) {a : Nat} (ha : side a) :
    ∃ n, Nat.repeat f n a = goal := by
  induction h : Nat.dist a goal using Nat.strong_induction_on generalizing a with
  | _ d ih =>
    by_cases there : a = goal
    · exact ⟨0, there⟩
    · obtain ⟨hside, hlt⟩ := nearer a ha there
      obtain ⟨n, hn⟩ := ih _ (h ▸ hlt) hside rfl
      exact ⟨n + 1, repeat_apply_self f n a ▸ hn⟩

/-! ## The filtered gauge of an accumulator (R79) -/

theorem filteredOf_le {a y : Nat} (h : a ≤ 4 * y) : filteredOf a ≤ y := by
  simp only [filteredOf]
  omega

theorem filteredOf_band_low (x : Nat) : filteredOf (4 * x) = x := by
  simp only [filteredOf]
  omega

theorem filteredOf_band_high (x : Nat) : filteredOf (4 * x + 3) = x + 1 := by
  simp only [filteredOf]
  omega

/-! ## One update of the filter (R79, R80) -/

@[simp] theorem filterStep_start (kind : TelKind) (x : Nat) : filterStep kind x none = 4 * x := rfl

@[simp] theorem filterStep_rapid (x a : Nat) : filterStep .rapid x (some a) = 4 * x := rfl

theorem filterStep_update {kind : TelKind} (h : kind ≠ .rapid) (x a : Nat) :
    filterStep kind x (some a) = a - a / 4 + x := if_neg h

/-- What four times a bound of the cold gauge bounds before a start, a restart or an update, it bounds after it. -/
theorem filterStep_le (kind : TelKind) {x y : Nat} {acc : Option Nat} (hx : x ≤ y) (hacc : ∀ a ∈ acc, a ≤ 4 * y) :
    filterStep kind x acc ≤ 4 * y := by
  cases acc with
  | none =>
    rw [filterStep_start]
    omega
  | some a =>
    have ha : a ≤ 4 * y := hacc a rfl
    obtain rfl | h := eq_or_ne kind .rapid
    · rw [filterStep_rapid]
      omega
    · rw [filterStep_update h]
      omega

section Update

variable {kind : TelKind} {x a : Nat}

/-- Inside the band a quarter of S is x, and the update leaves S unchanged. -/
theorem filterStep_of_band (h : kind ≠ .rapid) (low : 4 * x ≤ a) (high : a ≤ 4 * x + 3) :
    filterStep kind x (some a) = a := by
  have quarter : a / 4 = x := by omega
  rw [filterStep_update h, quarter]
  omega

theorem lt_filterStep_of_below (h : kind ≠ .rapid) (below : a < 4 * x) : a < filterStep kind x (some a) := by
  rw [filterStep_update h]
  omega

theorem filterStep_lt_of_above (h : kind ≠ .rapid) (above : 4 * x + 3 < a) : filterStep kind x (some a) < a := by
  rw [filterStep_update h]
  omega

/-- From above, the update does not jump past the upper end of the band. -/
theorem band_high_le_filterStep (h : kind ≠ .rapid) (above : 4 * x + 3 ≤ a) :
    4 * x + 3 ≤ filterStep kind x (some a) := by
  rw [filterStep_update h]
  omega

/-! ## The filter under one repeated cold gauge (R80) -/

/-- S rises to the lower end of the band: it never passes 4x, a bound that `filterStep_le` keeps. -/
theorem filterStep_settles_from_below (h : kind ≠ .rapid) (below : a ≤ 4 * x) :
    ∃ n, Nat.repeat (fun a => filterStep kind x (some a)) n a = 4 * x := by
  refine exists_repeat_eq_of_dist_lt (side := (· ≤ 4 * x)) (fun a ha hne => ?_) below
  have rises := lt_filterStep_of_below h (lt_of_le_of_ne ha hne)
  have bounded : filterStep kind x (some a) ≤ 4 * x := filterStep_le kind le_rfl (by simpa using ha)
  refine ⟨bounded, ?_⟩
  rw [Nat.dist_eq_sub_of_le ha, Nat.dist_eq_sub_of_le bounded]
  omega

/-- S falls to the upper end of the band. -/
theorem filterStep_settles_from_above (h : kind ≠ .rapid) (above : 4 * x + 3 ≤ a) :
    ∃ n, Nat.repeat (fun a => filterStep kind x (some a)) n a = 4 * x + 3 := by
  refine exists_repeat_eq_of_dist_lt (side := (4 * x + 3 ≤ ·)) (fun a ha hne => ?_) above
  have falls := filterStep_lt_of_above h (lt_of_le_of_ne ha hne.symm)
  have bounded := band_high_le_filterStep h ha
  refine ⟨bounded, ?_⟩
  rw [Nat.dist_eq_sub_of_le_right ha, Nat.dist_eq_sub_of_le_right bounded]
  omega

end Update

/-- Settles O25: the ranges are one bound of the step, and each end of the band is reached by a monotone approach. -/
theorem filterSettles : Obligations.FilterSettles := by
  intro kind x a hkind hx ha
  refine ⟨filterStep_le (y := 4094) kind hx (by simpa using ha), filteredOf_le (y := 4094) ha,
    filterStep_le (y := 4094) kind hx (by simp), filterStep_of_band hkind, fun below => ?_, fun above => ?_⟩
  · obtain ⟨n, hn⟩ := filterStep_settles_from_below hkind below.le
    exact ⟨n, hn, filteredOf_band_low x⟩
  · obtain ⟨n, hn⟩ := filterStep_settles_from_above hkind above.le
    exact ⟨n, hn, filteredOf_band_high x⟩

end Sys2Proof.Machine
end

section
/-! PROOF. Interval history (chapter 6): READ HISTORY reads the ring from its start place on, wrapping, and meets no
place twice. Settles O29. -/

namespace Sys2Proof.Machine

open Sys2Proof

/-- Fewer than a whole turn around a ring of n places meets no place twice. -/
theorem ring_place_injOn (n first : Nat) : Set.InjOn (fun i => (first + i) % n) {i | i < n} :=
  fun _ hi _ hj same => (Nat.ModEq.add_left_cancel' first same).eq_of_lt_of_lt hi hj

@[simp] theorem historyPlaces_zero (start count : Nat) : historyPlaces 0 start count = [] := rfl

section Held

variable {n : Nat}

theorem historyPlaces_of_pos (hn : 0 < n) (start count : Nat) :
    historyPlaces n start count = (List.range (min count n)).map (fun i => (start % n + i) % n) := if_neg hn.ne'

theorem historyPlaces_length (hn : 0 < n) (start count : Nat) : (historyPlaces n start count).length = min count n := by
  simp [historyPlaces_of_pos hn]

theorem historyPlaces_getElem? (hn : 0 < n) (start : Nat) {count i : Nat} (hi : i < min count n) :
    (historyPlaces n start count)[i]? = some ((start % n + i) % n) := by
  rw [historyPlaces_of_pos hn, List.getElem?_map, List.getElem?_range hi, Option.map_some]

/-- At most n places are read, so the read ends before it comes round to its first place. -/
theorem historyPlaces_nodup (hn : 0 < n) (start count : Nat) : (historyPlaces n start count).Nodup := by
  have within {i : Nat} (hi : i ∈ List.range (min count n)) : i < n :=
    (List.mem_range.mp hi).trans_le (min_le_right count n)
  rw [historyPlaces_of_pos hn]
  exact List.nodup_range.map_on fun _ hi _ hj same => ring_place_injOn n (start % n) (within hi) (within hj) same

end Held

/-- Settles O29: the places are a walk of min(count, n) steps around the ring, and a walk of at most n steps meets no
place twice. -/
theorem historyPlacesAreInOrder : Obligations.HistoryPlacesAreInOrder := by
  intro n start count
  refine ⟨?none_held, fun hn => ⟨historyPlaces_length hn start count, fun _ => historyPlaces_getElem? hn start,
    historyPlaces_nodup hn start count⟩⟩
  case none_held =>
    rintro rfl
    exact historyPlaces_zero start count

end Sys2Proof.Machine
end

section
/-! PROOF. Learn walks (chapter 8): in either order a walk of a block's length is a permutation of the offsets of the
block. Settles O36. -/

namespace Sys2Proof.Machine

open Sys2Proof

/-! ## Visiting order (R133) -/

@[simp] theorem visitOffset_sequential (start len k : Nat) :
    visitOffset .sequential start len k = (start + k) % len := rfl

@[simp] theorem visitOffset_interleaved (start len k : Nat) :
    visitOffset .interleaved start len k = start ^^^ k := rfl

theorem visitAt_val (w : OpenWalk) (k : Nat) :
    (visitAt w k).val = (w.blockStart + visitOffset w.order w.start w.length k) % 32 := rfl

/-- XOR stays within a block because the block's length is a power of two. -/
theorem blockLength_eq_two_pow {len : Nat} (block : len = 1 ∨ len = 2 ∨ len = 4 ∨ len = 8 ∨ len = 16) :
    ∃ n, len = 2 ^ n := by
  rcases block with rfl | rfl | rfl | rfl | rfl
  exacts [⟨0, rfl⟩, ⟨1, rfl⟩, ⟨2, rfl⟩, ⟨3, rfl⟩, ⟨4, rfl⟩]

theorem visitOffset_zero (o : Order) {start len : Nat} (hstart : start < len) : visitOffset o start len 0 = start := by
  cases o with
  | sequential => simpa using Nat.mod_eq_of_lt hstart
  | interleaved => simp

theorem visitOffset_lt (o : Order) {start n k : Nat} (hstart : start < 2 ^ n) (hk : k < 2 ^ n) :
    visitOffset o start (2 ^ n) k < 2 ^ n := by
  cases o with
  | sequential => exact Nat.mod_lt _ (Nat.two_pow_pos n)
  | interleaved => exact Nat.xor_lt_two_pow hstart hk

/-- Two steps of one walk never meet: SEQUENTIAL is less than a whole turn around a ring, and INTERLEAVED undoes
itself. -/
theorem visitOffset_injOn (o : Order) (start len : Nat) : Set.InjOn (visitOffset o start len) {k | k < len} := by
  cases o with
  | sequential => exact ring_place_injOn len start
  | interleaved => exact Nat.xor_right_injective.injOn

/-- As many steps as offsets, no offset given twice: so every offset is given. -/
theorem visitOffset_surjOn (o : Order) {start n : Nat} (hstart : start < 2 ^ n) {offset : Nat}
    (hoffset : offset < 2 ^ n) : ∃ k < 2 ^ n, visitOffset o start (2 ^ n) k = offset := by
  have onto : Set.SurjOn (visitOffset o start (2 ^ n)) (Finset.range (2 ^ n)) (Finset.range (2 ^ n)) := by
    refine Finset.surjOn_of_injOn_of_card_le _ (fun k hk => ?within) ?apart le_rfl
    case within => simpa using visitOffset_lt o hstart (by simpa using hk)
    case apart => simpa [Set.Iio] using visitOffset_injOn o start (2 ^ n)
  simpa [Set.mem_image] using onto (by simpa using hoffset)

/-- Settles O36: the offset stays within the block and two steps never share one, so by counting the steps give each
offset exactly once. -/
theorem visitingOrderIsComplete : Obligations.VisitingOrderIsComplete := by
  intro o len start block hstart
  obtain ⟨n, rfl⟩ := blockLength_eq_two_pow block
  refine ⟨fun k => ⟨visitOffset_sequential start _ k, visitOffset_interleaved start _ k⟩, visitAt_val,
    visitOffset_zero o hstart, fun _ => visitOffset_lt o hstart, fun offset hoffset => ?once⟩
  case once =>
    obtain ⟨k, hk, rfl⟩ := visitOffset_surjOn o hstart hoffset
    exact ⟨k, hk, rfl, fun _ hj same => visitOffset_injOn o start _ hj hk same⟩

end Sys2Proof.Machine
end

section
/-! PROOF. Report channels (chapter 9): START CHANNEL and STOP CHANNEL behind a gate that neither the protect level nor
a store closes. Settles O39. -/

namespace Sys2Proof.Machine

open Sys2Proof

/-! ## The gate (R162 to R164) -/

@[simp] theorem ofLength_self {α : Type} (len : Nat) (args : Option α) : ofLength len len args = args := if_pos rfl

/-- Arguments that fail check 2 are refused before the protect level and the store are asked (R163). -/
theorem serve_of_bad_args {α : Type} {s : State} (h : s.mgmt.restartPending = false) (kind : Byte) (l : Lock)
    (owner : α → State → State) : serve kind l none owner s = reply kind .badArgument s := by
  simp [serve, h]

theorem serve_of_served {α : Type} {l : Lock} {s : State} (h : Served l s) (kind : Byte) (a : α)
    (owner : α → State → State) : serve kind l (some a) owner s = owner a s := by
  obtain ⟨hrestart, hlevel, hstore⟩ := h
  simp [serve, hrestart, hlevel, hstore]

/-- Without a lock only a pending restart keeps a request from its owner (R164). -/
theorem served_lockNone {s : State} (h : s.mgmt.restartPending = false) : Served lockNone s := ⟨h, rfl, rfl⟩

/-! ## START CHANNEL past its checks (R150) -/

section Start

variable {c : ChanNo} {s : State}

theorem channelActive_of_at_rest (h : (chanRun s c).state = .idle ∨ (chanRun s c).state = .ended) :
    channelActive s c = false := by
  obtain h | h := h <;> simp only [channelActive, h]

theorem channelActive_of_at_work
    (h : (chanRun s c).state = .armed ∨ (chanRun s c).state = .running ∨ (chanRun s c).state = .waiting) :
    channelActive s c = true := by
  obtain h | h | h := h <;> simp only [channelActive, h]

theorem startChan_of_inactive (h : channelActive s c = false) :
    startChan c s = reply 0x10 .done (loadChannel c s) := by
  simp only [startChan, h, Bool.false_eq_true, if_false]

theorem startChan_of_active (h : channelActive s c = true) : startChan c s = reply 0x10 .channelActive s := by
  simp only [startChan, h, if_true]

end Start

/-! ## The two requests at the gate -/

section Requests

variable {channel : Byte} {s : State}

theorem exec_startChannel_of_bad_channel (h : s.mgmt.restartPending = false) (hc : chanArg channel = none) :
    exec (.startChannel 2 channel) s = .next (reply 0x10 .badArgument s) := by
  refine congrArg Host.Outcome.next ?_
  rw [ofLength_self, hc, serve_of_bad_args h]

theorem exec_stopChannel_of_bad_channel (h : s.mgmt.restartPending = false) (hc : chanArg channel = none) :
    exec (.stopChannel 2 channel) s = .next (reply 0x11 .badArgument s) := by
  refine congrArg Host.Outcome.next ?_
  rw [ofLength_self, hc, serve_of_bad_args h]

theorem exec_startChannel_of_channel {c : ChanNo} (h : s.mgmt.restartPending = false) (hc : chanArg channel = some c) :
    exec (.startChannel 2 channel) s = .next (startChan c s) := by
  refine congrArg Host.Outcome.next ?_
  rw [ofLength_self, hc, serve_of_served (served_lockNone h)]

theorem exec_stopChannel_of_channel {c : ChanNo} (h : s.mgmt.restartPending = false) (hc : chanArg channel = some c) :
    exec (.stopChannel 2 channel) s = .next (reply 0x11 .done (modChan c stopped s)) := by
  refine congrArg Host.Outcome.next ?_
  rw [ofLength_self, hc, serve_of_served (served_lockNone h)]

end Requests

/-- Settles O39: past the gate START depends only on whether the channel is at work, and STOP on nothing; the fields
that each sets are those of `loadChannel` and `stopped`. -/
theorem channelStartsAndStops : Obligations.ChannelStartsAndStops := by
  intro channel s h
  refine ⟨fun hc => ⟨exec_startChannel_of_bad_channel h hc, exec_stopChannel_of_bad_channel h hc⟩,
    fun c hc => ⟨fun rest => ?start, fun work => ?refused, ?stop⟩⟩
  case start =>
    rw [exec_startChannel_of_channel h hc, startChan_of_inactive (channelActive_of_at_rest rest)]
    rfl
  case refused => rw [exec_startChannel_of_channel h hc, startChan_of_active (channelActive_of_at_work work)]
  case stop => exact exec_stopChannel_of_channel h hc

end Sys2Proof.Machine
end

section
/-! PROOF. Updates of one block of the state, and start-up (chapter 11). Settles O3. -/

namespace Sys2Proof.Machine

open Sys2Proof

/-! ## Operations that write position records only -/

/-- Only position records may differ. -/
def PosOnly (s t : State) : Prop := t = { s with pos := t.pos }

namespace PosOnly

variable {s t u : State}

theorem refl (s : State) : PosOnly s s := rfl

theorem trans (h : PosOnly s t) (k : PosOnly t u) : PosOnly s u := by
  unfold PosOnly at *
  rw [h] at k
  exact k

theorem time (h : PosOnly s t) : t.time = s.time := by rw [h]
theorem content (h : PosOnly s t) : t.content = s.content := by rw [h]
theorem dup (h : PosOnly s t) : t.dup = s.dup := by rw [h]
theorem table (h : PosOnly s t) : t.table = s.table := by rw [h]
theorem strangers (h : PosOnly s t) : t.strangers = s.strangers := by rw [h]
theorem vehicle (h : PosOnly s t) : t.vehicle = s.vehicle := by rw [h]
theorem truckWalk (h : PosOnly s t) : t.truckWalk = s.truckWalk := by rw [h]
theorem trailerWalk (h : PosOnly s t) : t.trailerWalk = s.trailerWalk := by rw [h]
theorem chan (h : PosOnly s t) : t.chan = s.chan := by rw [h]
theorem tx (h : PosOnly s t) : t.tx = s.tx := by rw [h]
theorem mgmt (h : PosOnly s t) : t.mgmt = s.mgmt := by rw [h]
theorem store (h : PosOnly s t) : t.store = s.store := by rw [h]
theorem pending (h : PosOnly s t) : t.pending = s.pending := by rw [h]

theorem foldl {α : Type} {f : State → α → State} (h : ∀ s x, PosOnly s (f s x)) (l : List α) (s : State) :
    PosOnly s (l.foldl f s) := by
  induction l generalizing s with
  | nil => exact refl s
  | cons x l ih => exact (h s x).trans (ih _)

end PosOnly

theorem modPos_posOnly (p : Pos) (f : PosRec → PosRec) (s : State) : PosOnly s (modPos p f s) := rfl

theorem modCond_posOnly (p : Pos) (f : Cond → Cond) (s : State) : PosOnly s (modCond p f s) := rfl

/-- Two states of the same position records are the same at every position. -/
theorem posRec_of_pos {s t : State} (h : t.pos = s.pos) (p : Pos) : posRec t p = posRec s p := by
  simp only [posRec, h]

theorem chanRun_of_chan {s t : State} (h : t.chan = s.chan) (c : ChanNo) : chanRun t c = chanRun s c := by
  simp only [chanRun, h]

/-- Positions worked on one after the other, each at its own record alone: every one of them is worked on once. -/
theorem posRec_foldl {F : State → Pos → State} {Inv : State → Prop} {G : Pos → PosRec → PosRec}
    (keeps : ∀ u p, Inv u → Inv (F u p))
    (writes : ∀ u p q, Inv u → posRec (F u p) q = if q = p then G p (posRec u p) else posRec u q)
    {l : List Pos} (nodup : l.Nodup) {s : State} (h : Inv s) (q : Pos) :
    posRec (l.foldl F s) q = if q ∈ l then G q (posRec s q) else posRec s q := by
  induction l generalizing s with
  | nil => rfl
  | cons p l ih =>
    obtain ⟨notin, nodup⟩ := List.nodup_cons.mp nodup
    rw [List.foldl_cons, ih nodup (keeps s p h), writes s p q h]
    by_cases hq : q = p
    · subst hq
      simp [notin]
    · simp [hq]

/-! ## What a position reads of the rest of the state -/

section Reads

variable {s t : State}

theorem geometry_congr (h : t.content.geometry = s.content.geometry) (p : Pos) : geometry t p = geometry s p := by
  simp only [geometry, h]

theorem entryAt_congr (h : t.content.sensors = s.content.sensors) (e : EntryNo) : entryAt t e = entryAt s e := by
  simp only [entryAt, h]

theorem isActive_congr (h : t.vehicle.set = s.vehicle.set) (g : SetNo) : isActive t g = isActive s g := by
  simp only [isActive, h]

theorem entryFor_congr (hs : t.content.sensors = s.content.sensors) (hv : t.vehicle.set = s.vehicle.set) (p : Pos) :
    entryFor t p = entryFor s p := by
  simp only [entryFor, entryAt_congr hs, isActive_congr hv]

theorem findId_congr (h : t.content.sensors = s.content.sensors) (sid : SensorId) : findId t sid = findId s sid := by
  simp only [findId, entryAt_congr h]

theorem partnerOf_congr (h : t.content.geometry = s.content.geometry) (p : Pos) : partnerOf t p = partnerOf s p := by
  simp only [partnerOf, geometry_congr h]

theorem lifted_congr (h : t.vehicle.lift = s.vehicle.lift) (p : Pos) : lifted t p = lifted s p := by
  simp only [lifted, h]

theorem cacheFor_congr (hg : t.content.geometry = s.content.geometry) (hp : t.content.profiles = s.content.profiles)
    (hv : t.vehicle = s.vehicle) (p : Pos) : cacheFor t p = cacheFor s p := by
  simp only [cacheFor, mainProfile, lowProfile, profileFor, lifted_congr (congrArg Vehicle.lift hv),
    geometry_congr hg, hp, hv]

theorem chanConfig_congr (h : t.content.channels = s.content.channels) (c : ChanNo) : chanConfig t c = chanConfig s c := by
  simp only [chanConfig, h]

end Reads

/-! ## Start-up at the positions (R56, R108) -/

/-- The record start-up leaves at a position: its state, bound entry and cache derived from the rest of the state. -/
def startRec (s : State) (p : Pos) (r : PosRec) : PosRec :=
  { r with
    state := if (geometry s p).fitted then (if (entryFor s p).isSome then .waiting else .unbound) else .vacant
    bound := if (geometry s p).fitted then entryFor s p else none
    cache := cacheFor s p }

theorem startPosition_eq (s : State) (p : Pos) : startPosition s p = modPos p (startRec s p) s := by
  unfold startPosition startRec
  cases hf : (geometry s p).fitted <;> simp

theorem startRec_congr {s t : State} (hc : t.content = s.content) (hv : t.vehicle = s.vehicle) (p : Pos) :
    startRec t p = startRec s p := by
  unfold startRec
  simp only [geometry_congr (congrArg Content.geometry hc), cacheFor_congr (congrArg Content.geometry hc)
    (congrArg Content.profiles hc) hv, entryFor_congr (congrArg Content.sensors hc) (congrArg Vehicle.set hv)]

/-- Every position started, in turn. -/
def startPositions (s : State) : State := (List.finRange 32).foldl startPosition s

theorem startPositions_posOnly (s : State) : PosOnly s (startPositions s) :=
  PosOnly.foldl (fun s p => modPos_posOnly p _ s) _ s

theorem startPositions_posRec (s : State) (p : Pos) : posRec (startPositions s) p = startRec s p (posRec s p) := by
  have all := posRec_foldl (F := startPosition) (Inv := fun u => PosOnly s u) (G := fun p => startRec s p)
    (fun u p h => h.trans (modPos_posOnly p _ u))
    (fun u p q h => by rw [startPosition_eq, posRec_modPos, startRec_congr h.content h.vehicle])
    (List.nodup_finRange 32) (PosOnly.refl s) p
  rwa [if_pos (List.mem_finRange p)] at all

/-! ## Start-up at the channels (R149, R150) -/

/-- The runtime of a loaded channel (R150). -/
def loadedRun (now : Nat) (k : ChanConfig) (r : ChanRun) : ChanRun :=
  { r with
    state := .armed, pointer := k.start, blockStart := k.start, remaining := fullCount k, blockRem := blockSize k
    job := false, pendingTrigger := false
    due := if k.trigger = .period then some (now + k.period * 1000) else none }

theorem loadChannel_eq (c : ChanNo) (s : State) : loadChannel c s = modChan c (loadedRun s.time (chanConfig s c)) s := rfl

/-- The channels that start at power-up, in turn. -/
def startChannels (s : State) : State := (List.finRange 4).foldl startIfMarked s

/-- Only the channels may differ. -/
def ChanOnly (s t : State) : Prop := t = { s with chan := t.chan }

theorem ChanOnly.trans {s t u : State} (h : ChanOnly s t) (k : ChanOnly t u) : ChanOnly s u := by
  unfold ChanOnly at *
  rw [h] at k
  exact k

theorem ChanOnly.time {s t : State} (h : ChanOnly s t) : t.time = s.time := by rw [h]
theorem ChanOnly.tx {s t : State} (h : ChanOnly s t) : t.tx = s.tx := by rw [h]
theorem ChanOnly.pos {s t : State} (h : ChanOnly s t) : t.pos = s.pos := by rw [h]

theorem ChanOnly.foldl {α : Type} {f : State → α → State} (h : ∀ s x, ChanOnly s (f s x)) (l : List α) (s : State) :
    ChanOnly s (l.foldl f s) := by
  induction l generalizing s with
  | nil => rfl
  | cons x l ih => exact (h s x).trans (ih _)

theorem modChan_chanOnly (c : ChanNo) (f : ChanRun → ChanRun) (s : State) : ChanOnly s (modChan c f s) := rfl

theorem startIfMarked_chanOnly (s : State) (c : ChanNo) : ChanOnly s (startIfMarked s c) := by
  unfold startIfMarked
  split
  · rw [loadChannel_eq]
    exact modChan_chanOnly c _ s
  · rfl

theorem startChannels_chanOnly (s : State) : ChanOnly s (startChannels s) := ChanOnly.foldl startIfMarked_chanOnly _ s

theorem startIfMarked_chanRun (s : State) (c d : ChanNo) :
    chanRun (startIfMarked s c) d =
      if d = c ∧ (chanConfig s c).powerUp = true then loadedRun s.time (chanConfig s c) (chanRun s c)
      else chanRun s d := by
  unfold startIfMarked
  split
  · next h => simp only [loadChannel_eq, chanRun_modChan, h, and_true]
  · next h => simp only [h, and_false, if_false, Bool.false_eq_true]

/-- Channels worked on one after the other, each at its own runtime alone: every one of them is worked on once. -/
theorem chanRun_foldl {F : State → ChanNo → State} {Inv : State → Prop} {G : ChanNo → ChanRun → ChanRun}
    (keeps : ∀ u c, Inv u → Inv (F u c))
    (writes : ∀ u c d, Inv u → chanRun (F u c) d = if d = c then G c (chanRun u c) else chanRun u d)
    {l : List ChanNo} (nodup : l.Nodup) {s : State} (h : Inv s) (d : ChanNo) :
    chanRun (l.foldl F s) d = if d ∈ l then G d (chanRun s d) else chanRun s d := by
  induction l generalizing s with
  | nil => rfl
  | cons c l ih =>
    obtain ⟨notin, nodup⟩ := List.nodup_cons.mp nodup
    rw [List.foldl_cons, ih nodup (keeps s c h), writes s c d h]
    by_cases hd : d = c
    · subst hd
      simp [notin]
    · simp [hd]

theorem startChannels_chanRun (s : State) (c : ChanNo) :
    chanRun (startChannels s) c =
      if (chanConfig s c).powerUp = true then loadedRun s.time (chanConfig s c) (chanRun s c) else chanRun s c := by
  have all := chanRun_foldl (F := startIfMarked) (Inv := fun u => ChanOnly s u)
    (G := fun c r => if (chanConfig s c).powerUp = true then loadedRun s.time (chanConfig s c) r else r)
    (fun u c h => h.trans (startIfMarked_chanOnly u c))
    (fun u c d h => by
      have hc : chanConfig u c = chanConfig s c := chanConfig_congr (by rw [h]) c
      have ht : u.time = s.time := by rw [h]
      rw [startIfMarked_chanRun, hc, ht]
      by_cases hd : d = c <;> by_cases hp : (chanConfig s c).powerUp = true <;> simp [hd, hp])
    (List.nodup_finRange 4) (s := s) rfl c
  rwa [if_pos (List.mem_finRange c)] at all

/-! ## Start-up as a whole (R174) -/

@[simp] theorem startUpBase_time (s : State) : (startUpBase s).time = 0 := rfl
@[simp] theorem startUpBase_tx (s : State) : (startUpBase s).tx = TxQueue.empty := rfl
@[simp] theorem startUpBase_content (s : State) : (startUpBase s).content = loadedContent s.store.image := rfl

theorem startUpBase_chanRun (s : State) (c : ChanNo) : chanRun (startUpBase s) c = ChanRun.idle := by
  simp [startUpBase, State.reset, chanRun, pick]

theorem startUpBase_posRec (s : State) (p : Pos) : posRec (startUpBase s) p = PosRec.vacant := by
  simp [startUpBase, State.reset, posRec, pick]

theorem placeService_startup {s : State} (htime : s.time = 0) (htx : s.tx = TxQueue.empty) (configured : Bool) :
    placeService (startupNotice configured) s =
      { s with tx := { TxQueue.empty with frames := [startupFrame configured] } } := by
  unfold placeService newFrame
  rw [htx, htime]
  rfl

theorem startUp_eq (s : State) :
    startUp s = { startChannels (startPositions (startUpBase s)) with
      tx := { TxQueue.empty with frames := [startupFrame (imageValid s.store.image)] } } := by
  have chans := startChannels_chanOnly (startPositions (startUpBase s))
  have places := startPositions_posOnly (startUpBase s)
  have whole : startUp s = placeService (startupNotice (imageValid s.store.image))
      (startChannels (startPositions (startUpBase s))) := by
    simp only [startUp, startChannels, startPositions]
  rw [whole]
  exact placeService_startup (chans.time.trans (places.time.trans (startUpBase_time s)))
    (chans.tx.trans (places.tx.trans (startUpBase_tx s))) _

theorem PosOnly.chan_tx {b u v t : State} {tx : TxQueue} (h : PosOnly b u) (k : ChanOnly u v)
    (e : t = { v with tx := tx }) : t = { b with pos := t.pos, chan := t.chan, tx := tx } := by
  subst e
  cases b
  cases u
  cases v
  simp_all [PosOnly, ChanOnly]

/-- Start-up writes the base state of every block but the positions, the channels and the queue. -/
theorem startUp_blocks (s : State) :
    startUp s = { startUpBase s with
      pos := (startUp s).pos
      chan := (startUp s).chan
      tx := { TxQueue.empty with frames := [startupFrame (imageValid s.store.image)] } } := by
  exact (startPositions_posOnly (startUpBase s)).chan_tx (startChannels_chanOnly _) (startUp_eq s)

theorem startUp_content (s : State) : (startUp s).content = loadedContent s.store.image := by
  rw [startUp_blocks]
  rfl

theorem startUp_vehicle (s : State) : (startUp s).vehicle = Vehicle.reset := by
  rw [startUp_blocks]
  rfl

theorem startUp_posRec (s : State) (p : Pos) : posRec (startUp s) p = startRec (startUp s) p PosRec.vacant := by
  have same : posRec (startUp s) p = posRec (startPositions (startUpBase s)) p := by
    rw [startUp_eq]
    simp only [posRec]
    rw [(startChannels_chanOnly (startPositions (startUpBase s))).pos]
  rw [same, startPositions_posRec, startUpBase_posRec]
  exact congrFun (startRec_congr (startUp_content s).symm (startUp_vehicle s).symm p) _

theorem startChannels_startPositions_chanRun (b : State) (c : ChanNo) :
    chanRun (startChannels (startPositions b)) c =
      if (chanConfig b c).powerUp = true then loadedRun b.time (chanConfig b c) (chanRun b c) else chanRun b c := by
  have places := startPositions_posOnly b
  rw [startChannels_chanRun, chanRun_of_chan places.chan, places.time,
    chanConfig_congr (congrArg Content.channels places.content)]

theorem startUp_chanRun (s : State) (c : ChanNo) :
    chanRun (startUp s) c =
      if (chanConfig (startUp s) c).powerUp = true then loadedRun 0 (chanConfig (startUp s) c) ChanRun.idle
      else ChanRun.idle := by
  have hconf : chanConfig (startUp s) c = chanConfig (startUpBase s) c :=
    chanConfig_congr (s := startUpBase s) (t := startUp s) (congrArg Content.channels (startUp_content s)) c
  have all := startChannels_startPositions_chanRun (startUpBase s) c
  rw [startUpBase_chanRun, startUpBase_time] at all
  rw [hconf, ← all, startUp_eq]
  simp only [chanRun]

theorem startUp_mgmt (s : State) : (startUp s).mgmt =
    { summary := false, nodeInForce := (startUp s).content.settings.node, nodePending := none, restartPending := false } := by
  rw [startUp_content, startUp_blocks]
  rfl

/-- Settles O3: start-up is the base state with the derived positions, the started channels and the STARTUP notice. -/
theorem powerOnStartsUp : Obligations.PowerOnStartsUp := by
  intro s
  have blocks := startUp_blocks s
  generalize ht : startUp s = t at blocks
  refine ⟨t, congrArg Host.Outcome.next ht, congrArg State.time blocks, congrArg State.vehicle blocks,
    congrArg State.frontPort blocks, congrArg State.rearPort blocks, congrArg State.dup blocks,
    congrArg State.table blocks, congrArg State.strangers blocks, congrArg State.truckWalk blocks,
    congrArg State.trailerWalk blocks, congrArg State.content blocks, ?store, ht ▸ startUp_mgmt s, ?queue,
    ?waiting, fun p => ?positions, fun c => ?channels⟩
  case positions => exact ht ▸ startUp_posRec s p
  case channels =>
    rw [← ht, startUp_chanRun]
    simp only [loadedRun, ChanRun.idle, Nat.zero_add]
  case store =>
    rw [blocks]
    rfl
  case queue => rw [blocks]
  case waiting =>
    rw [blocks]
    rfl

end Sys2Proof.Machine
end

section
/-! PROOF. The work of an event as a chain of primitive operations: what the transmit queue, the channels and the
pending restart see of it. -/

namespace Sys2Proof.Machine

open Sys2Proof

/-! ## Operations that write position records only -/

theorem setBinding_posOnly (p : Pos) (st : PosState) (e : Option EntryNo) (s : State) : PosOnly s (setBinding p st e s) :=
  modPos_posOnly p _ s

theorem partnerNotice_posOnly (p : Pos) (partner : Option Pos) (s : State) : PosOnly s (partnerNotice p partner s) := by
  unfold partnerNotice
  split
  · exact PosOnly.refl s
  · split
    · exact (modCond_posOnly _ _ _).trans (modCond_posOnly _ _ _)
    · exact PosOnly.refl s

theorem noticeIfLive_posOnly (p : Pos) (partner : Option Pos) (s : State) : PosOnly s (noticeIfLive p partner s) := by
  unfold noticeIfLive
  split
  · exact partnerNotice_posOnly _ _ _
  · exact PosOnly.refl s

theorem clearRuntime_posOnly (p : Pos) (partner : Option Pos) (s : State) : PosOnly s (clearRuntime p partner s) :=
  (noticeIfLive_posOnly p partner s).trans (modPos_posOnly _ _ _)

theorem bindPos_posOnly (p : Pos) (e : EntryNo) (s : State) : PosOnly s (bindPos p e s) := by
  unfold bindPos
  split
  · exact PosOnly.refl s
  · exact setBinding_posOnly _ _ _ _
  all_goals exact (clearRuntime_posOnly _ _ _).trans (setBinding_posOnly _ _ _ _)

theorem unbindPos_posOnly (p : Pos) (s : State) : PosOnly s (unbindPos p s) := by
  unfold unbindPos
  split
  · exact PosOnly.refl s
  · exact PosOnly.refl s
  all_goals exact (clearRuntime_posOnly _ _ _).trans (setBinding_posOnly _ _ _ _)

theorem clearPos_posOnly (p : Pos) (s : State) : PosOnly s (clearPos p s) := by
  unfold clearPos
  split
  · exact PosOnly.refl s
  · exact PosOnly.refl s
  all_goals exact (clearRuntime_posOnly _ _ _).trans (modPos_posOnly _ _ _)

theorem rederivePos_posOnly (s : State) (p : Pos) : PosOnly s (rederivePos s p) := by
  unfold rederivePos
  split
  · exact PosOnly.refl s
  · simp only
    split <;> exact (unbindPos_posOnly _ _).trans (setBinding_posOnly _ _ _ _)

theorem rederiveTrailer_posOnly (s : State) : PosOnly s (rederiveTrailer s) := PosOnly.foldl rederivePos_posOnly _ s

theorem goSilent_posOnly (p : Pos) (s : State) : PosOnly s (goSilent p s) :=
  (noticeIfLive_posOnly _ _ _).trans (modPos_posOnly _ _ _)

theorem rederiveCache_posOnly (s : State) (p : Pos) : PosOnly s (rederiveCache s p) := modPos_posOnly p _ s

theorem rederiveCaches_posOnly (which : Pos → Bool) (s : State) : PosOnly s (rederiveCaches which s) :=
  PosOnly.foldl rederiveCache_posOnly _ s

theorem expireInterval_posOnly (p : Pos) (t : Nat) (s : State) : PosOnly s (expireInterval p t s) := modPos_posOnly p _ s

theorem judgeTwin_posOnly (p : Pos) (s : State) : PosOnly s (judgeTwin p s) := by
  unfold judgeTwin
  repeat' split
  all_goals first
    | exact PosOnly.refl s
    | exact (modCond_posOnly _ _ _).trans (modCond_posOnly _ _ _)

theorem stopSilence_posOnly (old s : State) : PosOnly s (stopSilence old s) := rfl

theorem applyNotices_posOnly (n : Notices) (e : EntryNo) (s : State) : PosOnly s (applyNotices n e s) := by
  unfold applyNotices
  cases n.unbind <;> cases n.bind
  · exact PosOnly.refl s
  · exact bindPos_posOnly _ _ _
  · exact unbindPos_posOnly _ _
  · exact (unbindPos_posOnly _ _).trans (bindPos_posOnly _ _ _)

theorem announceLoad_posOnly (old : Vehicle) (s : State) : PosOnly s (announceLoad old s) := by
  unfold announceLoad
  split
  · exact PosOnly.refl s
  · exact rederiveCaches_posOnly _ _

theorem announceLift_posOnly (old : Vehicle) (s : State) : PosOnly s (announceLift old s) := rederiveCaches_posOnly _ s

/-! ## Chains of primitive operations -/

/-- A chain of the primitive operations that events are made of, as the queue, the channels and a pending restart see
them: an operation that touches none of these and no channel's configuration, a new frame offered to the queue, and a
trigger of a channel. None takes device time or a waiting command. -/
inductive Work : State → State → Prop
  | quiet {s t : State} (tx : t.tx = s.tx) (chan : t.chan = s.chan) (channels : t.content.channels = s.content.channels)
      (restart : t.mgmt.restartPending = s.mgmt.restartPending) (time : t.time = s.time)
      (pending : t.pending = s.pending) : Work s t
  | offer {s : State} (f : Frame) (offered : f.offered = none) (awaited : f.awaited = none) :
      Work s { s with tx := (offerFrame f s.tx).tx }
  | trigger {s : State} (c : ChanNo) : Work s (trigger c s)
  | trans {s t u : State} (h : Work s t) (k : Work t u) : Work s u

namespace Work

theorem refl (s : State) : Work s s := quiet rfl rfl rfl rfl rfl rfl

theorem of_posOnly {s t : State} (h : PosOnly s t) : Work s t :=
  quiet h.tx h.chan (congrArg Content.channels h.content) (congrArg Mgmt.restartPending h.mgmt)
    h.time h.pending

theorem from_quiet {s t u : State} (k : Work t u) (tx : t.tx = s.tx) (chan : t.chan = s.chan)
    (channels : t.content.channels = s.content.channels)
    (restart : t.mgmt.restartPending = s.mgmt.restartPending) (time : t.time = s.time) (pending : t.pending = s.pending) :
    Work s u := (quiet tx chan channels restart time pending).trans k

theorem foldl {α : Type} {f : State → α → State} (h : ∀ s x, Work s (f s x)) (l : List α) (s : State) :
    Work s (l.foldl f s) := by
  induction l generalizing s with
  | nil => exact refl s
  | cons x l ih => exact (h s x).trans (ih _)

end Work

/-! ## Frames and events -/

theorem placeService_work (body : Body) (s : State) : Work s (placeService body s) := Work.offer _ rfl rfl

theorem reply_work (kind : Byte) (st : Status) (s : State) : Work s (reply kind st s) := placeService_work _ s

theorem placeAll_work (bodies : List Body) (s : State) : Work s (placeAll bodies s) :=
  Work.foldl (fun s b => placeService_work b s) bodies s

theorem generateAlert_work (p : Pos) (why : Reason) (s : State) : Work s (generateAlert p why s) := by
  unfold generateAlert
  exact (Work.offer (newFrame s .alert (.alert (viewOf s p) why) none) rfl rfl).trans
    (.of_posOnly (modCond_posOnly p _ _))

theorem closeAt_work (before : State) (cleared : Pos → Bool) (acc : Closing) (p : Pos) :
    Work acc.state (closeAt before cleared acc p).state := by
  unfold closeAt
  split
  · exact generateAlert_work _ _ _
  · exact Work.refl _

theorem closeFold_work (before : State) (cleared : Pos → Bool) (l : List Pos) (acc : Closing) :
    Work acc.state (l.foldl (closeAt before cleared) acc).state := by
  induction l generalizing acc with
  | nil => exact Work.refl _
  | cons p l ih => exact (closeAt_work before cleared acc p).trans (ih _)

theorem closeEvent_work (before : State) (cleared : Pos → Bool) (s : State) :
    Work s (closeEvent before cleared s).state := closeFold_work before cleared _ { state := s, alerts := [] }

theorem tellChannel_work (alerts : List Pos) (sample : Option Pos) (s : State) (c : ChanNo) :
    Work s (tellChannel alerts sample s c) := by
  unfold tellChannel
  simp only
  split
  · exact Work.foldl (fun s _ => Work.trigger c) _ s
  · split
    · split
      · exact Work.trigger c
      · exact Work.refl s
    · exact Work.refl s
  · exact Work.refl s
  · exact Work.refl s

theorem tellChannels_work (alerts : List Pos) (sample : Option Pos) (s : State) :
    Work s (tellChannels alerts sample s) := Work.foldl (tellChannel_work alerts sample) _ s

theorem finishEvent_work (before : State) (touched : List Pos) (sample : Option Pos) (s : State) :
    Work s (finishEvent before touched sample s) :=
  (closeEvent_work _ _ s).trans (tellChannels_work _ _ _)

/-! ## Readings and the sensor table -/

/-- A reading writes position records and the summary flag only (R61, R85). -/
theorem applyReading_eq (p : Pos) (rd : Reading) (s : State) :
    applyReading p rd s = { s with pos := (applyReading p rd s).pos, mgmt := (applyReading p rd s).mgmt } := by
  unfold applyReading
  rw [judgeTwin_posOnly p]
  rfl

theorem applyReading_mgmt (p : Pos) (rd : Reading) (s : State) :
    (applyReading p rd s).mgmt =
      { s.mgmt with summary := s.mgmt.summary || (readRec s rd (posRec s p)).clamped } := by
  unfold applyReading
  exact (judgeTwin_posOnly p _).mgmt

theorem applyReading_work (p : Pos) (rd : Reading) (s : State) : Work s (applyReading p rd s) := by
  have restart : (applyReading p rd s).mgmt.restartPending = s.mgmt.restartPending := by rw [applyReading_mgmt]
  refine Work.quiet ?_ ?_ ?_ restart ?_ ?_ <;> rw [applyReading_eq]

theorem writeEntry_work (e : EntryNo) (new : Entry) (s : State) : Work s (writeEntry e new s) :=
  Work.quiet rfl rfl rfl rfl rfl rfl

theorem dropStranger_work (sid : SensorId) (s : State) : Work s (dropStranger sid s) :=
  Work.quiet rfl rfl rfl rfl rfl rfl

theorem markChanged_work (s : State) : Work s (markChanged s) := Work.quiet rfl rfl rfl rfl rfl rfl

theorem modWalk_work (h : Half) (f : WalkSlot → WalkSlot) (s : State) : Work s (modWalk h f s) := by
  cases h <;> exact Work.quiet rfl rfl rfl rfl rfl rfl

theorem displace_work (g : SetNo) (p : Pos) (s : State) : Work s (displace g p s) := by
  unfold displace
  split
  · exact writeEntry_work _ _ _
  · exact Work.refl s

theorem bindTable_work {sid : SensorId} {g : SetNo} {p : Pos} {s : State} {b : TableBinding}
    (h : bindTable sid g p s = some b) : Work s b.state := by
  unfold bindTable at h
  split at h
  · simp only at h
    split at h <;> cases h
    · exact Work.refl s
    · exact (displace_work g p s).trans (writeEntry_work _ _ _)
  · simp only at h
    split at h <;> cases h
    exact ((displace_work g p s).trans (writeEntry_work _ _ _)).trans (dropStranger_work _ _)

/-! ## Walks and strangers -/

theorem bindAndRead_work (b : TableBinding) (p : Pos) (ev : Evidence) : Work b.state (bindAndRead b p ev) := by
  unfold bindAndRead
  simp only
  split
  · exact ((Work.of_posOnly (unbindPos_posOnly _ _)).trans (.of_posOnly (bindPos_posOnly _ _ _))).trans
      (applyReading_work _ _ _)
  · exact (Work.of_posOnly (bindPos_posOnly _ _ _)).trans (applyReading_work _ _ _)

theorem finishWalk_work (h : Half) (r : WalkResult) (s : State) : Work s (finishWalk h r s) :=
  (modWalk_work h _ s).trans (placeService_work _ _)

theorem endWalkIfOpen_work (h : Half) (r : WalkResult) (s : State) : Work s (endWalkIfOpen h r s) := by
  unfold endWalkIfOpen
  split
  · exact finishWalk_work _ _ _
  · exact Work.refl s

theorem advanceWalk_work (h : Half) (w : OpenWalk) (k : Nat) (s : State) : Work s (advanceWalk h w k s) := by
  unfold advanceWalk
  split
  · exact modWalk_work _ _ _
  · exact finishWalk_work _ _ _

theorem countBinding_work (h : Half) (w : OpenWalk) (ev : Evidence) (s : State) : Work s (countBinding h w ev s) :=
  (modWalk_work _ _ _).trans (advanceWalk_work _ _ _ _)

theorem carryBinding_work (h : Half) (w : OpenWalk) (ev : Evidence) (b : TableBinding) (before : State) :
    Work b.state (carryBinding h w ev b before) :=
  (((bindAndRead_work b w.current ev).trans (finishEvent_work _ _ _ _)).trans (placeService_work _ _)).trans
    (countBinding_work h w ev _)

theorem hearStranger_work (ev : Evidence) (s : State) : Work s (hearStranger ev s) := by
  unfold hearStranger
  split
  · unfold updateStranger
    simp only
    split
    · exact (placeService_work _ _).from_quiet rfl rfl rfl rfl rfl rfl
    · exact Work.quiet rfl rfl rfl rfl rfl rfl
  · unfold addStranger
    simp only
    split <;> exact Work.quiet rfl rfl rfl rfl rfl rfl

theorem handOn_work (ev : Evidence) (s : State) : Work s (handOn ev s) := by
  unfold handOn
  split
  · exact hearStranger_work _ _
  · exact Work.refl s

theorem bindAtWalk_work (h : Half) (w : OpenWalk) (ev : Evidence) (s : State) : Work s (bindAtWalk h w ev s) := by
  unfold bindAtWalk
  split
  · next hb => exact (bindTable_work hb).trans (carryBinding_work _ _ _ _ _)
  · exact (finishWalk_work _ _ _).trans (handOn_work _ _)

theorem judgeOne_work (h : Half) (w : OpenWalk) (ev : Evidence) (s : State) : Work s (judgeOne h w ev s) := by
  unfold judgeOne
  split
  · exact bindAtWalk_work _ _ _ _
  · exact (modWalk_work _ _ _).trans (handOn_work _ _)

theorem judgeTwo_work (t r : OpenWalk) (ev : Evidence) (s : State) : Work s (judgeTwo t r ev s) := by
  unfold judgeTwo
  split
  · exact bindAtWalk_work _ _ _ _
  · exact bindAtWalk_work _ _ _ _
  · exact ((modWalk_work _ _ _).trans (modWalk_work _ _ _)).trans (handOn_work _ _)
  · exact ((modWalk_work _ _ _).trans (modWalk_work _ _ _)).trans (handOn_work _ _)

theorem deliver_work (ev : Evidence) (s : State) : Work s (deliver ev s) := by
  unfold deliver
  split
  · split
    · exact judgeTwo_work _ _ _ _
    · exact judgeOne_work _ _ _ _
    · exact judgeOne_work _ _ _ _
    · exact handOn_work _ _
  · exact handOn_work _ _

theorem expireWindow_work (h : Half) (s : State) : Work s (expireWindow h s) := by
  unfold expireWindow
  split
  · split
    · exact finishWalk_work _ _ _
    · exact Work.refl s
  · exact Work.refl s

theorem ageOutHead_work (s : State) : Work s (ageOutHead s) := by
  unfold ageOutHead
  split
  · split
    · exact Work.quiet rfl rfl rfl rfl rfl rfl
    · exact Work.refl s
  · exact Work.refl s

/-! ## Reception -/

/-- The acceptance of a telegram recorded at its entry now (R24). -/
def recordAcceptance (e : EntryNo) (seq : Fin 16) (s : State) : State :=
  { s with table := { s.table with accepted := put s.table.accepted e (some { seq := seq, time := s.time }) } }

theorem acceptTelegram_eq (e : EntryNo) (seq : Fin 16) (t : Telegram) (s : State) :
    acceptTelegram e seq t s =
      finishEvent (recordAcceptance e seq s) [] (some (entryAt s e).pos)
        (applyReading (entryAt s e).pos { offset := (entryAt s e).offset, telegram := t, time := s.time }
          (recordAcceptance e seq s)) := by
  simp only [acceptTelegram, recordAcceptance]

theorem acceptTelegram_work (e : EntryNo) (seq : Fin 16) (t : Telegram) (s : State) :
    Work s (acceptTelegram e seq t s) := by
  rw [acceptTelegram_eq]
  exact ((applyReading_work _ _ (recordAcceptance e seq s)).trans (finishEvent_work _ _ _ _)).from_quiet rfl rfl rfl rfl rfl rfl

/-- All that the lookup of a first copy can do to the state: nothing, a count raised, or the telegram accepted (R22). -/
theorem lookup_cases (sid : SensorId) (seq : Fin 16) (t : Telegram) (s : State) :
    (lookup sid seq t s).state = s ∨ (∃ x : TableState, x.accepted = s.table.accepted ∧
      (lookup sid seq t s).state = { s with table := x }) ∨
    ∃ e, findId s sid = some e ∧ isActive s (entryAt s e).set = true ∧
      isLateRepeat (pick s.table.accepted e) seq s.time = false ∧ (posRec s (entryAt s e).pos).state ≠ .vacant ∧
      (lookup sid seq t s).state = acceptTelegram e seq t s := by
  unfold lookup
  extract_lets learn
  split
  · exact .inl rfl
  · next e he =>
    split
    · exact .inr (.inl ⟨{ s.table with inactiveSet := countUp s.table.inactiveSet }, rfl, rfl⟩)
    · next hact =>
      split
      · exact .inr (.inl ⟨{ s.table with lateRepeat := countUp s.table.lateRepeat }, rfl, rfl⟩)
      · next hlate =>
        split
        · exact .inr (.inl ⟨{ s.table with unplaced := countUp s.table.unplaced }, rfl, rfl⟩)
        · next hvac =>
          rw [Bool.not_eq_true] at hlate
          rw [Bool.not_eq_true, Bool.not_eq_false'] at hact
          refine .inr (.inr ⟨e, he, hact, hlate, hvac, ?_⟩)
          simp only

theorem lookup_work (sid : SensorId) (seq : Fin 16) (t : Telegram) (s : State) :
    Work s (lookup sid seq t s).state := by
  obtain h | ⟨x, -, h⟩ | ⟨e, -, -, -, -, h⟩ := lookup_cases sid seq t s
  · rw [h]
    exact Work.refl s
  · rw [h]
    exact Work.quiet rfl rfl rfl rfl rfl rfl
  · rw [h]
    exact acceptTelegram_work _ _ _ _

theorem setDupEntries_work (xs : List DupEntry) (s : State) : Work s (setDupEntries xs s) :=
  Work.quiet rfl rfl rfl rfl rfl rfl

theorem expiryProcessing_work (e : DupEntry) (s : State) : Work s (expiryProcessing e s) := by
  unfold expiryProcessing
  split
  · exact deliver_work _ _
  · exact Work.refl s

theorem evictIfFull_work (s : State) : Work s (evictIfFull s) := by
  unfold evictIfFull
  split
  · exact Work.refl s
  · split
    · exact Work.refl s
    · exact (expiryProcessing_work _ _).from_quiet rfl rfl rfl rfl rfl rfl

theorem firstCopy_work (c : Copy) (s : State) : Work s (firstCopy c s) := by
  unfold firstCopy
  simp only
  split
  · exact ((setDupEntries_work _ _).trans (lookup_work _ _ _ _)).trans (setDupEntries_work _ _)
  · exact (setDupEntries_work _ _).trans (lookup_work _ _ _ _)

theorem takeCopy_work (c : Copy) (s : State) : Work s (takeCopy c s) := by
  unfold takeCopy
  split
  · exact Work.quiet rfl rfl rfl rfl rfl rfl
  · exact (evictIfFull_work _).trans (firstCopy_work _ _)

theorem modPort_work (port : Port) (f : PortState → PortState) (s : State) : Work s (modPort port f s) := by
  cases port <;> exact Work.quiet rfl rfl rfl rfl rfl rfl

theorem judgeRecord_work (port : Port) (bytes : List Byte) (s : State) : Work s (judgeRecord port bytes s) := by
  unfold judgeRecord
  extract_lets s1
  split
  · exact (modPort_work _ _ _).trans (takeCopy_work _ s1)
  · exact (modPort_work _ _ _).trans (modPort_work _ _ s1)

theorem addByte_work (port : Port) (bytes : List Byte) (b : Byte) (s : State) : Work s (addByte port bytes b s) := by
  unfold addByte
  split
  · exact modPort_work _ _ _
  · exact (modPort_work _ _ _).trans (judgeRecord_work _ _ _)

theorem takeCollecting_work (port : Port) (bytes : List Byte) (escape : Bool) (c : Byte) (s : State) :
    Work s (takeCollecting port bytes escape c s) := by
  unfold takeCollecting
  split
  · split <;> exact modPort_work _ _ _
  · split
    · split
      · exact addByte_work _ _ _ _
      · exact modPort_work _ _ _
    · split
      · exact modPort_work _ _ _
      · exact addByte_work _ _ _ _

theorem takeChar_work (port : Port) (c : Byte) (s : State) : Work s (takeChar port c s) := by
  unfold takeChar
  split
  · split
    · exact modPort_work _ _ _
    · exact Work.refl s
  · exact takeCollecting_work _ _ _ _ _

theorem takeFramingFault_work (port : Port) (s : State) : Work s (takeFramingFault port s) := by
  unfold takeFramingFault
  split
  · exact Work.refl s
  · exact modPort_work _ _ _

theorem expireIdle_work (port : Port) (s : State) : Work s (expireIdle port s) := by
  unfold expireIdle
  split
  · exact Work.refl s
  · split
    · exact modPort_work _ _ _
    · exact Work.refl s

theorem expireDupHead_work (s : State) : Work s (expireDupHead s) := by
  unfold expireDupHead
  split
  · split
    · exact (setDupEntries_work _ _).trans (expiryProcessing_work _ _)
    · exact Work.refl s
  · exact Work.refl s

/-! ## Vehicle state and timers -/

theorem announceSet_work (old : Vehicle) (before s : State) : Work s (announceSet old before s) := by
  unfold announceSet
  split
  · exact Work.refl s
  · exact ((Work.of_posOnly (rederiveTrailer_posOnly s)).trans (finishEvent_work _ _ _ _)).trans (endWalkIfOpen_work _ _ _)

theorem takeVehicleFrame_work (load motion : Byte) (ambient : BitVec 16) (lift set : Byte) (s : State) :
    Work s (takeVehicleFrame load motion ambient lift set s) := by
  unfold takeVehicleFrame
  refine Work.trans ?_ (announceSet_work _ _ _)
  refine Work.trans ?_ (.of_posOnly (announceLift_posOnly _ _))
  refine Work.trans ?_ (.of_posOnly (announceLoad_posOnly _ _))
  exact Work.quiet rfl rfl rfl rfl rfl rfl

theorem expireStaleness_work (s : State) : Work s (expireStaleness s) := by
  unfold expireStaleness
  split
  · exact Work.quiet rfl rfl rfl rfl rfl rfl
  · exact Work.refl s

theorem silenceEvent_work (p : Pos) (s : State) : Work s (silenceEvent p s) :=
  (Work.of_posOnly (goSilent_posOnly p s)).trans (finishEvent_work _ _ _ _)

theorem expireSilence_work (p : Pos) (s : State) : Work s (expireSilence p s) := by
  unfold expireSilence
  split
  · exact silenceEvent_work _ _
  · exact Work.refl s

theorem endIntervalAt_work (p : Pos) (s : State) : Work s (endIntervalAt p s) := by
  unfold endIntervalAt
  split
  · split
    · exact (Work.of_posOnly (expireInterval_posOnly _ _ s)).trans (finishEvent_work _ _ _ _)
    · exact Work.refl s
  · exact Work.refl s

theorem expireRepeat_work (p : Pos) (s : State) : Work s (expireRepeat p s) := by
  unfold expireRepeat
  split
  · split
    · exact (generateAlert_work _ _ _).trans (tellChannels_work _ _ _)
    · exact Work.refl s
  · exact Work.refl s

/-! ## Requests -/

theorem replaceEntry_work (e : EntryNo) (new : Entry) (s : State) : Work s (replaceEntry e new s) :=
  (((writeEntry_work e new s).trans (dropStranger_work _ _)).trans (.of_posOnly (applyNotices_posOnly _ _ _))).trans
    (finishEvent_work _ _ _ _)

theorem writeSensor_work (e : EntryNo) (new : Entry) (s : State) : Work s (writeSensor e new s) := by
  unfold writeSensor
  split
  · exact reply_work _ _ _
  · exact (replaceEntry_work _ _ _).trans (reply_work _ _ _)

theorem clearSensor_work (e : EntryNo) (s : State) : Work s (clearSensor e s) := by
  unfold clearSensor
  split
  · exact (((writeEntry_work _ _ _).trans (.of_posOnly (applyNotices_posOnly _ _ _))).trans
      (finishEvent_work _ _ _ _)).trans (reply_work _ _ _)
  · exact (markChanged_work s).trans (reply_work _ _ _)

theorem refit_posOnly (p : Pos) (old new : Geometry) (partner : Option Pos) (s : State) :
    PosOnly s (refit p old new partner s) := by
  unfold refit
  split
  · split
    · exact (clearRuntime_posOnly _ _ _).trans (setBinding_posOnly _ _ _ _)
    · exact setBinding_posOnly _ _ _ _
  · split
    · split <;> exact setBinding_posOnly _ _ _ _
    · exact PosOnly.refl s

/-- All that a written geometry changes before the frames: the record, the changed flag, and positions (R53). -/
theorem regeometry_posOnly (p : Pos) (new : Geometry) (s : State) :
    PosOnly (markChanged (putGeometry p new s)) (regeometry p new s) := by
  unfold regeometry
  simp only
  split
  · exact refit_posOnly _ _ _ _ _
  · exact (refit_posOnly _ _ _ _ _).trans (rederiveCache_posOnly _ _)

theorem writePos_work (p : Pos) (new : Geometry) (s : State) : Work s (writePos p new s) := by
  unfold writePos
  split
  · exact reply_work _ _ _
  · exact (((Work.of_posOnly (regeometry_posOnly p new s)).trans (finishEvent_work _ _ _ _)).trans
      (reply_work _ _ _)).from_quiet rfl rfl rfl rfl rfl rfl

theorem dropLift_work (a : AxleNo) (s : State) : Work s (dropLift a s) := by
  unfold dropLift
  exact (Work.of_posOnly (announceLift_posOnly _ _)).from_quiet rfl rfl rfl rfl rfl rfl

theorem replaceAxle_work (a : AxleNo) (x : AxleRec) (s : State) : Work s (replaceAxle a x s) := by
  unfold replaceAxle
  simp only
  split
  · exact (dropLift_work _ _).from_quiet rfl rfl rfl rfl rfl rfl
  · exact Work.quiet rfl rfl rfl rfl rfl rfl

theorem writeAxleRec_work (a : AxleNo) (x : AxleRec) (s : State) : Work s (writeAxleRec a x s) := by
  unfold writeAxleRec
  split
  · exact reply_work _ _ _
  · exact (replaceAxle_work _ _ _).trans (reply_work _ _ _)

theorem clearPosition_work (p : Pos) (s : State) : Work s (clearPosition p s) :=
  ((Work.of_posOnly (clearPos_posOnly p s)).trans (finishEvent_work _ _ _ _)).trans (reply_work _ _ _)

theorem replaceProfile_work (load : LoadState) (cls : Fin 8) (f : Profile → Profile) (s : State) :
    Work s (replaceProfile load cls f s) := by
  unfold replaceProfile
  exact (Work.of_posOnly (rederiveCaches_posOnly _ _)).from_quiet rfl rfl rfl rfl rfl rfl

theorem beginWalk_work (a : WalkArgs) (s : State) : Work s (beginWalk a s) := by
  unfold beginWalk
  split
  · exact reply_work _ _ _
  · split
    · exact reply_work _ _ _
    · exact ((modWalk_work _ _ _).trans (reply_work _ _ _)).trans (advanceWalk_work _ _ _ _)

theorem stopWalk_work (h : Half) (s : State) : Work s (stopWalk h s) := by
  unfold stopWalk
  split
  · exact (reply_work _ _ _).trans (finishWalk_work _ _ _)
  · exact reply_work _ _ _

theorem modSettings_work (f : Settings → Settings) (s : State) : Work s (modSettings f s) :=
  Work.quiet rfl rfl rfl rfl rfl rfl

theorem setAndReply_work (f : Settings → Settings) (s : State) : Work s (setAndReply f s) :=
  (modSettings_work f s).trans (reply_work _ _ _)

theorem silenceAtWrite_work (s : State) (p : Pos) : Work s (silenceAtWrite s p) := by
  unfold silenceAtWrite
  split
  · exact silenceEvent_work _ _
  · exact Work.refl s

theorem writeSilence_work (v : Nat) (s : State) : Work s (writeSilence v s) := by
  unfold writeSilence
  simp only
  refine Work.trans ?_ (reply_work _ _ _)
  split
  · exact modSettings_work _ _
  · exact (modSettings_work _ _).trans (Work.foldl silenceAtWrite_work _ _)

theorem writeProtect_work (v : Nat) (s : State) : Work s (writeProtect v s) := by
  unfold writeProtect
  split
  · exact reply_work _ _ _
  · exact setAndReply_work _ _

theorem settleNode_work (s : State) : Work s (settleNode s) := by
  unfold settleNode
  split
  · exact Work.refl s
  · split
    · exact Work.refl s
    · exact Work.quiet rfl rfl rfl rfl rfl rfl

theorem beginStore_work (s : State) : Work s (beginStore s) := Work.quiet rfl rfl rfl rfl rfl rfl

theorem completeStore_work (job : StoreJob) (r : ReadBack) (s : State) : Work s (completeStore job r s) := by
  unfold completeStore
  cases r <;> exact (placeService_work _ _).from_quiet rfl rfl rfl rfl rfl rfl

/-! ## The gate (R162 to R164) -/

/-- What holds of a request however the gate answers it: of the state as it is, of any refusal, and of the owner's work. -/
theorem serve_induct {α : Type} {P : State → Prop} {kind : Byte} {l : Lock} {args : Option α}
    {owner : α → State → State} {s : State} (discarded : P s) (refused : ∀ st, P (reply kind st s))
    (served : ∀ a, args = some a → Served l s → P (owner a s)) : P (serve kind l args owner s) := by
  unfold serve
  split
  · exact discarded
  · next hr =>
    split
    · exact refused _
    · next a =>
      split
      · exact refused _
      · next hl =>
        split
        · exact refused _
        · next hs => exact served a rfl ⟨by simpa using hr, by simpa using hl, by simpa using hs⟩

theorem serve_work {α : Type} (kind : Byte) (l : Lock) (args : Option α) {owner : α → State → State} (s : State)
    (h : ∀ a s, Work s (owner a s)) : Work s (serve kind l args owner s) :=
  serve_induct (Work.refl s) (fun _ => reply_work _ _ _) (fun a _ _ => h a s)

end Sys2Proof.Machine
end

section
/-! PROOF. The law of the transmit queue (chapter 9): offering a frame keeps it, the link keeps it, and every other
command is a chain of offers. Settles O52. -/

namespace Sys2Proof.Machine

open Sys2Proof

/-! ## Commands that are chains of primitive operations -/

/-- Whether a command reaches the channels, the link, the marks of the queue or start-up by itself. All others are chains
of the primitive operations of `Work`. -/
def reachesLink : Instr → Bool
  | .periodTimerExpiry _ | .channelGrant | .queueTakesHead _ | .frameSent _ | .busOff | .busOffRecovery _
  | .restartStartUp | .powerOn | .configureChannelA _ _ _ _ _ _ _ | .configureChannelB _ _ _ _ _ _ _
  | .startChannel _ _ | .stopChannel _ _ | .writeSettingNodeNumber _ _ | .clearDiagnostics _ | .restart _ => true
  | _ => false

theorem Work.of_next {s u t : State} (e : (Host.Outcome.next u : Result) = .next t) (h : Work s u) : Work s t := by
  cases e
  exact h

theorem execStoreCompletion_work (r : ReadBack) {s t : State} (e : execStoreCompletion r s = .next t) : Work s t := by
  refine Work.of_next e ?_
  cases s.store.job with
  | none => exact Work.refl s
  | some job => exact completeStore_work job r s

theorem execAck_work (len : Nat) (position item : Byte) {s t : State} (e : execAck len position item s = .next t) :
    Work s t := by
  refine Work.of_next e ?_
  cases ackItem item with
  | none => exact Work.refl s
  | some k =>
    dsimp only
    split
    · exact .of_posOnly (modCond_posOnly _ _ s)
    · exact Work.refl s

theorem execVehicleCondition_work (len : Nat) (load motion : Byte) (ambient : BitVec 16) (lift set : Byte) {s t : State}
    (e : execVehicleCondition len load motion ambient lift set s = .next t) : Work s t := by
  refine Work.of_next e ?_
  split
  · exact takeVehicleFrame_work _ _ _ _ _ s
  · exact Work.refl s

theorem execUnknownRequest_work (kind : Byte) {s t : State} (e : execUnknownRequest kind s = .next t) : Work s t := by
  refine Work.of_next e ?_
  split
  · exact Work.refl s
  · split <;> exact reply_work _ _ s

theorem exec_work {i : Instr} {s t : State} (hi : reachesLink i = false) (e : exec i s = .next t) : Work s t := by
  cases i with
  | characterTaken port c => exact .of_next e (takeChar_work port c s)
  | framingFault port => exact .of_next e (takeFramingFault_work port s)
  | idleTimerExpiry port => exact .of_next e (expireIdle_work port s)
  | duplicateWindowExpiry => exact .of_next e (expireDupHead_work s)
  | strangerAgeOut => exact .of_next e (ageOutHead_work s)
  | vehicleCondition len load motion ambient lift g => exact execVehicleCondition_work len load motion ambient lift g e
  | stalenessExpiry => exact .of_next e (expireStaleness_work s)
  | silenceExpiry p => exact .of_next e (expireSilence_work p s)
  | intervalExpiry p => exact .of_next e (endIntervalAt_work p s)
  | repeatTimerExpiry p => exact .of_next e (expireRepeat_work p s)
  | ack len position item => exact execAck_work len position item e
  | walkWindowExpiry h => exact .of_next e (expireWindow_work h s)
  | nodeNumberInForce => exact .of_next e (settleNode_work s)
  | storeCompletion r => exact execStoreCompletion_work r e
  | discardedFrame f => exact .of_next e (Work.refl s)
  | unknownRequest kind => exact execUnknownRequest_work kind e
  | writeSensorEntry => exact .of_next e (serve_work _ _ _ s fun a s => writeSensor_work a.1 a.2 s)
  | clearSensorEntry => exact .of_next e (serve_work _ _ _ s clearSensor_work)
  | readSensorEntry => exact .of_next e (serve_work _ _ _ s fun _ s => placeService_work _ s)
  | writePosition => exact .of_next e (serve_work _ _ _ s fun _ s => writePos_work _ _ s)
  | writeAxle => exact .of_next e (serve_work _ _ _ s fun a s => writeAxleRec_work a.1 a.2 s)
  | readPosition => exact .of_next e (serve_work _ _ _ s fun _ s => placeAll_work _ s)
  | clearPosition => exact .of_next e (serve_work _ _ _ s clearPosition_work)
  | readHistory => exact .of_next e (serve_work _ _ _ s fun _ s => placeAll_work _ s)
  | writeProfileA =>
    exact .of_next e (serve_work _ _ _ s fun _ s => (replaceProfile_work _ _ _ s).trans (reply_work _ _ _))
  | writeProfileB =>
    exact .of_next e (serve_work _ _ _ s fun _ s => (replaceProfile_work _ _ _ s).trans (reply_work _ _ _))
  | openWalk => exact .of_next e (serve_work _ _ _ s beginWalk_work)
  | endWalk => exact .of_next e (serve_work _ _ _ s stopWalk_work)
  | walkStatus => exact .of_next e (serve_work _ _ _ s fun _ s => placeService_work _ s)
  | triggerChannel => exact .of_next e (serve_work _ _ _ s fun _ s => (reply_work _ _ s).trans (.trigger _))
  | channelStatus => exact .of_next e (serve_work _ _ _ s fun _ s => placeService_work _ s)
  | writeSettingTref => exact .of_next e (serve_work _ _ _ s fun _ s => setAndReply_work _ s)
  | writeSettingSilenceTimeout => exact .of_next e (serve_work _ _ _ s writeSilence_work)
  | writeSettingRepeatPeriod => exact .of_next e (serve_work _ _ _ s fun _ s => setAndReply_work _ s)
  | writeSettingIntervalLength => exact .of_next e (serve_work _ _ _ s fun _ s => setAndReply_work _ s)
  | writeSettingReportLifetime => exact .of_next e (serve_work _ _ _ s fun _ s => setAndReply_work _ s)
  | writeSettingWalkWindow => exact .of_next e (serve_work _ _ _ s fun _ s => setAndReply_work _ s)
  | writeSettingProtectLevel => exact .of_next e (serve_work _ _ _ s writeProtect_work)
  | readSettings => exact .of_next e (serve_work _ _ _ s fun _ s => placeAll_work _ s)
  | readCounters => exact .of_next e (serve_work _ _ _ s fun _ s => placeAll_work _ s)
  | status => exact .of_next e (serve_work _ _ _ s fun _ s => placeService_work _ s)
  | store => exact .of_next e (serve_work _ _ _ s fun _ s => (beginStore_work s).trans (reply_work _ _ _))
  | _ => cases hi

/-! ## The law of frames and link -/

/-- What `QueueLaw` says of the frames and of the link alone. -/
def FramesLaw (frames : List Frame) (busOff : Bool) : Prop :=
  frames.length ≤ Config.queueCap ∧
  frames.Pairwise (fun f g => classRank f.cls ≤ classRank g.cls) ∧
  (frames.filter (fun f => f.offered.isSome)).length ≤ 1 ∧
  (busOff = true → ∀ f ∈ frames, f.offered = none) ∧
  (∀ f ∈ frames, f.awaited ≠ none → f.cls = .service)

/-- Whether a frame that something waits for stands among frames. -/
def AwaitedIn (a : Await) (frames : List Frame) : Prop := ∃ f ∈ frames, f.awaited = some a

theorem queueLaw_iff (s : State) :
    QueueLaw s ↔ FramesLaw s.tx.frames s.tx.busOff ∧
      (s.mgmt.restartPending = true → AwaitedIn .restart s.tx.frames) := by
  simp only [QueueLaw, FramesLaw, AwaitedIn, and_assoc]

namespace FramesLaw

variable {frames q : List Frame} {busOff : Bool} {f : Frame}

/-- Frames that leave take nothing of the law with them. -/
theorem sublist (h : FramesLaw frames busOff) (k : q.Sublist frames) : FramesLaw q busOff := by
  obtain ⟨length, sorted, one, off, replies⟩ := h
  exact ⟨k.length_le.trans length, sorted.sublist k, (k.filter _).length_le.trans one,
    fun b f hf => off b f (k.subset hf), fun f hf => replies f (k.subset hf)⟩

/-- A frame that is not offered joins the tail of its class. -/
theorem insert (h : FramesLaw q busOff) (room : q.length < Config.queueCap) (offered : f.offered = none)
    (awaited : f.awaited ≠ none → f.cls = .service) : FramesLaw (insertFrame f q) busOff := by
  obtain ⟨length, sorted, one, off, replies⟩ := h
  obtain ⟨before, after, rfl, joined, ahead, behind⟩ := insertFrame_split f q
  have later : ∀ g ∈ after, classRank f.cls ≤ classRank g.cls := by
    intro g hg
    cases after with
    | nil => cases hg
    | cons x rest =>
      have first := (behind x rfl).le
      rcases List.mem_cons.mp hg with rfl | hg
      · exact first
      · exact first.trans ((List.pairwise_cons.mp (List.pairwise_append.mp sorted).2.1).1 g hg)
  refine ⟨by rw [insertFrame_length]; omega, ?_, ?_, fun b g hg => ?_, fun g hg => ?_⟩
  · rw [joined, List.pairwise_append, List.pairwise_cons]
    obtain ⟨front, rear, across⟩ := List.pairwise_append.mp sorted
    refine ⟨front, ⟨later, rear⟩, fun a ha b hb => ?_⟩
    rcases List.mem_cons.mp hb with rfl | hb
    · exact ahead a ha
    · exact across a ha b hb
  · rw [joined]
    simpa [List.filter_append, List.filter_cons, offered] using one
  · rcases mem_insertFrame.mp hg with rfl | hg
    · exact offered
    · exact off b g hg
  · rcases mem_insertFrame.mp hg with rfl | hg
    · exact awaited
    · exact replies g hg

end FramesLaw

/-- A chain of offers of new frames. -/
inductive Offers : TxQueue → TxQueue → Prop
  | refl (tx : TxQueue) : Offers tx tx
  | offer {tx : TxQueue} (f : Frame) (offered : f.offered = none) (awaited : f.awaited ≠ none → f.cls = .service) :
      Offers tx (offerFrame f tx).tx
  | trans {a b c : TxQueue} (h : Offers a b) (k : Offers b c) : Offers a c

theorem evictReport_sublist {q q' : List Frame} (h : evictReport q = some q') : q'.Sublist q := by
  obtain ⟨before, f, after, rfl, rfl, -, -, -⟩ := evictReport_some h
  exact (List.Sublist.refl before).append (List.sublist_cons_self f after)

theorem evictReport_length {q q' : List Frame} (h : evictReport q = some q') : q'.length + 1 = q.length := by
  obtain ⟨before, f, after, rfl, rfl, -, -, -⟩ := evictReport_some h
  simp only [List.length_append, List.length_cons]
  omega

/-- A frame that something waits for is not a REPORT frame, so no eviction takes it. -/
theorem AwaitedIn.evict {q q' : List Frame} {busOff : Bool} (law : FramesLaw q busOff) (h : evictReport q = some q')
    {a : Await} (k : AwaitedIn a q) : AwaitedIn a q' := by
  obtain ⟨length, sorted, one, off, replies⟩ := law
  obtain ⟨f, hf, ha⟩ := k
  have service := replies f hf (by simp [ha])
  obtain ⟨before, g, after, rfl, rfl, report, -, -⟩ := evictReport_some h
  refine ⟨f, ?_, ha⟩
  simp only [List.mem_append, List.mem_cons] at hf ⊢
  rcases hf with hf | rfl | hf
  · exact .inl hf
  · rw [service] at report
    cases report
  · exact .inr hf

namespace Offers

theorem busOff {a b : TxQueue} (h : Offers a b) : b.busOff = a.busOff := by
  induction h with
  | refl => rfl
  | offer f => exact offerFrame_busOff f _
  | trans _ _ ih ih' => exact ih'.trans ih

/-- Offers of new frames keep the law, the frames that are waited for, and a link that holds no frame. -/
theorem keeps {a b : TxQueue} (h : Offers a b) (law : FramesLaw a.frames a.busOff) :
    FramesLaw b.frames b.busOff ∧ (∀ w, AwaitedIn w a.frames → AwaitedIn w b.frames) ∧
      ((∀ f ∈ a.frames, f.offered = none) → ∀ f ∈ b.frames, f.offered = none) := by
  induction h with
  | refl => exact ⟨law, fun _ h => h, fun h => h⟩
  | trans _ _ ih ih' =>
    obtain ⟨l, w, n⟩ := ih law
    obtain ⟨l', w', n'⟩ := ih' l
    exact ⟨l', fun a h => w' a (w a h), fun h => n' (n h)⟩
  | @offer tx f offered awaited =>
    rw [offerFrame_busOff]
    obtain ⟨room, e⟩ | ⟨full, -, q, hq, e⟩ | ⟨-, -, -, e, -⟩ := offerFrame_cases f tx
    · rw [e]
      refine ⟨law.insert room offered awaited, fun w ⟨g, hg, ha⟩ => ⟨g, mem_insertFrame.mpr (.inr hg), ha⟩,
        fun none g hg => ?_⟩
      rcases mem_insertFrame.mp hg with rfl | hg
      · exact offered
      · exact none g hg
    · rw [e]
      have sub := evictReport_sublist hq
      have room : q.length < Config.queueCap := by
        have := evictReport_length hq
        have := law.1
        omega
      refine ⟨(law.sublist sub).insert room offered awaited, fun w k => ?_, fun none g hg => ?_⟩
      · obtain ⟨g, hg, ha⟩ := k.evict law hq
        exact ⟨g, mem_insertFrame.mpr (.inr hg), ha⟩
      · rcases mem_insertFrame.mp hg with rfl | hg
        · exact offered
        · exact none g (sub.subset hg)
    · rw [e]
      exact ⟨law, fun _ h => h, fun h => h⟩

theorem foldl {α : Type} {f : State → α → State} (h : ∀ s x, Offers s.tx (f s x).tx) (l : List α) (s : State) :
    Offers s.tx (l.foldl f s).tx := by
  induction l generalizing s with
  | nil => exact refl _
  | cons x l ih => exact (h s x).trans (ih _)

end Offers

/-! ## The channels offer REPORT frames -/

theorem placeReport_offers (body : Body) (s : State) : Offers s.tx (placeReport body s).tx :=
  Offers.offer (newFrame s .report body none) rfl (fun h => absurd rfl h)

theorem runSlot_offers (c : ChanNo) (s : State) : Offers s.tx (runSlot c s).tx := by
  unfold runSlot
  simp only
  split
  · exact Offers.refl _
  · split
    · exact placeReport_offers _ _
    · split
      · exact placeReport_offers _ _
      · exact Offers.refl _

theorem startPending_tx (c : ChanNo) (s : State) : (startPending c s).tx = s.tx := by
  unfold startPending
  simp only
  split <;> rfl

theorem runJob_offers (n : Nat) (c : ChanNo) (s : State) : Offers s.tx (runJob n c s).tx := by
  induction n generalizing s with
  | zero => exact Offers.refl _
  | succ n ih =>
    simp only [runJob]
    split
    · refine (runSlot_offers c s).trans ?_
      rw [← startPending_tx c (runSlot c s)]
      exact ih _
    · exact Offers.refl _

theorem trigger_offers (c : ChanNo) (s : State) : Offers s.tx (trigger c s).tx := by
  unfold trigger
  simp only
  split
  · exact Offers.refl _
  · exact Offers.refl _
  · exact runJob_offers _ _ (modChan c jobStarted s)
  all_goals split <;> exact Offers.refl _

theorem grantTo_offers (s : State) (c : ChanNo) : Offers s.tx (grantTo s c).tx := by
  unfold grantTo
  split
  · exact runJob_offers _ _ (modChan c (fun r => { r with state := .running }) s)
  · exact Offers.refl _

theorem grantSlot_offers (s : State) : Offers s.tx (grantSlot s).tx := Offers.foldl grantTo_offers _ s

theorem slotFreed_offers (race : SlotRace) (s : State) : Offers s.tx (slotFreed race s).tx := by
  cases race
  · exact grantSlot_offers s
  · exact Offers.refl _

theorem Work.offers {s t : State} (h : Work s t) : Offers s.tx t.tx := by
  induction h with
  | quiet tx => exact tx ▸ Offers.refl _
  | offer f offered awaited => exact Offers.offer f offered (fun h => absurd awaited h)
  | trigger c => exact trigger_offers c _
  | trans _ _ ih ih' => exact ih.trans ih'

theorem Work.restart {s t : State} (h : Work s t) : t.mgmt.restartPending = s.mgmt.restartPending := by
  induction h with
  | quiet _ _ _ restart _ _ => exact restart
  | offer => rfl
  | trigger c => exact congrArg Mgmt.restartPending (trigger_reach c _).mgmt
  | trans _ _ ih ih' => exact ih'.trans ih

/-! ## The law of the queue under offers, start-up and the link -/

theorem QueueLaw.offers {s t : State} (h : QueueLaw s) (tx : Offers s.tx t.tx)
    (restart : t.mgmt.restartPending = s.mgmt.restartPending) : QueueLaw t := by
  rw [queueLaw_iff] at *
  obtain ⟨law, waits⟩ := h
  obtain ⟨law', keeps, -⟩ := tx.keeps law
  exact ⟨law', fun hr => keeps _ (waits (restart ▸ hr))⟩

theorem QueueLaw.work {s t : State} (h : QueueLaw s) (w : Work s t) : QueueLaw t := h.offers w.offers w.restart

theorem framesLaw_startup (configured : Bool) : FramesLaw [startupFrame configured] false := by
  refine ⟨?room, List.pairwise_singleton _ _, List.length_filter_le _ _, fun b => Bool.noConfusion b,
    fun f hf ha => ?_⟩
  case room => exact Nat.le_of_lt_succ (by decide : 1 < 25)
  · rw [List.mem_singleton.mp hf] at ha
    exact absurd rfl ha

theorem startUp_tx (s : State) :
    (startUp s).tx = { TxQueue.empty with frames := [startupFrame (imageValid s.store.image)] } := by
  rw [startUp_blocks]

theorem startUp_queueLaw (s : State) : QueueLaw (startUp s) := by
  rw [queueLaw_iff, startUp_tx, startUp_mgmt]
  exact ⟨framesLaw_startup _, fun h => nomatch h⟩

/-- Taking a head keeps the law where the link is free: a discarded REPORT frame is waited for by nothing, and the head
offered is the only one. -/
theorem takeHead_keeps (race : SlotRace) (n : Nat) {s : State} (law : FramesLaw s.tx.frames s.tx.busOff)
    (free : ∀ f ∈ s.tx.frames, f.offered = none) (on : s.tx.busOff = false) :
    FramesLaw (takeHead race n s).tx.frames (takeHead race n s).tx.busOff ∧
      ∀ w, AwaitedIn w s.tx.frames → AwaitedIn w (takeHead race n s).tx.frames := by
  induction n generalizing s with
  | zero => exact ⟨law, fun _ h => h⟩
  | succ n ih =>
    simp only [takeHead]
    split
    · exact ⟨law, fun _ h => h⟩
    · next f rest hq =>
      rw [hq] at law free
      split
      · next hstale =>
        have report : f.cls = .report := by
          simp only [isStale, Bool.and_eq_true, beq_iff_eq] at hstale
          exact hstale.1
        have freed := slotFreed_offers race
          { s with tx := { s.tx with frames := rest, staleDiscards := countUp s.tx.staleDiscards } }
        obtain ⟨law', keeps, free'⟩ := freed.keeps (law.sublist (List.sublist_cons_self f rest))
        obtain ⟨law'', keeps'⟩ :=
          ih law' (free' fun g hg => free g (List.mem_cons_of_mem f hg)) (freed.busOff.trans on)
        refine ⟨law'', fun w hw => keeps' w (keeps w ?_)⟩
        rw [hq] at hw
        obtain ⟨g, hg, ha⟩ := hw
        refine ⟨g, ?_, ha⟩
        rcases List.mem_cons.mp hg with rfl | hg
        · have service := law.2.2.2.2 g (List.mem_cons_self) (by simp [ha])
          rw [report] at service
          cases service
        · exact hg
      · obtain ⟨length, sorted, -, -, replies⟩ := law
        obtain ⟨ahead, sorted⟩ := List.pairwise_cons.mp sorted
        refine ⟨⟨length, List.pairwise_cons.mpr ⟨ahead, sorted⟩, ?_, fun b => ?_, fun g hg ha => ?_⟩, fun w hw => ?_⟩
        · have others : rest.filter (fun g => g.offered.isSome) = [] := by
            refine List.filter_eq_nil_iff.mpr fun g hg => ?_
            simp [free g (List.mem_cons_of_mem f hg)]
          simp [offerHead, setFrames, others]
        · exact absurd (b.symm.trans on) (by decide)
        · rcases List.mem_cons.mp hg with rfl | hg
          · exact replies f List.mem_cons_self ha
          · exact replies g (List.mem_cons_of_mem f hg) ha
        · rw [hq] at hw
          obtain ⟨g, hg, ha⟩ := hw
          rcases List.mem_cons.mp hg with rfl | hg
          · exact ⟨_, List.mem_cons_self, ha⟩
          · exact ⟨g, List.mem_cons_of_mem _ hg, ha⟩

theorem linkHolds_eq_false {s : State} : linkHolds s = false ↔ ∀ f ∈ s.tx.frames, f.offered = none := by
  simp [linkHolds]

theorem queueStep_keeps (race : SlotRace) {s : State} (law : FramesLaw s.tx.frames s.tx.busOff) :
    FramesLaw (queueStep race s).tx.frames (queueStep race s).tx.busOff ∧
      ∀ w, AwaitedIn w s.tx.frames → AwaitedIn w (queueStep race s).tx.frames := by
  unfold queueStep
  split
  · next ready =>
    simp only [linkReady, Bool.and_eq_true, Bool.not_eq_true'] at ready
    obtain ⟨⟨on, holds⟩, -⟩ := ready
    exact takeHead_keeps race _ law (linkHolds_eq_false.mp holds) on
  · exact ⟨law, fun _ h => h⟩

theorem QueueLaw.queueStep {s : State} (h : QueueLaw s) (race : SlotRace) : QueueLaw (queueStep race s) := by
  rw [queueLaw_iff] at *
  obtain ⟨law, waits⟩ := h
  obtain ⟨law', keeps⟩ := queueStep_keeps race law
  exact ⟨law', fun hr => keeps _ (waits (congrArg Mgmt.restartPending (queueStep_reach race s).mgmt ▸ hr))⟩

theorem frameLeaves_keeps (race : SlotRace) {s : State} (law : FramesLaw s.tx.frames s.tx.busOff) :
    FramesLaw (frameLeaves race s).tx.frames (frameLeaves race s).tx.busOff := by
  have left := law.sublist (q := dropOffered s.tx.frames) List.eraseP_sublist
  have freed := slotFreed_offers race (setFrames (dropOffered s.tx.frames) s)
  exact (queueStep_keeps race (freed.keeps left).1).1

theorem restartDue_eq_false {s : State} :
    restartDue s = false ↔ (s.mgmt.restartPending = true → AwaitedIn .restart s.tx.frames) := by
  cases h : s.mgmt.restartPending <;> simp [restartDue, replyQueued, AwaitedIn, h]

/-- The report of a sent frame: either the reply a restart waits for has gone, and the part starts up, or the law holds
of what the frames that stay leave. -/
theorem QueueLaw.sendFrame {s : State} (h : QueueLaw s) (race : SlotRace) : QueueLaw (sendFrame race s) := by
  obtain ⟨-, e⟩ | ⟨-, -, e⟩ | ⟨-, hd, e⟩ := sendFrame_cases race s
  · rwa [e]
  · rw [e]
    exact startUp_queueLaw s
  · rw [e, queueLaw_iff]
    exact ⟨frameLeaves_keeps race ((queueLaw_iff s).mp h).1, restartDue_eq_false.mp hd⟩

theorem QueueLaw.enterBusOff {s : State} (h : QueueLaw s) : QueueLaw (enterBusOff s) := by
  obtain ⟨length, sorted, -, -, replies, waits⟩ := h
  refine ⟨by simpa [Machine.enterBusOff] using length, ?_, ?_, fun _ f hf => ?_, fun f hf ha => ?_, fun hr => ?_⟩
  · exact List.pairwise_map.mpr sorted
  · simp [Machine.enterBusOff, List.filter_map, Function.comp_def]
  · obtain ⟨g, -, rfl⟩ := List.mem_map.mp hf
    rfl
  · obtain ⟨g, hg, rfl⟩ := List.mem_map.mp hf
    exact replies g hg ha
  · obtain ⟨g, hg, ha⟩ := waits hr
    exact ⟨_, List.mem_map_of_mem hg, ha⟩

theorem QueueLaw.leaveBusOff {s : State} (h : QueueLaw s) (race : SlotRace) : QueueLaw (leaveBusOff race s) := by
  unfold Machine.leaveBusOff
  split
  · refine QueueLaw.queueStep ?_ race
    obtain ⟨length, sorted, one, -, replies, waits⟩ := h
    exact ⟨length, sorted, one, fun b => (nomatch b), replies, waits⟩
  · exact h

theorem QueueLaw.forgetNode {s : State} (h : QueueLaw s) : QueueLaw (forgetNode s) := by
  obtain ⟨length, sorted, one, off, replies, waits⟩ := h
  have cls : ∀ f, (forget .node f).cls = f.cls := fun f => by unfold forget; split <;> rfl
  have offered : ∀ f, (forget .node f).offered = f.offered := fun f => by unfold forget; split <;> rfl
  refine ⟨by simpa [Machine.forgetNode] using length, ?_, ?_, fun b f hf => ?_, fun f hf ha => ?_, fun hr => ?_⟩
  · refine List.pairwise_map.mpr (sorted.imp fun {a b} hab => ?_)
    rwa [cls, cls]
  · simpa [Machine.forgetNode, List.filter_map, Function.comp_def, offered] using one
  · obtain ⟨g, hg, rfl⟩ := List.mem_map.mp hf
    rw [offered]
    exact off b g hg
  · obtain ⟨g, hg, rfl⟩ := List.mem_map.mp hf
    rw [cls]
    refine replies g hg fun hn => ha ?_
    simp [forget, hn]
  · obtain ⟨g, hg, ha⟩ := waits hr
    refine ⟨forget .node g, List.mem_map_of_mem hg, ?_⟩
    simp [forget, ha]

theorem replyAwaited_offers (kind : Byte) (a : Await) (s : State) : Offers s.tx (replyAwaited kind a s).tx :=
  Offers.offer (newFrame s .service (.reply kind .done) (some a)) rfl (fun _ => rfl)

theorem QueueLaw.writeNode {s : State} (h : QueueLaw s) (v : Nat) : QueueLaw (writeNode v s) := by
  unfold Machine.writeNode
  refine QueueLaw.work ?_ (settleNode_work _)
  exact ((h.work (settleNode_work s)).forgetNode).offers (replyAwaited_offers 0x14 .node _) rfl

theorem QueueLaw.beginRestart {s : State} (h : QueueLaw s) : QueueLaw (beginRestart s) := by
  obtain ⟨placed, e⟩ | ⟨-, e⟩ := beginRestart_cases s
  · rw [e, queueLaw_iff]
    have offer : Offers s.tx _ :=
      Offers.offer (newFrame s .service (.reply 0x1A .done) (some .restart)) rfl (fun _ => rfl)
    refine ⟨(offer.keeps ((queueLaw_iff s).mp h).1).1, fun _ => ?_⟩
    have joined : ∀ q, AwaitedIn .restart (insertFrame (newFrame s .service (.reply 0x1A .done) (some .restart)) q) :=
      fun q => ⟨_, mem_insertFrame.mpr (.inl rfl), rfl⟩
    obtain ⟨-, e⟩ | ⟨-, -, q, -, e⟩ | ⟨-, -, e, -⟩ :=
      offerFrame_cases (newFrame s .service (.reply 0x1A .done) (some .restart)) s.tx
    · dsimp only
      rw [e]
      exact joined _
    · dsimp only
      rw [e]
      exact joined _
    · rw [e] at placed
      cases placed
  · rw [e]
    exact startUp_queueLaw s

theorem QueueLaw.of_next {u t : State} (e : (Host.Outcome.next u : Result) = .next t) (h : QueueLaw u) : QueueLaw t := by
  cases e
  exact h

theorem exec_keeps_queueLaw {i : Instr} {s t : State} (h : QueueLaw s) (e : exec i s = .next t) : QueueLaw t := by
  have serve_law {α : Type} {kind : Byte} {l : Lock} {args : Option α} {owner : α → State → State}
      (served : ∀ a, QueueLaw (owner a s)) : QueueLaw (serve kind l args owner s) :=
    serve_induct h (fun _ => h.work (reply_work _ _ _)) (fun a _ _ => served a)
  cases hi : reachesLink i with
  | false => exact h.work (exec_work hi e)
  | true =>
    cases i with
    | periodTimerExpiry c =>
      refine QueueLaw.of_next e ?_
      unfold expirePeriod
      split
      · split
        · dsimp only
          split
          · exact QueueLaw.offers (s := modChan c _ s) h (trigger_offers c _) (congrArg Mgmt.restartPending (trigger_reach c _).mgmt)
          · exact h
        · exact h
      · exact h
    | channelGrant =>
      exact .of_next e (h.offers (grantSlot_offers s) (congrArg Mgmt.restartPending (grantSlot_reach s).mgmt))
    | queueTakesHead race => exact .of_next e (h.queueStep race)
    | frameSent race => exact .of_next e (h.sendFrame race)
    | busOff => exact .of_next e h.enterBusOff
    | busOffRecovery race => exact .of_next e (h.leaveBusOff race)
    | restartStartUp =>
      refine QueueLaw.of_next e ?_
      unfold startIfDue
      split
      · exact startUp_queueLaw s
      · exact h
    | powerOn => exact .of_next e (startUp_queueLaw s)
    | configureChannelA =>
      refine .of_next e (serve_law fun a => ?_)
      unfold configure
      split
      · exact h.work (reply_work _ _ _)
      · exact h.offers (reply_work 0x0E .done (modConfig a.1 a.2 s)).offers rfl
    | configureChannelB =>
      refine .of_next e (serve_law fun c => ?_)
      unfold configure
      split
      · exact h.work (reply_work _ _ _)
      · exact h.offers (reply_work 0x0F .done (modConfig c _ s)).offers rfl
    | startChannel =>
      refine .of_next e (serve_law fun c => ?_)
      unfold startChan
      split
      · exact h.work (reply_work _ _ _)
      · exact h.offers (reply_work 0x10 .done (loadChannel c s)).offers rfl
    | stopChannel =>
      exact .of_next e (serve_law fun c => h.offers (t := reply 0x11 .done (modChan c stopped s)) (reply_work 0x11 .done (modChan c stopped s)).offers rfl)
    | writeSettingNodeNumber => exact .of_next e (serve_law fun v => h.writeNode v)
    | clearDiagnostics =>
      exact .of_next e (serve_law fun _ => QueueLaw.work (s := clearCounts s) h (reply_work _ _ _))
    | restart => exact .of_next e (serve_law fun _ => h.beginRestart)
    | _ => cases hi

/-! ## Steps -/

/-- All that a step can do: execute the command at the front of the queue, or idle. -/
theorem step_cases {s t : State} (e : step s = .next t) :
    (s.pending = [] ∧ t = idle s) ∨
      ∃ i rest, s.pending = i :: rest ∧ exec i { s with pending := rest } = .next t := by
  unfold step at e
  split at e
  · next h =>
    cases e
    exact .inl ⟨h, rfl⟩
  · next i rest h => exact .inr ⟨i, rest, h, e⟩

/-- A law that reads no waiting commands is kept by every step if every command keeps it and a millisecond does. -/
theorem step_keeps {P : State → Prop} (waiting : ∀ s x, P s → P { s with pending := x })
    (tick_ : ∀ s, s.pending = [] → dueEvents s = [] → P s → P (tick s))
    (exec_ : ∀ i u t, P u → exec i u = .next t → P t) {s t : State} (h : P s) (e : step s = .next t) : P t := by
  obtain ⟨hp, rfl⟩ | ⟨i, rest, -, e⟩ := step_cases e
  · obtain ⟨-, e⟩ | ⟨hd, e⟩ := idle_cases s
    · rw [e]
      exact waiting s _ h
    · rw [e]
      exact tick_ s hp hd h
  · exact exec_ i _ t (waiting s rest h) e

/-- Settles O52: offers keep the law, the link's own work keeps it, and every command is made of these. -/
theorem stepKeepsQueueLaw : Obligations.StepKeepsQueueLaw := fun _ _ h e =>
  step_keeps (fun _ _ h => h) (fun _ _ _ h => h) (fun _ _ _ => exec_keeps_queueLaw) h e

end Sys2Proof.Machine
end

section
/-! PROOF. The law of the channels (chapter 9): a job is carried on to its end within the rounds it is given, and leaves
its channel as the law has it. Settles O59. -/

namespace Sys2Proof.Machine

open Sys2Proof

/-! ## Counts -/

theorem fullCount_pos (k : ChanConfig) : 1 ≤ fullCount k := by
  unfold fullCount
  split <;> omega

theorem blockSize_pos (k : ChanConfig) : 1 ≤ blockSize k := by
  unfold blockSize
  split <;> omega

/-- The counts of a channel at work lie within the configured ones (R148, R149). -/
def countsLaw (k : ChanConfig) (r : ChanRun) : Prop :=
  r.remaining ≤ fullCount k ∧ 1 ≤ r.blockRem ∧ r.blockRem ≤ blockSize k

theorem countsLaw_afterFrame {k : ChanConfig} {r : ChanRun} (h : countsLaw k r) : countsLaw k (afterFrame k r) := by
  obtain ⟨remaining, low, high⟩ := h
  have full := blockSize_pos k
  unfold afterFrame countsLaw
  extract_lets moved left
  have hleft : left ≤ r.remaining := by
    simp only [left]
    split <;> omega
  split
  · exact ⟨by dsimp only; omega, full, le_rfl⟩
  · exact ⟨by dsimp only; omega, by dsimp only; omega, by dsimp only; omega⟩

@[simp] theorem afterFrame_state (k : ChanConfig) (r : ChanRun) : (afterFrame k r).state = r.state := by
  unfold afterFrame
  simp only
  split <;> rfl

@[simp] theorem afterFrame_job (k : ChanConfig) (r : ChanRun) : (afterFrame k r).job = r.job := by
  unfold afterFrame
  simp only
  split <;> rfl

@[simp] theorem afterFrame_pendingTrigger (k : ChanConfig) (r : ChanRun) :
    (afterFrame k r).pendingTrigger = r.pendingTrigger := by
  unfold afterFrame
  simp only
  split <;> rfl

@[simp] theorem afterFrame_overrun (k : ChanConfig) (r : ChanRun) : (afterFrame k r).overrun = r.overrun := by
  unfold afterFrame
  simp only
  split <;> rfl

@[simp] theorem afterFrame_due (k : ChanConfig) (r : ChanRun) : (afterFrame k r).due = r.due := by
  unfold afterFrame
  simp only
  split <;> rfl

theorem jobGoesOn_eq_false {k : ChanConfig} {before after : ChanRun} (h : jobGoesOn k before after = false) :
    after.remaining ≠ 0 := by
  simp only [jobGoesOn, Bool.or_eq_false_iff, beq_eq_false_iff_ne] at h
  exact h.1.1

/-! ## One slot of a job -/

/-- A channel in the midst of its work: RUNNING with its job, or as the law of the channels leaves it, but that an ARMED
channel may have a trigger pending, of which its next job is to be made (R153). -/
def workingLaw (k : ChanConfig) (r : ChanRun) : Prop :=
  (r.state = .running ∧ r.job = true ∧ countsLaw k r) ∨
  (r.state = .armed ∧ r.job = false ∧ 1 ≤ r.remaining ∧ countsLaw k r) ∨
  (r.state = .waiting ∧ r.job = true ∧ countsLaw k r) ∨
  (r.state = .ended ∧ r.job = false ∧ r.pendingTrigger = false ∧ r.due = none)

theorem afterEnd_working {k : ChanConfig} {r : ChanRun} : workingLaw k (afterEnd k r) := by
  unfold afterEnd
  split
  · exact .inr (.inl ⟨rfl, rfl, fullCount_pos k, le_rfl, blockSize_pos k, le_rfl⟩)
  · exact .inr (.inr (.inr ⟨rfl, rfl, rfl, rfl⟩))

theorem chanRun_placeReport (body : Body) (s : State) (c : ChanNo) : chanRun (placeReport body s) c = chanRun s c := rfl

/-- All that a slot can do at a RUNNING channel: wait for room, place the END frame, place a REPORT frame, or end a job
that finds nothing to report (R154, R155). -/
theorem runSlot_cases (c : ChanNo) (s : State) :
    let k := chanConfig s c
    let r := chanRun s c
    let found := seekPosition s k 32 r.pointer
    let r1 := { r with pointer := found.pointer }
    (hasRoom s = false ∧ runSlot c s = modChan c (fun _ => { r with state := .waiting }) s) ∨
    (hasRoom s = true ∧ r.remaining = 0 ∧
      runSlot c s = modChan c (fun _ => afterEnd k r) (placeReport (.endFrame c) s)) ∨
    (hasRoom s = true ∧ r.remaining ≠ 0 ∧ found.found = true ∧
      runSlot c s = modChan c
        (fun _ => if jobGoesOn k r1 (afterFrame k r1) then afterFrame k r1 else jobEnded (afterFrame k r1))
        (placeReport (.report (viewOf s found.pointer) c) s)) ∨
    (hasRoom s = true ∧ r.remaining ≠ 0 ∧ found.found = false ∧ runSlot c s = modChan c (fun _ => jobEnded r1) s) := by
  intro k r found r1
  unfold runSlot
  cases hroom : hasRoom s with
  | false => exact .inl ⟨rfl, rfl⟩
  | true =>
    by_cases hrem : r.remaining = 0
    · exact .inr (.inl ⟨rfl, hrem, by simp only [Bool.not_true, Bool.false_eq_true, if_false]; exact if_pos hrem⟩)
    · cases hf : found.found with
      | true =>
        refine .inr (.inr (.inl ⟨rfl, hrem, rfl, ?_⟩))
        simp only [Bool.not_true, Bool.false_eq_true, if_false]
        exact (if_neg hrem).trans (if_pos hf)
      | false =>
        refine .inr (.inr (.inr ⟨rfl, hrem, rfl, ?_⟩))
        simp only [Bool.not_true, Bool.false_eq_true, if_false]
        exact (if_neg hrem).trans (if_neg (by rw [hf]; decide))

/-- The frames that are placed in the slots of a job, of which the queue holds 24. -/
theorem placeReport_length {s : State} (room : hasRoom s = true) (body : Body) :
    (placeReport body s).tx.frames.length = s.tx.frames.length + 1 := by
  have h : s.tx.frames.length < Config.queueCap := by simpa [hasRoom] using room
  unfold placeReport offerFrame
  rw [if_pos h]
  exact insertFrame_length _ _

theorem startPending_of_pending {c : ChanNo} {s : State} (harmed : (chanRun s c).state = .armed)
    (hpend : (chanRun s c).pendingTrigger = true) :
    startPending c s = modChan c (fun r => { jobStarted r with pendingTrigger := false }) s := by
  simp [startPending, harmed, hpend]

theorem startPending_of_not {c : ChanNo} {s : State}
    (h : ¬((chanRun s c).state = .armed ∧ (chanRun s c).pendingTrigger = true)) : startPending c s = s := if_neg h

/-- What a job still has to go: the room left, and one more for a trigger that pends. Every round of a job that leaves
its channel RUNNING takes of it. -/
def jobFuel (c : ChanNo) (s : State) : Nat :=
  (Config.queueCap - s.tx.frames.length) + (chanRun s c).pendingTrigger.toNat

/-- One round of a job: the channel is RUNNING on with less to go, or it is done, and lawful. -/
theorem round_cases {c : ChanNo} {s : State} (running : (chanRun s c).state = .running) (job : (chanRun s c).job = true)
    (counts : countsLaw (chanConfig s c) (chanRun s c)) :
    let t := startPending c (runSlot c s)
    ((chanRun t c).state = .running ∧ (chanRun t c).job = true ∧ countsLaw (chanConfig s c) (chanRun t c) ∧
      jobFuel c t < jobFuel c s) ∨
    ((chanRun t c).state ≠ .running ∧ channelLaw (chanConfig s c) (chanRun t c)) := by
  intro t
  -- a slot leaves the channel RUNNING with one frame more, or not RUNNING, lawful but for a pending trigger
  have slot : ((chanRun (runSlot c s) c).state = .running ∧ (chanRun (runSlot c s) c).job = true ∧
        countsLaw (chanConfig s c) (chanRun (runSlot c s) c) ∧ jobFuel c (runSlot c s) < jobFuel c s) ∨
      ((chanRun (runSlot c s) c).state ≠ .running ∧ workingLaw (chanConfig s c) (chanRun (runSlot c s) c) ∧
        jobFuel c (runSlot c s) ≤ jobFuel c s) := by
    obtain ⟨room, e⟩ | ⟨room, rem, e⟩ | ⟨room, rem, found, e⟩ | ⟨room, rem, found, e⟩ := runSlot_cases c s
    · refine .inr ?_
      rw [e, chanRun_modChan_self]
      exact ⟨by simp, .inr (.inr (.inl ⟨rfl, job, counts⟩)), by simp [jobFuel]⟩
    · refine .inr ?_
      have longer := placeReport_length room (.endFrame c)
      rw [e, chanRun_modChan_self]
      refine ⟨?_, afterEnd_working, ?_⟩
      · unfold afterEnd
        split <;> simp
      · simp only [jobFuel, chanRun_modChan_self, modChan_tx, longer, afterEnd]
        split <;> simp <;> omega
    · have longer := placeReport_length room (.report (viewOf s (seekPosition s (chanConfig s c) 32
        (chanRun s c).pointer).pointer) c)
      have hlt : s.tx.frames.length < Config.queueCap := by simpa [hasRoom] using room
      have counts' := countsLaw_afterFrame (k := chanConfig s c) (r := { chanRun s c with
        pointer := (seekPosition s (chanConfig s c) 32 (chanRun s c).pointer).pointer }) counts
      rw [e]
      simp only [chanRun_modChan_self, jobFuel, modChan_tx, longer]
      split
      · refine .inl ⟨?_, ?_, counts', ?_⟩
        · rw [afterFrame_state]
          exact running
        · rw [afterFrame_job]
          exact job
        · rw [afterFrame_pendingTrigger]
          simp only
          omega
      · next hgo =>
        have hrem := jobGoesOn_eq_false (by simpa using hgo)
        refine .inr ⟨by simp [jobEnded], .inr (.inl ⟨rfl, rfl, Nat.one_le_iff_ne_zero.mpr hrem, counts'⟩), ?_⟩
        simp only [jobEnded, afterFrame_pendingTrigger]
        omega
    · refine .inr ?_
      rw [e, chanRun_modChan_self]
      exact ⟨by simp [jobEnded], .inr (.inl ⟨rfl, rfl, Nat.one_le_iff_ne_zero.mpr rem, counts⟩),
        by simp [jobFuel, jobEnded]⟩
  obtain ⟨state, job', counts', less⟩ | ⟨state, law, le⟩ := slot
  · refine .inl ?_
    have ht : t = runSlot c s := startPending_of_not (by simp [state])
    rw [ht]
    exact ⟨state, job', counts', less⟩
  · by_cases pend : (chanRun (runSlot c s) c).state = .armed ∧ (chanRun (runSlot c s) c).pendingTrigger = true
    · obtain ⟨harmed, hpend⟩ := pend
      have ht : t = _ := startPending_of_pending harmed hpend
      obtain ⟨h, -, -⟩ | ⟨-, hjob, hrem, hcounts⟩ | ⟨h, -, -⟩ | ⟨h, -, -⟩ := law
      · exact absurd h state
      · refine .inl ?_
        rw [ht]
        simp only [chanRun_modChan_self]
        refine ⟨rfl, rfl, hcounts, ?_⟩
        simp only [jobFuel, hpend, modChan_tx, chanRun_modChan_self] at le ⊢
        simp at le ⊢
        omega
      · rw [h] at harmed
        cases harmed
      · rw [h] at harmed
        cases harmed
    · refine .inr ?_
      have ht : t = runSlot c s := startPending_of_not pend
      rw [ht]
      refine ⟨state, ?_⟩
      obtain ⟨h, -, -⟩ | ⟨h, hjob, hrem, hcounts⟩ | ⟨h, hjob, hcounts⟩ | ⟨h, hjob, hpend, hdue⟩ := law
      · exact absurd h state
      · have quiet : (chanRun (runSlot c s) c).pendingTrigger = false := by
          simpa [h] using pend
        simp_all [channelLaw, countsLaw]
      · simp_all [channelLaw, countsLaw]
      · simp_all [channelLaw]

/-! ## A job -/

theorem runSlot_other {c d : ChanNo} (h : d ≠ c) (s : State) : chanRun (runSlot c s) d = chanRun s d := by
  obtain ⟨-, e⟩ | ⟨-, -, e⟩ | ⟨-, -, -, e⟩ | ⟨-, -, -, e⟩ := runSlot_cases c s <;>
    rw [e, chanRun_modChan_ne _ _ h] <;> rfl

theorem startPending_other {c d : ChanNo} (h : d ≠ c) (s : State) : chanRun (startPending c s) d = chanRun s d := by
  unfold startPending
  simp only
  split
  · exact chanRun_modChan_ne _ _ h
  · rfl

theorem runJob_other {c d : ChanNo} (h : d ≠ c) (n : Nat) (s : State) : chanRun (runJob n c s) d = chanRun s d := by
  induction n generalizing s with
  | zero => rfl
  | succ n ih =>
    simp only [runJob]
    split
    · rw [ih, startPending_other h, runSlot_other h]
    · rfl

theorem runJob_of_not_running {c : ChanNo} {s : State} (h : (chanRun s c).state ≠ .running) (n : Nat) :
    runJob n c s = s := by
  cases n with
  | zero => rfl
  | succ n => exact if_neg h

theorem runJob_of_running {c : ChanNo} {s : State} (h : (chanRun s c).state = .running) (n : Nat) :
    runJob (n + 1) c s = runJob n c (startPending c (runSlot c s)) := if_pos h

theorem chanConfig_round (c d : ChanNo) (s : State) :
    chanConfig (startPending c (runSlot c s)) d = chanConfig s d :=
  chanConfig_congr (congrArg Content.channels
    ((startPending_reach c _).content.trans (runSlot_reach c s).content)) d

/-- A job with fewer rounds to go than it is given leaves its channel lawful. -/
theorem runJob_law {c : ChanNo} (n : Nat) {s : State} (running : (chanRun s c).state = .running)
    (job : (chanRun s c).job = true) (counts : countsLaw (chanConfig s c) (chanRun s c)) (fuel : jobFuel c s < n) :
    channelLaw (chanConfig s c) (chanRun (runJob n c s) c) := by
  induction n generalizing s with
  | zero => exact absurd fuel (Nat.not_lt_zero _)
  | succ n ih =>
    rw [runJob_of_running running]
    obtain ⟨running', job', counts', less⟩ | ⟨done, law⟩ := round_cases running job counts
    · rw [← chanConfig_round c c s] at counts' ⊢
      exact ih running' job' counts' (by omega)
    · rw [runJob_of_not_running done]
      exact law

theorem jobFuel_lt_jobRounds (c : ChanNo) (s : State) : jobFuel c s < jobRounds := by
  have h : (chanRun s c).pendingTrigger.toNat ≤ 1 := Bool.toNat_le _
  simp only [jobFuel, jobRounds, Config.queueCap]
  omega

/-! ## Triggers and grants -/

theorem trigger_other {c d : ChanNo} (h : d ≠ c) (s : State) : chanRun (trigger c s) d = chanRun s d := by
  unfold trigger
  simp only
  split
  · rfl
  · rfl
  · rw [runJob_other h, chanRun_modChan_ne _ _ h]
  all_goals split <;> exact chanRun_modChan_ne _ _ h

theorem trigger_law {c : ChanNo} {s : State} (h : channelLaw (chanConfig s c) (chanRun s c)) :
    channelLaw (chanConfig s c) (chanRun (trigger c s) c) := by
  obtain ⟨running, job, pending, due, left, counts⟩ := h
  unfold trigger
  simp only
  split
  · exact ⟨running, job, pending, due, left, counts⟩
  · exact ⟨running, job, pending, due, left, counts⟩
  · next armed =>
    refine runJob_law (s := modChan c jobStarted s) jobRounds ?_ ?_ ?_ (jobFuel_lt_jobRounds c _)
    · rw [chanRun_modChan_self]
      rfl
    · rw [chanRun_modChan_self]
      rfl
    · rw [chanRun_modChan_self]
      exact counts (.inl armed)
  · next h => exact absurd h running
  · next waiting =>
    split
    · rw [chanRun_modChan_self]
      exact ⟨running, job, pending, due, left, counts⟩
    · rw [chanRun_modChan_self]
      exact ⟨running, job, fun _ => waiting, due, left, counts⟩

theorem ChannelLaw.trigger {s : State} (h : ChannelLaw s) (c : ChanNo) : ChannelLaw (trigger c s) := by
  intro d
  rw [chanConfig_congr (congrArg Content.channels (trigger_reach c s).content)]
  by_cases hd : d = c
  · subst hd
    exact trigger_law (h d)
  · rw [trigger_other hd]
    exact h d

theorem ChannelLaw.congr {s t : State} (h : ChannelLaw s) (chan : t.chan = s.chan)
    (channels : t.content.channels = s.content.channels) : ChannelLaw t := by
  intro c
  rw [chanRun_of_chan chan, chanConfig_congr channels]
  exact h c

theorem ChannelLaw.work {s t : State} (h : ChannelLaw s) (w : Work s t) : ChannelLaw t := by
  induction w with
  | quiet _ chan channels _ _ _ => exact h.congr chan channels
  | offer => exact h
  | trigger c => exact h.trigger c
  | trans _ _ ih ih' => exact ih' (ih h)

/-- One channel changed to a lawful runtime. -/
theorem ChannelLaw.modChan {s : State} (h : ChannelLaw s) {c : ChanNo} {f : ChanRun → ChanRun}
    (law : channelLaw (chanConfig s c) (f (chanRun s c))) : ChannelLaw (modChan c f s) := by
  intro d
  rw [chanRun_modChan]
  split
  · next hd =>
    subst hd
    exact law
  · exact h d

theorem ChannelLaw.grantTo {s : State} (h : ChannelLaw s) (c : ChanNo) : ChannelLaw (grantTo s c) := by
  have reach := grantTo_reach s c
  intro d
  rw [chanConfig_congr (congrArg Content.channels reach.content)]
  unfold Machine.grantTo
  split
  · next hgrant =>
    simp only [Bool.and_eq_true, beq_iff_eq] at hgrant
    obtain ⟨-, waiting⟩ := hgrant
    by_cases hd : d = c
    · subst hd
      obtain ⟨-, job, -, -, -, counts⟩ := h d
      refine runJob_law (s := Machine.modChan d (fun r => { r with state := .running }) s) jobRounds ?_ ?_ ?_
        (jobFuel_lt_jobRounds d _)
      · rw [chanRun_modChan_self]
      · rw [chanRun_modChan_self]
        exact job.mpr waiting
      · rw [chanRun_modChan_self]
        exact counts (.inr waiting)
    · rw [runJob_other hd, chanRun_modChan_ne _ _ hd]
      exact h d
  · exact h d

theorem ChannelLaw.grantSlot {s : State} (h : ChannelLaw s) : ChannelLaw (grantSlot s) :=
  List.foldlRecOn (List.finRange 4) Machine.grantTo h (fun _ hs c _ => hs.grantTo c)

theorem ChannelLaw.slotFreed {s : State} (h : ChannelLaw s) (race : SlotRace) : ChannelLaw (slotFreed race s) := by
  cases race
  · exact h.grantSlot
  · exact h

theorem ChannelLaw.takeHead {s : State} (h : ChannelLaw s) (race : SlotRace) (n : Nat) :
    ChannelLaw (takeHead race n s) := by
  induction n generalizing s with
  | zero => exact h
  | succ n ih =>
    simp only [Machine.takeHead]
    split
    · exact h
    · split
      · refine ih (ChannelLaw.slotFreed ?_ race)
        exact h
      · exact h

theorem ChannelLaw.queueStep {s : State} (h : ChannelLaw s) (race : SlotRace) : ChannelLaw (queueStep race s) := by
  unfold Machine.queueStep
  split
  · exact h.takeHead race _
  · exact h

theorem ChannelLaw.frameLeaves {s : State} (h : ChannelLaw s) (race : SlotRace) : ChannelLaw (frameLeaves race s) :=
  (ChannelLaw.slotFreed (s := setFrames (dropOffered s.tx.frames) s) h race).queueStep race

/-! ## Requests and start-up at the channels -/

theorem loadedRun_law (now : Nat) (k : ChanConfig) (r : ChanRun) : channelLaw k (loadedRun now k r) :=
  ⟨by simp [loadedRun], by simp [loadedRun], by simp [loadedRun], fun _ => .inl rfl, fun _ => fullCount_pos k,
    fun _ => ⟨le_rfl, blockSize_pos k, le_rfl⟩⟩

theorem stopped_law (k : ChanConfig) (r : ChanRun) : channelLaw k (stopped r) := by
  simp [channelLaw, stopped]

theorem idle_law (k : ChanConfig) : channelLaw k ChanRun.idle := by
  simp [channelLaw, ChanRun.idle]

theorem startUp_channelLaw (s : State) : ChannelLaw (startUp s) := by
  intro c
  rw [startUp_chanRun]
  split
  · exact loadedRun_law 0 _ _
  · exact idle_law _

/-- The law says nothing of the configuration of a channel that is not at work. -/
theorem channelLaw_of_inactive {s : State} {c : ChanNo} (h : channelActive s c = false) {k : ChanConfig}
    (law : channelLaw k (chanRun s c)) (k' : ChanConfig) : channelLaw k' (chanRun s c) := by
  obtain ⟨running, job, pending, due, left, -⟩ := law
  refine ⟨running, job, pending, due, left, fun work => ?_⟩
  rw [channelActive_of_at_work (work.elim .inl fun w => .inr (.inr w))] at h
  cases h

theorem chanConfig_modConfig (c d : ChanNo) (f : ChanConfig → ChanConfig) (s : State) :
    chanConfig (modConfig c f s) d = if d = c then f (chanConfig s c) else chanConfig s d := by
  unfold chanConfig
  exact pick_put _ _ _ _

theorem ChannelLaw.configure {s : State} (h : ChannelLaw s) (kind : Byte) (c : ChanNo) (f : ChanConfig → ChanConfig) :
    ChannelLaw (configure kind c f s) := by
  unfold Machine.configure
  split
  · exact h.work (reply_work _ _ _)
  · next hact =>
    refine ChannelLaw.work (s := modConfig c f s) (fun d => ?_) (reply_work _ _ _)
    rw [chanConfig_modConfig]
    split
    · next hd =>
      subst hd
      exact channelLaw_of_inactive (Bool.eq_false_iff.mpr hact) (h d) _
    · exact h d

theorem chanRun_clearCounts (s : State) (c : ChanNo) : chanRun (clearCounts s) c = { chanRun s c with overrun := 0 } := by
  simp [clearCounts, chanRun, pick]

theorem ChannelLaw.clearCounts {s : State} (h : ChannelLaw s) : ChannelLaw (clearCounts s) := by
  intro c
  rw [chanRun_clearCounts]
  exact h c

theorem ChannelLaw.expirePeriod {s : State} (h : ChannelLaw s) (c : ChanNo) : ChannelLaw (expirePeriod c s) := by
  unfold Machine.expirePeriod
  split
  · next due hdue =>
    split
    · have moved : ChannelLaw
          (Machine.modChan c (fun r => { r with due := some (due + (chanConfig s c).period * 1000) }) s) := by
        refine h.modChan ?_
        obtain ⟨running, job, pending, at_work, left, counts⟩ := h c
        exact ⟨running, job, pending, fun _ => at_work (by simp [hdue]), left, counts⟩
      dsimp only
      split
      · exact moved.trigger c
      · exact moved
    · exact h
  · exact h

theorem ChannelLaw.writeNode {s : State} (h : ChannelLaw s) (v : Nat) : ChannelLaw (writeNode v s) := by
  unfold Machine.writeNode
  refine ChannelLaw.work ?_ (settleNode_work _)
  exact ChannelLaw.congr (h.work (settleNode_work s)) rfl rfl

theorem ChannelLaw.beginRestart {s : State} (h : ChannelLaw s) : ChannelLaw (beginRestart s) := by
  obtain ⟨-, e⟩ | ⟨-, e⟩ := beginRestart_cases s
  · rw [e]
    exact h
  · rw [e]
    exact startUp_channelLaw s

theorem ChannelLaw.sendFrame {s : State} (h : ChannelLaw s) (race : SlotRace) : ChannelLaw (sendFrame race s) := by
  obtain ⟨-, e⟩ | ⟨-, -, e⟩ | ⟨-, -, e⟩ := sendFrame_cases race s
  · rwa [e]
  · rw [e]
    exact startUp_channelLaw s
  · rw [e]
    exact h.frameLeaves race

theorem ChannelLaw.of_next {u t : State} (e : (Host.Outcome.next u : Result) = .next t) (h : ChannelLaw u) :
    ChannelLaw t := by
  cases e
  exact h

theorem exec_keeps_channelLaw {i : Instr} {s t : State} (h : ChannelLaw s) (e : exec i s = .next t) : ChannelLaw t := by
  have serve_law {α : Type} {kind : Byte} {l : Lock} {args : Option α} {owner : α → State → State}
      (served : ∀ a, ChannelLaw (owner a s)) : ChannelLaw (serve kind l args owner s) :=
    serve_induct h (fun _ => h.work (reply_work _ _ _)) (fun a _ _ => served a)
  cases hi : reachesLink i with
  | false => exact h.work (exec_work hi e)
  | true =>
    cases i with
    | periodTimerExpiry c => exact .of_next e (h.expirePeriod c)
    | channelGrant => exact .of_next e h.grantSlot
    | queueTakesHead race => exact .of_next e (h.queueStep race)
    | frameSent race => exact .of_next e (h.sendFrame race)
    | busOff => exact ChannelLaw.of_next (u := enterBusOff s) e h
    | busOffRecovery race =>
      refine .of_next e ?_
      unfold leaveBusOff
      split
      · exact ChannelLaw.queueStep (s := { s with tx := { s.tx with busOff := false } }) h race
      · exact h
    | restartStartUp =>
      refine .of_next e ?_
      unfold startIfDue
      split
      · exact startUp_channelLaw s
      · exact h
    | powerOn => exact .of_next e (startUp_channelLaw s)
    | configureChannelA => exact .of_next e (serve_law fun a => h.configure _ _ _)
    | configureChannelB => exact .of_next e (serve_law fun a => h.configure _ _ _)
    | startChannel =>
      refine .of_next e (serve_law fun c => ?_)
      unfold startChan
      split
      · exact h.work (reply_work _ _ _)
      · exact (h.modChan (loadedRun_law s.time (chanConfig s c) _)).work (reply_work _ _ (loadChannel c s))
    | stopChannel =>
      exact .of_next e (serve_law fun c => (h.modChan (stopped_law (chanConfig s c) _)).work (reply_work _ _ _))
    | writeSettingNodeNumber => exact .of_next e (serve_law fun v => h.writeNode v)
    | clearDiagnostics => exact .of_next e (serve_law fun _ => h.clearCounts.work (reply_work _ _ _))
    | restart => exact .of_next e (serve_law fun _ => h.beginRestart)
    | _ => cases hi

/-- Settles O59: a trigger and a grant leave their channel as the law has it, and every command is made of these and of
single changes that the law allows. -/
theorem stepKeepsChannelLaw : Obligations.StepKeepsChannelLaw := fun _ _ h e =>
  step_keeps (fun _ _ h => h) (fun _ _ _ h => h) (fun _ _ _ => exec_keeps_channelLaw) h e

end Sys2Proof.Machine
end

section
/-! PROOF. The machine: a step runs the front command; without one it takes the events that are due, each spelled out by
`IsDue`, or lets a millisecond pass; an event that is not due does nothing; every command keeps the waiting commands, and
device time but for start-up; RESTART starts up as POWER_ON does. Settles O1, O2, O4, O5 and O6. -/

namespace Sys2Proof.Machine

open Sys2Proof

/-- Settles O1: `step` matches on the front of the queue. -/
theorem stepRunsTheFrontCommand : Obligations.StepRunsTheFrontCommand := fun _ _ _ => rfl

/-! ## When an event is due

Each test of the model against the line of `IsDue` that spells it out. -/

theorem idleDue_iff (s : State) (port : Port) : idleDue s port = true ↔ IsDue s (.idleTimerExpiry port) := by
  unfold idleDue
  cases h : (portState s port).framing <;> simp [IsDue, h]

theorem dupDue_iff (s : State) : dupDue s = true ↔ IsDue s .duplicateWindowExpiry := by
  unfold dupDue
  cases h : s.dup.entries with
  | nil => simp [IsDue, h]
  | cons e rest =>
    simp [IsDue, h, windowDue]
    rfl

theorem strangersDue_iff (s : State) : strangersDue s = true ↔ IsDue s .strangerAgeOut := by
  unfold strangersDue
  cases h : s.strangers.entries with
  | nil => simp [IsDue, h]
  | cons x rest =>
    simp [IsDue, h, strangerDue]
    rfl

theorem stalenessDue_iff (s : State) : stalenessDue s = true ↔ IsDue s .stalenessExpiry := by
  unfold stalenessDue
  cases h : s.vehicle.staleDue <;> simp [IsDue, h]

theorem silenceReached_iff (s : State) (p : Pos) :
    silenceReached s p = true ↔ ((posRec s p).state = .waiting ∨ (posRec s p).state = .live) ∧
      s.content.settings.silenceTimeout * 1000 ≤ (posRec s p).silence := by
  simp only [silenceReached, Bool.and_eq_true, Bool.or_eq_true, beq_iff_eq, decide_eq_true_eq]
  rfl

theorem hasBinding_iff (st : PosState) : hasBinding st = true ↔ st ≠ .vacant ∧ st ≠ .unbound := by
  cases st <;> simp [hasBinding]

theorem countsSilence_iff (s : State) (p : Pos) :
    countsSilence s p = true ↔ (posRec s p).state ≠ .vacant ∧ (posRec s p).state ≠ .unbound ∧
      s.vehicle.motion = .moving ∧ s.vehicle.lift.getLsbD (p.val / 4) = false := by
  simp only [countsSilence, Bool.and_eq_true, hasBinding_iff, beq_iff_eq, Bool.not_eq_true', and_assoc]
  rfl

theorem silenceDue_iff (s : State) (p : Pos) : silenceDue s p = true ↔ IsDue s (.silenceExpiry p) := by
  simp only [silenceDue, Bool.and_eq_true, silenceReached_iff, countsSilence_iff, IsDue]
  constructor
  · rintro ⟨⟨-, -, moving, down⟩, heard, reached⟩
    exact ⟨heard, moving, down, reached⟩
  · rintro ⟨heard, moving, down, reached⟩
    refine ⟨⟨?_, ?_, moving, down⟩, heard, reached⟩ <;> obtain h | h := heard <;> simp [h]

theorem intervalDue_iff (s : State) (p : Pos) : intervalDue s p = true ↔ IsDue s (.intervalExpiry p) := by
  simp [intervalDue, IsDue, Option.any_eq_true]

theorem repeatDue_iff (s : State) (p : Pos) : repeatDue s p = true ↔ IsDue s (.repeatTimerExpiry p) := by
  simp [repeatDue, IsDue, Option.any_eq_true]

theorem windowOver_iff (s : State) (h : Half) : windowOver s h = true ↔ IsDue s (.walkWindowExpiry h) := by
  simp [windowOver, IsDue, Option.any_eq_true]

theorem periodDue_iff (s : State) (c : ChanNo) : periodDue s c = true ↔ IsDue s (.periodTimerExpiry c) := by
  simp [periodDue, IsDue, Option.any_eq_true]

theorem hasRoom_iff (s : State) : hasRoom s = true ↔ s.tx.frames.length < 24 := by
  simp [hasRoom]
  rfl

theorem grantDue_iff (s : State) : grantDue s = true ↔ IsDue s .channelGrant := by
  simp [grantDue, hasRoom_iff, IsDue]

theorem replyQueued_eq_false {s : State} {a : Await} :
    replyQueued s a = false ↔ ∀ f ∈ s.tx.frames, f.awaited ≠ some a := by
  simp [replyQueued]

theorem nodeDue_iff (s : State) : nodeDue s = true ↔ IsDue s .nodeNumberInForce := by
  simp [nodeDue, replyQueued_eq_false, IsDue, Option.isSome_iff_ne_none]

theorem restartDue_iff (s : State) : restartDue s = true ↔ IsDue s .restartStartUp := by
  simp [restartDue, replyQueued_eq_false, IsDue]

theorem storeDue_iff (s : State) (r : ReadBack) : storeDue s = true ↔ IsDue s (.storeCompletion r) := by
  simp [storeDue, IsDue, Option.any_eq_true]

theorem linkReady_iff (s : State) :
    linkReady s = true ↔ s.tx.busOff = false ∧ (∀ f ∈ s.tx.frames, f.offered = none) ∧
      (s.mgmt.restartPending = true → AwaitedIn .restart s.tx.frames) := by
  simp [linkReady, linkHolds_eq_false, restartDue_eq_false, and_assoc]

theorem headDue_iff (s : State) (race : SlotRace) :
    (linkReady s && !s.tx.frames.isEmpty) = true ↔ IsDue s (.queueTakesHead race) := by
  simp only [Bool.and_eq_true, linkReady_iff, Bool.not_eq_true', List.isEmpty_eq_false_iff, IsDue, AwaitedIn]
  tauto

/-! ## The events that join the queue -/

theorem mem_whenDue {due : Bool} {i j : Instr} : i ∈ whenDue due j ↔ due = true ∧ i = j := by
  unfold whenDue
  cases due <;> simp

/-- The due events of one kind are those of its places that are due, in order. -/
theorem flatMap_whenDue {α : Type} (l : List α) (due : α → Bool) (event : α → Instr) :
    l.flatMap (fun x => whenDue (due x) (event x)) = (l.filter due).map event := by
  induction l with
  | nil => rfl
  | cons x l ih =>
    rw [List.flatMap_cons, ih]
    cases h : due x <;> simp [whenDue, h]

/-- Every event of the part's own, once, with one result of a completion, in the order the model takes them. -/
def ownEvents (r : ReadBack) : List Instr :=
  [.restartStartUp, .nodeNumberInForce, .storeCompletion r] ++ [Port.front, Port.rear].map .idleTimerExpiry ++
    [.duplicateWindowExpiry, .strangerAgeOut, .stalenessExpiry] ++ (List.finRange 32).map .silenceExpiry ++
    (List.finRange 32).map .intervalExpiry ++ (List.finRange 32).map .repeatTimerExpiry ++
    [Half.truck, Half.trailer].map .walkWindowExpiry ++ (List.finRange 4).map .periodTimerExpiry ++
    [.channelGrant, .queueTakesHead .grantFirst]

/-- The place of an event in that order. -/
def eventPlace : Instr → Nat
  | .restartStartUp => 0
  | .nodeNumberInForce => 1
  | .storeCompletion _ => 2
  | .idleTimerExpiry port => if port = .front then 3 else 4
  | .duplicateWindowExpiry => 5
  | .strangerAgeOut => 6
  | .stalenessExpiry => 7
  | .silenceExpiry p => 8 + p.val
  | .intervalExpiry p => 40 + p.val
  | .repeatTimerExpiry p => 72 + p.val
  | .walkWindowExpiry h => if h = .truck then 104 else 105
  | .periodTimerExpiry c => 106 + c.val
  | .channelGrant => 110
  | .queueTakesHead _ => 111
  | _ => 112

theorem ownEvents_places (r : ReadBack) : (ownEvents r).map eventPlace = List.range 112 := by
  cases r <;> rfl

theorem ownEvents_nodup (r : ReadBack) : (ownEvents r).Nodup :=
  List.Nodup.of_map eventPlace (ownEvents_places r ▸ List.nodup_range)

theorem whenDue_sublist (due : Bool) (i : Instr) : (whenDue due i).Sublist [i] := by
  cases due <;> simp [whenDue]

theorem places_sublist {α : Type} (l : List α) (due : α → Bool) (event : α → Instr) :
    (l.flatMap (fun x => whenDue (due x) (event x))).Sublist (l.map event) := by
  rw [flatMap_whenDue]
  exact List.filter_sublist.map event

/-- What is due is among the part's own events, in their order. -/
theorem dueEvents_sublist (s : State) : (dueEvents s).Sublist (ownEvents (ownReadBack s)) :=
  ((((((((((((((whenDue_sublist _ _).append (whenDue_sublist _ _)).append (whenDue_sublist _ _)).append
    (places_sublist _ _ _)).append (whenDue_sublist _ _)).append (whenDue_sublist _ _)).append
    (whenDue_sublist _ _)).append (places_sublist _ _ _)).append (places_sublist _ _ _)).append
    (places_sublist _ _ _)).append (places_sublist _ _ _)).append (places_sublist _ _ _)).append
    (whenDue_sublist _ _)).append (whenDue_sublist _ _))

theorem dueEvents_nodup (s : State) : (dueEvents s).Nodup := (dueEvents_sublist s).nodup (ownEvents_nodup _)

theorem mem_dueEvents (s : State) (i : Instr) :
    i ∈ dueEvents s ↔ (restartDue s = true ∧ i = .restartStartUp) ∨ (nodeDue s = true ∧ i = .nodeNumberInForce) ∨
      (storeDue s = true ∧ i = .storeCompletion (ownReadBack s)) ∨
      (∃ port, idleDue s port = true ∧ i = .idleTimerExpiry port) ∨
      (dupDue s = true ∧ i = .duplicateWindowExpiry) ∨ (strangersDue s = true ∧ i = .strangerAgeOut) ∨
      (stalenessDue s = true ∧ i = .stalenessExpiry) ∨ (∃ p, silenceDue s p = true ∧ i = .silenceExpiry p) ∨
      (∃ p, intervalDue s p = true ∧ i = .intervalExpiry p) ∨ (∃ p, repeatDue s p = true ∧ i = .repeatTimerExpiry p) ∨
      (∃ h, windowOver s h = true ∧ i = .walkWindowExpiry h) ∨ (∃ c, periodDue s c = true ∧ i = .periodTimerExpiry c) ∨
      (grantDue s = true ∧ i = .channelGrant) ∨
      ((linkReady s && !s.tx.frames.isEmpty) = true ∧ i = .queueTakesHead .grantFirst) := by
  have ports : ∀ port : Port, port ∈ [Port.front, Port.rear] := fun port => by cases port <;> simp
  have halves : ∀ h : Half, h ∈ [Half.truck, Half.trailer] := fun h => by cases h <;> simp
  simp only [dueEvents, List.mem_append, List.mem_flatMap, mem_whenDue, List.mem_finRange, true_and, ports, halves,
    or_assoc]

/-- Of every event but a completion: it joins the queue exactly where it is due. -/
theorem mem_dueEvents_iff_isDue {s : State} {i : Instr} (h : ∀ r, i ≠ .storeCompletion r) :
    i ∈ dueEvents s ↔ IsDue s i ∧ i ≠ .queueTakesHead .placementFirst := by
  rw [mem_dueEvents]
  cases i with
  | restartStartUp => simp [restartDue_iff]
  | nodeNumberInForce => simp [nodeDue_iff]
  | storeCompletion r => exact absurd rfl (h r)
  | idleTimerExpiry port => simp [idleDue_iff]
  | duplicateWindowExpiry => simp [dupDue_iff]
  | strangerAgeOut => simp [strangersDue_iff]
  | stalenessExpiry => simp [stalenessDue_iff]
  | silenceExpiry p => simp [silenceDue_iff]
  | intervalExpiry p => simp [intervalDue_iff]
  | repeatTimerExpiry p => simp [repeatDue_iff]
  | walkWindowExpiry h => simp [windowOver_iff]
  | periodTimerExpiry c => simp [periodDue_iff]
  | channelGrant => simp [grantDue_iff]
  | queueTakesHead race =>
    rw [headDue_iff s race]
    cases race <;> simp
  | _ => simp [IsDue]

theorem mem_dueEvents_storeCompletion {s : State} {r : ReadBack} :
    .storeCompletion r ∈ dueEvents s ↔ storeDue s = true ∧ r = ownReadBack s := by
  rw [mem_dueEvents]
  simp

/-! ## A step without a command -/

theorem step_of_pending_nil {s : State} (h : s.pending = []) : step s = .next (idle s) := by
  unfold step
  rw [h]

theorem tick_posRec (s : State) (p : Pos) : posRec (tick s) p = countSilence s p := by
  simp [tick, posRec, pick]

/-- Settles O2: the due events are a part of the list of the part's own events, each where `IsDue` has it, and a step
without any counts silence where `countsSilence` says. -/
theorem idleStepTakesWhatIsDue : Obligations.IdleStepTakesWhatIsDue := by
  intro s hp
  refine ⟨fun due => ?join, fun none => ⟨tick s, ?passes, rfl, rfl, fun p => ?counts⟩, dueEvents_nodup s,
    fun i => mem_dueEvents_iff_isDue, ?completion⟩
  case join =>
    obtain ⟨-, e⟩ | ⟨none, -⟩ := idle_cases s
    · rw [step_of_pending_nil hp, e]
    · exact absurd none due
  case passes =>
    obtain ⟨due, -⟩ | ⟨-, e⟩ := idle_cases s
    · exact absurd none due
    · rw [step_of_pending_nil hp, e]
  case counts =>
    rw [tick_posRec]
    unfold countSilence
    simp only [countsSilence_iff]
    rfl
  case completion =>
    rw [show (∃ job, s.store.job = some job ∧ job.latest ≤ s.time) ↔ storeDue s = true from
      (storeDue_iff s .matches).symm]
    simp only [mem_dueEvents_storeCompletion]
    exact ⟨fun due => ⟨_, ⟨due, rfl⟩, fun r h => h.2⟩, fun ⟨_, ⟨due, _⟩, _⟩ => due⟩

/-! ## An event that is not due -/

theorem grantSlot_of_not_due {s : State} (h : ¬IsDue s .channelGrant) : grantSlot s = s := by
  refine List.foldl_fixed' (fun c => if_neg fun granted => h ((grantDue_iff s).mp ?_)) _
  rw [Bool.and_eq_true] at granted
  simp only [grantDue, Bool.and_eq_true, List.any_eq_true]
  exact ⟨granted.1, c, List.mem_finRange c, granted.2⟩

theorem queueStep_of_not_ready {s : State} (h : linkReady s = false) (race : SlotRace) : queueStep race s = s :=
  if_neg (by simp [h])

theorem queueStep_of_empty {s : State} (h : s.tx.frames = []) (race : SlotRace) : queueStep race s = s := by
  unfold queueStep
  split
  · simp [takeHead, h]
  · rfl

theorem queueStep_of_not_due {s : State} {race : SlotRace} (h : ¬IsDue s (.queueTakesHead race)) :
    queueStep race s = s := by
  rw [← headDue_iff] at h
  cases ready : linkReady s with
  | false => exact queueStep_of_not_ready ready race
  | true => exact queueStep_of_empty (by simpa [ready] using h) race

/-- Settles O6: each command of the part's own tests its event first, by the test that `IsDue` spells out. -/
theorem nothingHappensBeforeItsTime : Obligations.NothingHappensBeforeItsTime := by
  intro s idle
  have stays {t : State} (h : t = s) : (Host.Outcome.next t : Result) = .next s := congrArg Host.Outcome.next h
  refine ⟨fun port h => stays ?idle, fun h => stays ?dup, fun h => stays ?strangers, fun h => stays ?staleness,
    fun p h => stays ?silence, fun p h => stays ?interval, fun p h => stays ?repeats, fun w h => stays ?window,
    fun c h => stays ?period, fun h => stays ?grant, fun race h => stays ?head, fun h => stays ?node,
    fun h => stays ?restart, fun race h => stays ?sent, fun race h => stays ?recovery, fun r h => stays ?completion⟩
  case idle =>
    rw [← idleDue_iff] at h
    unfold idleDue at h
    unfold expireIdle
    split
    · rfl
    · next e => exact if_neg (by simpa [e] using h)
  case dup =>
    rw [← dupDue_iff] at h
    unfold expireDupHead
    split
    · next e => exact if_neg (by simpa [dupDue, e] using h)
    · rfl
  case strangers =>
    rw [← strangersDue_iff] at h
    unfold ageOutHead
    split
    · next e => exact if_neg (by simpa [strangersDue, e] using h)
    · rfl
  case staleness => exact if_neg (mt (stalenessDue_iff s).mp h)
  case silence => exact if_neg (mt (silenceDue_iff s p).mp h)
  case interval =>
    rw [← intervalDue_iff] at h
    unfold endIntervalAt
    split
    · next e => exact if_neg (by simpa [intervalDue, e] using h)
    · rfl
  case repeats =>
    rw [← repeatDue_iff] at h
    unfold expireRepeat
    split
    · next e => exact if_neg (by simpa [repeatDue, e] using h)
    · rfl
  case window =>
    rw [← windowOver_iff] at h
    unfold expireWindow
    split
    · next e => exact if_neg (by simpa [windowOver, e] using h)
    · rfl
  case period =>
    rw [← periodDue_iff] at h
    unfold expirePeriod
    split
    · next e => exact if_neg (by simpa [periodDue, e] using h)
    · rfl
  case grant => exact grantSlot_of_not_due h
  case head => exact queueStep_of_not_due h
  case node =>
    rw [← nodeDue_iff] at h
    unfold settleNode
    split
    · rfl
    · next e => exact if_pos (by simpa [nodeDue, e] using h)
  case restart => exact if_neg (mt (restartDue_iff s).mp h)
  case sent => exact if_neg (by simp [linkHolds_eq_false.mpr h])
  case recovery => exact if_neg (by simp [h])
  case completion => simp only [h]

/-! ## Waiting commands and device time -/

/-- Device time and the waiting commands as they were. -/
def KeepsClock (s t : State) : Prop := t.time = s.time ∧ t.pending = s.pending

theorem TxChan.keepsClock {s t : State} (h : TxChan s t) : KeepsClock s t := ⟨h.time, h.pending⟩

theorem Work.keepsClock {s t : State} (h : Work s t) : KeepsClock s t := by
  induction h with
  | quiet _ _ _ _ time pending => exact ⟨time, pending⟩
  | offer => exact ⟨rfl, rfl⟩
  | trigger c => exact (trigger_reach c _).keepsClock
  | trans _ _ ih ih' => exact ⟨ih'.1.trans ih.1, ih'.2.trans ih.2⟩

theorem startUp_time (s : State) : (startUp s).time = 0 := by
  rw [startUp_blocks]
  rfl

theorem startUp_pending (s : State) : (startUp s).pending = s.pending := by
  rw [startUp_blocks]
  rfl

theorem KeepsClock.of_next {s u t : State} (e : (Host.Outcome.next u : Result) = .next t) (h : KeepsClock s u) :
    KeepsClock s t := by
  cases e
  exact h

/-- The commands that may start the part up. -/
def mayStartUp : Instr → Bool
  | .powerOn | .restartStartUp | .restart _ | .frameSent _ => true
  | _ => false

theorem writeNode_keepsClock (v : Nat) (s : State) : KeepsClock s (writeNode v s) := by
  obtain ⟨time, pending⟩ := (settleNode_work s).keepsClock
  obtain ⟨time', pending'⟩ := (settleNode_work (replyAwaited 0x14 .node
    { modSettings (fun c => { c with node := v }) (forgetNode (settleNode s)) with
      mgmt := { (modSettings (fun c => { c with node := v }) (forgetNode (settleNode s))).mgmt with
        nodePending := some v } })).keepsClock
  exact ⟨time'.trans time, pending'.trans pending⟩

theorem exec_keepsClock {i : Instr} {s t : State} (hi : mayStartUp i = false) (e : exec i s = .next t) :
    KeepsClock s t := by
  have serve_keeps {α : Type} {kind : Byte} {l : Lock} {args : Option α} {owner : α → State → State}
      (served : ∀ a, KeepsClock s (owner a s)) : KeepsClock s (serve kind l args owner s) :=
    serve_induct ⟨rfl, rfl⟩ (fun _ => (reply_reach _ _ _).keepsClock) (fun a _ _ => served a)
  cases link : reachesLink i with
  | false => exact (exec_work link e).keepsClock
  | true =>
    cases i with
    | periodTimerExpiry c =>
      refine .of_next e ?_
      unfold expirePeriod
      split
      · split
        · dsimp only
          split
          · exact (trigger_reach c (modChan c _ s)).keepsClock
          · exact ⟨rfl, rfl⟩
        · exact ⟨rfl, rfl⟩
      · exact ⟨rfl, rfl⟩
    | channelGrant => exact .of_next e (grantSlot_reach s).keepsClock
    | queueTakesHead race => exact .of_next e (queueStep_reach race s).keepsClock
    | busOff => exact KeepsClock.of_next (u := enterBusOff s) e ⟨rfl, rfl⟩
    | busOffRecovery race =>
      refine .of_next e ?_
      unfold leaveBusOff
      split
      · exact (queueStep_reach race { s with tx := { s.tx with busOff := false } }).keepsClock
      · exact ⟨rfl, rfl⟩
    | configureChannelA | configureChannelB =>
      refine .of_next e (serve_keeps fun a => ?_)
      unfold configure
      split <;> exact ⟨rfl, rfl⟩
    | startChannel =>
      refine .of_next e (serve_keeps fun c => ?_)
      unfold startChan
      split <;> exact ⟨rfl, rfl⟩
    | stopChannel => exact .of_next e (serve_keeps fun _ => ⟨rfl, rfl⟩)
    | writeSettingNodeNumber => exact .of_next e (serve_keeps fun v => writeNode_keepsClock v s)
    | clearDiagnostics => exact .of_next e (serve_keeps fun _ => ⟨rfl, rfl⟩)
    | powerOn | restartStartUp | restart | frameSent => cases hi
    | _ => cases link

/-- A command that may start the part up does so, or keeps time and the waiting commands. -/
theorem exec_of_mayStartUp {i : Instr} (hi : mayStartUp i = true) (s : State) :
    ∃ t, exec i s = .next t ∧ (t = startUp s ∨ KeepsClock s t) := by
  cases i with
  | powerOn => exact ⟨_, rfl, .inl rfl⟩
  | restartStartUp =>
    refine ⟨_, rfl, ?_⟩
    unfold startIfDue
    split
    · exact .inl rfl
    · exact .inr ⟨rfl, rfl⟩
  | frameSent race =>
    refine ⟨_, rfl, ?_⟩
    obtain ⟨-, e⟩ | ⟨-, -, e⟩ | ⟨-, -, e⟩ := sendFrame_cases race s <;> rw [e]
    · exact .inr ⟨rfl, rfl⟩
    · exact .inl rfl
    · exact .inr (frameLeaves_reach race s).keepsClock
  | restart len =>
    refine ⟨_, rfl, serve_induct (P := fun t => t = startUp s ∨ KeepsClock s t) (.inr ⟨rfl, rfl⟩)
      (fun _ => .inr (reply_reach _ _ _).keepsClock) fun _ _ _ => ?_⟩
    obtain ⟨-, e⟩ | ⟨-, e⟩ := beginRestart_cases s <;> rw [e]
    · exact .inr ⟨rfl, rfl⟩
    · exact .inl rfl
  | _ => cases hi

theorem exec_next (i : Instr) (s : State) : ∃ t, exec i s = .next t := by
  cases i <;> exact ⟨_, rfl⟩

/-- Settles O5: a command that cannot start the part up keeps its clock, and the others keep it where they do not. -/
theorem commandsKeepQueueAndTime : Obligations.CommandsKeepQueueAndTime := by
  intro i s
  cases hi : mayStartUp i with
  | false =>
    obtain ⟨t, e⟩ := exec_next i s
    obtain ⟨time, pending⟩ := exec_keepsClock hi e
    exact ⟨t, e, pending, fun _ _ _ _ => time, .inl time⟩
  | true =>
    obtain ⟨t, e, started | ⟨time, pending⟩⟩ := exec_of_mayStartUp hi s
    · subst started
      refine ⟨_, e, startUp_pending s, fun power start restart sent => ?_, .inr rfl⟩
      cases i with
      | powerOn => exact absurd rfl power
      | restartStartUp => exact absurd rfl start
      | restart len => exact absurd rfl (restart len)
      | frameSent race => exact absurd rfl (sent race)
      | _ => cases hi
    · exact ⟨t, e, pending, fun _ _ _ _ => time, .inl time⟩

/-! ## RESTART (R170) -/

/-- What the channels' work on free slots keeps: all that a change of a channel and a REPORT frame that finds room keep. -/
theorem runJob_induct {P : State → Prop} (channel : ∀ c f s, P s → P (modChan c f s))
    (placed : ∀ body s, hasRoom s = true → P s → P (placeReport body s)) (n : Nat) (c : ChanNo) {s : State} (h : P s) :
    P (runJob n c s) := by
  have slot {s : State} (h : P s) : P (runSlot c s) := by
    obtain ⟨-, e⟩ | ⟨room, -, e⟩ | ⟨room, -, -, e⟩ | ⟨-, -, -, e⟩ := runSlot_cases c s <;> rw [e]
    · exact channel _ _ _ h
    · exact channel _ _ _ (placed _ _ room h)
    · exact channel _ _ _ (placed _ _ room h)
    · exact channel _ _ _ h
  have start {s : State} (h : P s) : P (startPending c s) := by
    unfold startPending
    dsimp only
    split
    · exact channel _ _ _ h
    · exact h
  induction n generalizing s with
  | zero => exact h
  | succ n ih =>
    simp only [runJob]
    split
    · exact ih (start (slot h))
    · exact h

theorem grantSlot_induct {P : State → Prop} (channel : ∀ c f s, P s → P (modChan c f s))
    (placed : ∀ body s, hasRoom s = true → P s → P (placeReport body s)) {s : State} (h : P s) : P (grantSlot s) := by
  refine List.foldlRecOn (List.finRange 4) grantTo h fun s hs c _ => ?_
  unfold grantTo
  split
  · exact runJob_induct channel placed _ c (channel _ _ _ hs)
  · exact hs

theorem placeReport_frames {s : State} (room : hasRoom s = true) (body : Body) :
    (placeReport body s).tx.frames = insertFrame (newFrame s .report body none) s.tx.frames := by
  have h : s.tx.frames.length < Config.queueCap := by simpa [hasRoom] using room
  simp [placeReport, offerFrame, h]

/-- The frames that a grant adds are waited for by nothing. -/
theorem slotFreed_awaits {a : Await} (race : SlotRace) {s : State} (h : ∀ f ∈ s.tx.frames, f.awaited ≠ some a) :
    ∀ f ∈ (slotFreed race s).tx.frames, f.awaited ≠ some a := by
  cases race with
  | placementFirst => exact h
  | grantFirst =>
    refine grantSlot_induct (P := fun u => ∀ f ∈ u.tx.frames, f.awaited ≠ some a) (fun _ _ _ h => h)
      (fun body u room h f hf => ?_) h
    rw [placeReport_frames room] at hf
    obtain rfl | hf := mem_insertFrame.mp hf
    · exact nofun
    · exact h f hf

theorem dropOffered_of_sole {before after : List Frame} {f : Frame} (offered : f.offered.isSome = true)
    (others : ∀ g ∈ before, g.offered = none) : dropOffered (before ++ f :: after) = before ++ after := by
  have skip : ∀ g ∈ before, ¬g.offered.isSome = true := fun g hg => by simp [others g hg]
  unfold dropOffered
  rw [List.eraseP_append_right _ skip, List.eraseP_cons_of_pos (p := fun g : Frame => g.offered.isSome) offered]

/-- With a restart pending, a sent frame after which no reply to RESTART is left starts the part up. -/
theorem sendFrame_of_last_reply {race : SlotRace} {before after : List Frame} {f : Frame} {s : State}
    (pending : s.mgmt.restartPending = true) (frames : s.tx.frames = before ++ f :: after)
    (offered : f.offered.isSome = true) (others : ∀ g ∈ before ++ after, g.offered = none ∧ g.awaited ≠ some .restart) :
    sendFrame race s = startUp s := by
  have holds : linkHolds s = true := List.any_eq_true.mpr ⟨f, by simp [frames], offered⟩
  have left : dropOffered s.tx.frames = before ++ after := by
    rw [frames]
    exact dropOffered_of_sole offered fun g hg => (others g (List.mem_append_left _ hg)).1
  have due : restartDue (slotFreed race (setFrames (dropOffered s.tx.frames) s)) = true := by
    refine (restartDue_iff _).mpr ⟨?_, slotFreed_awaits race fun g hg => (others g (left ▸ hg)).2⟩
    exact (congrArg Mgmt.restartPending (slotFreed_reach race _).mgmt).trans pending
  have stays : frameLeaves race s = slotFreed race (setFrames (dropOffered s.tx.frames) s) :=
    queueStep_of_not_ready (by simp [linkReady, due]) race
  obtain ⟨h, -⟩ | ⟨-, -, e⟩ | ⟨-, h, -⟩ := sendFrame_cases race s
  · rw [holds] at h
    cases h
  · exact e
  · rw [stays, due] at h
    cases h

theorem pick_replicate {α : Type} {n : Nat} (a : α) (i : Fin n) : pick (Vector.replicate n a) i = a := by
  simp [pick]

theorem pos_ext {s t : State} (h : ∀ p, posRec s p = posRec t p) : s.pos = t.pos := by
  refine Vector.ext fun i hi => ?_
  simpa [posRec, pick] using h ⟨i, hi⟩

theorem chan_ext {s t : State} (h : ∀ c, chanRun s c = chanRun t c) : s.chan = t.chan := by
  refine Vector.ext fun i hi => ?_
  simpa [chanRun, pick] using h ⟨i, hi⟩

theorem loadedContent_blank : loadedContent Image.blank = Content.unconfigured := by
  simp [loadedContent, imageValid, Image.blank]

theorem startUp_reset_content : (startUp State.reset).content = Content.unconfigured :=
  (startUp_content State.reset).trans loadedContent_blank

theorem cacheFor_of_zero {s : State} (h : s.content.profiles = Content.unconfigured.profiles) (p : Pos) :
    cacheFor s p = PosRec.vacant.cache := by
  have zero : ∀ load cls, profileFor s load cls = Profile.zero := fun load cls => by
    rw [profileFor, h]
    exact pick_replicate _ _
  simp only [cacheFor, mainProfile, lowProfile, zero, ite_self]
  rfl

theorem startUp_reset_posRec (p : Pos) : posRec (startUp State.reset) p = PosRec.vacant := by
  have unfitted : (geometry (startUp State.reset) p).fitted = false := by
    rw [geometry, startUp_reset_content]
    exact congrArg Geometry.fitted (pick_replicate _ _)
  rw [startUp_posRec, startRec, unfitted, cacheFor_of_zero (congrArg Content.profiles startUp_reset_content)]
  rfl

theorem startUp_reset_chanRun (c : ChanNo) : chanRun (startUp State.reset) c = ChanRun.idle := by
  have unmarked : (chanConfig (startUp State.reset) c).powerUp = false := by
    rw [chanConfig, startUp_reset_content]
    exact congrArg ChanConfig.powerUp (pick_replicate _ _)
  rw [startUp_chanRun, unmarked]
  rfl

theorem startUp_reset : startUp State.reset = State.reset := by
  have pos : (startUp State.reset).pos = State.reset.pos :=
    pos_ext fun p => (startUp_reset_posRec p).trans (pick_replicate _ _).symm
  have chan : (startUp State.reset).chan = State.reset.chan :=
    chan_ext fun c => (startUp_reset_chanRun c).trans (pick_replicate _ _).symm
  rw [startUp_blocks, pos, chan]
  rfl

/-- Settles O4: the three ways to a start-up are `beginRestart`, `sendFrame` and `startIfDue`, each of which takes
`startUp` of the state it is given. -/
theorem restartIsPowerOn : Obligations.RestartIsPowerOn := by
  refine ⟨?served, ?sent, ?due, ?reset⟩
  case served =>
    intro s h reply_ out
    have served : exec (.restart 1) s = .next (beginRestart s) := by
      refine congrArg Host.Outcome.next ?_
      rw [ofLength_self, serve_of_served h]
    obtain ⟨placed, e⟩ | ⟨placed, e⟩ := beginRestart_cases s <;> rw [served, e]
    · exact ⟨fun _ => rfl, fun h => Bool.noConfusion (placed.symm.trans h)⟩
    · exact ⟨fun h => Bool.noConfusion (placed.symm.trans h), fun _ => ⟨_, rfl, rfl⟩⟩
  case sent =>
    intro race before f after s pending frames offered others
    exact ⟨_, rfl, congrArg Host.Outcome.next (sendFrame_of_last_reply pending frames offered others)⟩
  case due =>
    intro s pending gone
    exact ⟨_, rfl, congrArg Host.Outcome.next (if_pos ((restartDue_iff s).mpr ⟨pending, gone⟩))⟩
  case reset => exact congrArg Host.Outcome.next startUp_reset

end Sys2Proof.Machine
end

section
/-! PROOF. The lists of reception and what is discarded: a copy of a burst the duplicate list does not hold, the heads of
the duplicate list and the stranger list leaving, the staleness expiry, and the frames without effect. Settles O10, O12,
O16 and O17. -/

namespace Sys2Proof.Machine

open Sys2Proof

/-! ## A first copy (R11, R12) -/

section FirstCopy

variable {c : Copy} {s : State}

theorem not_sameBurst {e : DupEntry} (h : ¬(e.sid = c.sid ∧ e.seq = c.seq)) : sameBurst c e = false :=
  Bool.eq_false_iff.mpr (mt (sameBurst_iff c e).mp h)

theorem takeCopy_of_new (h : ∀ e ∈ s.dup.entries, ¬(e.sid = c.sid ∧ e.seq = c.seq)) :
    takeCopy c s = firstCopy c (evictIfFull s) := by
  have new : s.dup.entries.any (sameBurst c) = false := by
    simpa using fun e he => not_sameBurst (h e he)
  simp only [takeCopy, new, Bool.false_eq_true, if_false]

theorem evictIfFull_of_room (h : s.dup.entries.length < 16) : evictIfFull s = s := if_pos h

theorem evictIfFull_of_full {head : DupEntry} {rest : List DupEntry} (h : s.dup.entries = head :: rest)
    (full : 16 ≤ s.dup.entries.length) :
    evictIfFull s = expiryProcessing head
      { s with dup := { s.dup with entries := rest, evictions := countUp s.dup.evictions } } := by
  unfold evictIfFull
  refine (if_neg (Nat.not_lt.mpr full)).trans ?_
  simp only [h]

/-- The entries once the new one is flagged: the mark goes to the one entry of the burst. -/
theorem mark_append_new {entries : List DupEntry} (h : ∀ e ∈ entries, ¬(e.sid = c.sid ∧ e.seq = c.seq)) (now : Nat) :
    (entries ++ [newEntry now c]).map (fun e => if sameBurst c e then { e with flagged := true } else e) =
      entries ++ [{ newEntry now c with flagged := true }] := by
  have kept : entries.map (fun e => if sameBurst c e then { e with flagged := true } else e) = entries :=
    (List.map_congr_left fun e he => by simp [not_sameBurst (h e he)]).trans (List.map_id _)
  have own : sameBurst c (newEntry now c) = true := by simp [sameBurst, newEntry]
  simp [kept, own]

theorem lookup_of_unknown (h : findId s c.sid = none) : lookup c.sid c.seq c.telegram s = { state := s, mark := true } := by
  simp only [lookup, h]

/-- A first copy of an unknown sensor: its flagged entry joins, and nothing else changes (R11, R22). -/
theorem firstCopy_of_unknown (h : ∀ e ∈ s.dup.entries, ¬(e.sid = c.sid ∧ e.seq = c.seq)) (unknown : findId s c.sid = none) :
    firstCopy c s = setDupEntries (s.dup.entries ++ [{ newEntry s.time c with flagged := true }]) s := by
  have found : findId (setDupEntries (s.dup.entries ++ [newEntry s.time c]) s) c.sid = none := unknown
  unfold firstCopy
  simp only [lookup_of_unknown found, if_true]
  simp only [setDupEntries, mark_append_new h]

end FirstCopy

theorem expiryProcessing_dup (e : DupEntry) (s : State) : (expiryProcessing e s).dup = s.dup := (expiryProcessing_reach e s).dup

/-- Settles O10: an eviction leaves a list with room that does not hold the burst either, so the copy is taken there as
it would have been from it. -/
theorem firstCopyOfUnknownSensor : Obligations.FirstCopyOfUnknownSensor := by
  intro c s h
  have taken := takeCopy_of_new h
  refine ⟨?evict, ?unknown⟩
  case evict =>
    intro head rest entries length left
    have full : 16 ≤ s.dup.entries.length := by simp [entries, length]
    have evicted : takeCopy c s = firstCopy c (expiryProcessing head left) := by
      rw [taken, evictIfFull_of_full entries full]
    have again {t : State} (dup : t.dup = left.dup) : takeCopy c t = firstCopy c t := by
      have held : t.dup.entries = rest := congrArg DupList.entries dup
      rw [takeCopy_of_new, evictIfFull_of_room] <;> rw [held]
      · rw [length]
        decide
      · exact fun e he => h e (entries ▸ List.mem_cons_of_mem head he)
    refine ⟨fun plain => ?_, fun flagged => ?_⟩
    · rw [evicted, again rfl, expiryProcessing, plain]
      rfl
    · rw [evicted, ← again (expiryProcessing_dup head left), expiryProcessing, flagged]
      rfl
  case unknown =>
    intro unknown new
    refine ⟨fun room => ?_, fun head rest entries full plain => ?_⟩
    · rw [taken, evictIfFull_of_room room, firstCopy_of_unknown h unknown]
      rfl
    · have evicted : evictIfFull s =
          { s with dup := { s.dup with entries := rest, evictions := countUp s.dup.evictions } } := by
        rw [evictIfFull_of_full entries full, expiryProcessing, plain]
        rfl
      have still : ∀ e ∈ rest, ¬(e.sid = c.sid ∧ e.seq = c.seq) := fun e he => h e (entries ▸ List.mem_cons_of_mem head he)
      rw [taken, evicted]
      exact firstCopy_of_unknown
        (s := { s with dup := { s.dup with entries := rest, evictions := countUp s.dup.evictions } }) still unknown

/-! ## The heads of the lists leave (R13, R37) -/

/-- Settles O12: both heads leave by the same test of their time. -/
theorem listHeadsExpire : Obligations.ListHeadsExpire := by
  refine ⟨fun e rest s entries due => ?dup, fun x rest s entries due => ?stranger⟩
  case dup =>
    have leaves : windowDue s.time e = true := decide_eq_true due
    have left : expireDupHead s = expiryProcessing e (setDupEntries rest s) := by
      unfold expireDupHead
      simp only [entries, leaves, if_true]
    refine ⟨fun plain => congrArg Host.Outcome.next ?_, fun flagged => congrArg Host.Outcome.next ?_⟩
    · rw [left, expiryProcessing, plain]
      rfl
    · rw [left, expiryProcessing, flagged]
      rfl
  case stranger =>
    have leaves : strangerDue s.time x = true := decide_eq_true due
    refine congrArg Host.Outcome.next ?_
    unfold ageOutHead
    simp only [entries, leaves, if_true]

/-! ## Frames without effect -/

theorem ackItem_of_seven_le {item : Byte} (h : 7 ≤ item.toNat) : ackItem item = none := by
  unfold ackItem
  split <;> first | omega | rfl

theorem execAck_of_bad {len : Nat} {position item : Byte} (h : len ≠ 2 ∨ 32 ≤ position.toNat ∨ 7 ≤ item.toNat) (s : State) :
    execAck len position item s = .next s := by
  unfold execAck
  split
  · next k hk =>
    refine congrArg Host.Outcome.next (if_neg fun ⟨len2, below⟩ => ?_)
    obtain h | h | h := h
    · exact h len2
    · omega
    · rw [ackItem_of_seven_le h] at hk
      cases hk
  · rfl

section Discards

variable {node : Nat} {f : CanFrame}

theorem decodeCan_of_not_base (h : f.extended = true ∨ f.remote = true) : decodeCan node f = .discardedFrame f :=
  if_pos (by simpa using h)

/-- A frame on none of the three identifiers, or a request without a kind, falls through to the last line of the
reception. -/
theorem decodeCan_of_untaken (vehicle : f.ident.toNat ≠ 0x0A0) (ack : f.ident.toNat ≠ 0x3B0 + node)
    (request : ¬(f.ident.toNat = 0x5C0 + node ∧ f.data.length ≠ 0)) : decodeCan node f = .discardedFrame f := by
  unfold decodeCan
  simp only
  split
  · rfl
  · exact (if_neg vehicle).trans ((if_neg ack).trans (if_neg request))

end Discards

/-- Settles O16: the frames with an effect are those that pass the tests of their command and of the reception. -/
theorem discardedFramesDoNothing : Obligations.DiscardedFramesDoNothing := by
  refine ⟨fun s => ⟨fun len load motion ambient lift set h => ?_, fun len position item h => execAck_of_bad h s, fun f => rfl⟩,
    fun node f => ⟨decodeCan_of_not_base, fun vehicle ack request => ?_, fun request empty => ?_, fun low never => ?_⟩⟩
  · exact congrArg Host.Outcome.next (if_neg h)
  · exact decodeCan_of_untaken vehicle ack (fun h => request h.1)
  · exact decodeCan_of_untaken (by omega) (by omega) (by simp [empty])
  · simp only [neverTaken, vehicleIdent, Bool.or_eq_true, Bool.and_eq_true, bne_iff_ne, Bool.not_eq_true',
      decide_eq_false_iff_not] at never
    obtain base | ⟨⟨vehicle, acks⟩, requests⟩ := never
    · exact decodeCan_of_not_base base
    · exact decodeCan_of_untaken vehicle (by omega) (by omega)

/-- Settles O17: the expiry is due, and writes three fields of the vehicle state. -/
theorem stalenessExpires : Obligations.StalenessExpires := fun due s fresh runs reached =>
  congrArg Host.Outcome.next (if_pos ((stalenessDue_iff s).mpr ⟨fresh, due, runs, reached⟩))

end Sys2Proof.Machine
end

section
/-! PROOF. Requests that change what is stored or counted, and the walks' end: END WALK, CONFIGURE CHANNEL, WRITE SETTING,
the node number, CLEAR DIAGNOSTICS, STORE. Settles O35, O38, O45, O47, O48 and O49. -/

namespace Sys2Proof.Machine

open Sys2Proof

/-! ## The end of a walk (R143, R135, R145) -/

theorem halfArg_of_code {h : Half} {b : Byte} (code : b.toNat = halfCode h) : halfArg b = some h := by
  cases h <;> simp [halfArg, code, halfCode]

theorem halfArg_of_two_le {b : Byte} (h : 2 ≤ b.toNat) : halfArg b = none := by
  unfold halfArg
  split <;> first | omega | rfl

theorem ofLength_of_ne {α : Type} {len required : Nat} (h : len ≠ required) (args : Option α) :
    ofLength len required args = none := if_neg h

theorem walkOpen_of_none {h : Half} {s : State} (e : (walkSlot s h).walk = none) : walkOpen s h = false := by
  simp [walkOpen, e]

/-- A notice placed before a walk's slot is closed is placed after it as well: the notice is built from what the slot
keeps. -/
theorem finishWalk_reply (h : Half) (r : WalkResult) (kind : Byte) (st : Status) (s : State) :
    finishWalk h r (reply kind st s) =
      placeService (walkEndNotice h r (walkSlot s h))
        (modWalk h (fun slot => { slot with walk := none, result := some r }) (reply kind st s)) := by
  cases h <;> rfl

/-- Settles O35: END WALK serves the half its byte names, the window expiry the walk whose window is over, and both end
it by `finishWalk`. -/
theorem walkEnds : Obligations.WalkEnds := by
  intro h s closed
  refine ⟨fun len b idle bad => congrArg Host.Outcome.next ?_, fun b idle code => ⟨fun isOpen => congrArg Host.Outcome.next ?_,
    fun isClosed => congrArg Host.Outcome.next ?_⟩, fun w walk due => congrArg Host.Outcome.next ?_⟩
  · have args : ofLength len 2 (halfArg b) = none := by
      obtain bad | bad := bad
      · exact ofLength_of_ne bad _
      · rw [halfArg_of_two_le bad]
        unfold ofLength
        split <;> rfl
    rw [args, serve_of_bad_args idle]
  · rw [ofLength_self, halfArg_of_code code, serve_of_served (served_lockNone idle), stopWalk, walkOpen, isOpen, if_pos rfl,
      finishWalk_reply]
    rfl
  · rw [ofLength_self, halfArg_of_code code, serve_of_served (served_lockNone idle), stopWalk, walkOpen_of_none isClosed]
    rfl
  · unfold expireWindow
    simp only [walk, if_pos due]
    rfl

/-! ## CONFIGURE CHANNEL (R148) -/

theorem configure_of_active {kind : Byte} {c : ChanNo} {f : ChanConfig → ChanConfig} {s : State}
    (h : (chanRun s c).state = .armed ∨ (chanRun s c).state = .running ∨ (chanRun s c).state = .waiting) :
    configure kind c f s = reply kind .channelActive s := if_pos (channelActive_of_at_work h)

theorem configure_of_inactive {kind : Byte} {c : ChanNo} {f : ChanConfig → ChanConfig} {s : State}
    (h : ¬((chanRun s c).state = .armed ∨ (chanRun s c).state = .running ∨ (chanRun s c).state = .waiting)) :
    configure kind c f s = reply kind .done (modConfig c f s) := by
  refine if_neg ?_
  rw [channelActive_of_at_rest]
  · decide
  · cases e : (chanRun s c).state <;> simp [e] at h ⊢

/-- Settles O38: both halves go through `configure`, which asks only whether the channel is at work. -/
theorem channelIsConfigured : Obligations.ChannelIsConfigured := by
  intro channel c s served named active written
  refine ⟨fun trigger mode step start blockLen m known fits => ?_, fun count period skipVacant cyclic powerUp positive => ?_⟩
  · have args : ofLength 5 5 (both (chanArg channel) (configAArg trigger mode step start blockLen)) = some (c, fun k =>
        { k with
          trigger := triggerArg trigger, mode := m, step := stepArg step, start := Fin.ofNat 32 start.toNat
          blockLen := blockLen.toNat }) := by
      simp [named, both, configAArg, known, fits]
    refine ⟨fun work => congrArg Host.Outcome.next ?_, fun rest => congrArg Host.Outcome.next ?_⟩
    · rw [args, serve_of_served served, configure_of_active work]
    · rw [args, serve_of_served served, configure_of_inactive rest]
      rfl
  · have args : ofLength 6 6 (if period = 0 then none else chanArg channel) = some c := by
      rw [ofLength_self, if_neg positive, named]
    refine ⟨fun work => congrArg Host.Outcome.next ?_, fun rest => congrArg Host.Outcome.next ?_⟩
    · rw [args, serve_of_served served, configure_of_active work]
    · rw [args, serve_of_served served, configure_of_inactive rest]
      rfl

/-! ## WRITE SETTING (R165, R166) -/

theorem rangeArg_of_le {low high : Nat} {v : BitVec 16} (h : low ≤ v.toNat ∧ v.toNat ≤ high) :
    rangeArg low high v = some v.toNat := if_pos h

/-- A setting with a range is written where its value lies there, and else refused. -/
theorem serve_range {l : Lock} {s : State} (served : Served l s) (low high : Nat) (v : BitVec 16)
    (owner : Nat → State → State) :
    serve 0x14 l (ofLength 4 4 (rangeArg low high v)) owner s =
      if low ≤ v.toNat ∧ v.toNat ≤ high then owner v.toNat s else reply 0x14 .badArgument s := by
  rw [ofLength_self]
  unfold rangeArg
  split
  · exact serve_of_served served ..
  · exact serve_of_bad_args served.1 ..

theorem serve_tref {l : Lock} {s : State} (served : Served l s) (v : BitVec 16) (owner : Int → State → State) :
    serve 0x14 l (ofLength 4 4 (trefArg v)) owner s =
      if -20 ≤ v.toInt ∧ v.toInt ≤ 50 then owner v.toInt s else reply 0x14 .badArgument s := by
  rw [ofLength_self]
  unfold trefArg
  split
  · exact serve_of_served served ..
  · exact serve_of_bad_args served.1 ..

theorem exec_writeProtect {value : BitVec 16} {s : State} (idle : s.mgmt.restartPending = false) (low : value.toNat ≤ 3) :
    exec (.writeSettingProtectLevel 4 value) s = .next (writeProtect value.toNat s) := by
  refine congrArg Host.Outcome.next ?_
  rw [serve_range (served_lockNone idle), if_pos ⟨Nat.zero_le _, low⟩]

/-- Settles O45: one gate with a range for each of the five settings, and the protect level's own condition. -/
theorem settingsAreWritten : Obligations.SettingsAreWritten := by
  refine ⟨?ranges, ?protect⟩
  case ranges =>
    intro value s served written v set bad
    exact ⟨congrArg Host.Outcome.next (serve_tref served ..), congrArg Host.Outcome.next (serve_range served ..),
      congrArg Host.Outcome.next (serve_range served ..), congrArg Host.Outcome.next (serve_range served ..),
      congrArg Host.Outcome.next (serve_range served ..)⟩
  case protect =>
    intro value s idle low written
    rw [exec_writeProtect idle low]
    refine ⟨fun raised => congrArg Host.Outcome.next (if_neg ?_),
      fun _ still known => congrArg Host.Outcome.next (if_neg ?_),
      fun lowered moving => congrArg Host.Outcome.next (if_pos ⟨lowered, ?_⟩)⟩
    · rintro ⟨lowered, -⟩
      omega
    · rintro ⟨-, moving | stale⟩
      · exact moving still
      · simp [known] at stale
    · obtain moving | stale := moving
      · exact .inl (by simp [moving])
      · exact .inr stale

/-! ## The node number (R167) -/

theorem nodeNow_of_none {s : State} (h : s.mgmt.nodePending = none) : nodeNow s = s.mgmt.nodeInForce := by
  simp [nodeNow, settleNode, h]

theorem nodeNow_of_queued {s : State} (h : replyQueued s .node = true) : nodeNow s = s.mgmt.nodeInForce := by
  unfold nodeNow settleNode
  split
  · rfl
  · rw [if_pos h]

theorem settleNode_of_gone {n : Nat} {s : State} (h : s.mgmt.nodePending = some n) (gone : replyQueued s .node = false) :
    settleNode s = { s with mgmt := { s.mgmt with nodeInForce := n, nodePending := none } } := by
  simp [settleNode, h, gone]

theorem settleNode_of_queued {s : State} (h : replyQueued s .node = true) : settleNode s = s := by
  unfold settleNode
  split
  · rfl
  · exact if_pos h

theorem nodeNow_of_gone {n : Nat} {s : State} (h : s.mgmt.nodePending = some n) (gone : replyQueued s .node = false) :
    nodeNow s = n := by
  rw [nodeNow, settleNode_of_gone h gone]

/-- Settling writes the node number and what pends of it. -/
theorem settleNode_eq (s : State) :
    settleNode s =
      { s with mgmt := { s.mgmt with nodeInForce := nodeNow s, nodePending := (settleNode s).mgmt.nodePending } } := by
  unfold nodeNow settleNode
  split
  · rfl
  · split <;> rfl

/-- The frames of the queue once no reply of the node number is waited for. -/
theorem forgotten_awaits (fs : List Frame) : ∀ f ∈ fs.map (forget .node), f.awaited ≠ some .node := by
  intro f hf
  obtain ⟨g, -, rfl⟩ := List.mem_map.mp hf
  unfold forget
  split
  · exact nofun
  · next h => exact h

/-- A reply that is waited for stands in the queue exactly if it was placed, where no other such reply does. -/
theorem replyQueued_offer {a : Await} {f : Frame} {tx : TxQueue} (others : ∀ g ∈ tx.frames, g.awaited ≠ some a)
    (own : f.awaited = some a) : (offerFrame f tx).tx.frames.any (fun g => g.awaited == some a) = (offerFrame f tx).placed := by
  have placed {q : List Frame} : (insertFrame f q).any (fun g => g.awaited == some a) = true :=
    List.any_eq_true.mpr ⟨f, mem_insertFrame.mpr (.inl rfl), by simp [own]⟩
  obtain ⟨-, e⟩ | ⟨-, -, q, -, e⟩ | ⟨-, -, refused, frames, -⟩ := offerFrame_cases f tx
  · rw [e]
    exact placed
  · rw [e]
    exact placed
  · rw [refused, frames]
    simpa using others

section NodeNumber

variable (v : Nat) (s : State)

/-- The reply that a written node number waits for. -/
def nodeReply : Frame := newFrame s .service (.reply 0x14 .done) (some .node)

/-- The offer of that reply, after the wait for an earlier one is dropped. -/
def nodeOffer : Placing := offerFrame (nodeReply s) { s.tx with frames := s.tx.frames.map (forget .node) }

/-- The written state behind its reply, before it is settled. -/
def nodeWritten : State :=
  { s with
    content := { s.content with settings := { s.content.settings with node := v } }
    store := { s.store with changed := true }
    mgmt := { s.mgmt with nodeInForce := nodeNow s, nodePending := some v }
    tx := (nodeOffer s).tx }

theorem writeNode_eq : writeNode v s = settleNode (nodeWritten v s) := by
  unfold writeNode
  rw [settleNode_eq s]
  rfl

theorem nodeWritten_queued : replyQueued (nodeWritten v s) .node = (nodeOffer s).placed :=
  replyQueued_offer (forgotten_awaits _) rfl

theorem writeNode_of_placed (h : (nodeOffer s).placed = true) : writeNode v s = nodeWritten v s := by
  rw [writeNode_eq]
  exact settleNode_of_queued ((nodeWritten_queued v s).trans h)

theorem writeNode_of_refused (h : (nodeOffer s).placed = false) :
    writeNode v s = { nodeWritten v s with mgmt := { s.mgmt with nodeInForce := v, nodePending := none } } := by
  rw [writeNode_eq]
  exact settleNode_of_gone rfl ((nodeWritten_queued v s).trans h)

theorem nodeNow_writeNode_of_placed (h : (nodeOffer s).placed = true) : nodeNow (writeNode v s) = nodeNow s := by
  rw [writeNode_of_placed v s h]
  exact nodeNow_of_queued ((nodeWritten_queued v s).trans h)

end NodeNumber

theorem exec_writeNode {value : BitVec 16} {s : State} (served : Served lockSettings s) (low : value.toNat ≤ 15) :
    exec (.writeSettingNodeNumber 4 value) s = .next (writeNode value.toNat s) := by
  refine congrArg Host.Outcome.next ?_
  rw [serve_range served, if_pos ⟨Nat.zero_le _, low⟩]

/-- What a written node number leaves, for every state (R167). -/
theorem writeNode_leaves (v : Nat) (s : State) :
    (writeNode v s).content = { s.content with settings := { s.content.settings with node := v } } ∧
      (writeNode v s).store = { s.store with changed := true } ∧ (writeNode v s).tx = (nodeOffer s).tx ∧
      ((nodeOffer s).placed = true →
        (writeNode v s).mgmt = { s.mgmt with nodeInForce := nodeNow s, nodePending := some v } ∧
          nodeNow (writeNode v s) = nodeNow s) ∧
      ((nodeOffer s).placed = false → (writeNode v s).mgmt = { s.mgmt with nodeInForce := v, nodePending := none }) ∧
      (writeNode v s).pos = s.pos ∧ (writeNode v s).vehicle = s.vehicle ∧ (writeNode v s).chan = s.chan := by
  cases h : (nodeOffer s).placed with
  | true =>
    have now := nodeNow_writeNode_of_placed v s h
    rw [writeNode_of_placed v s h] at now ⊢
    exact ⟨rfl, rfl, rfl, fun _ => ⟨rfl, now⟩, nofun, rfl, rfl, rfl⟩
  | false =>
    rw [writeNode_of_refused v s h]
    exact ⟨rfl, rfl, rfl, nofun, fun _ => rfl, rfl, rfl, rfl⟩

theorem replyQueued_iff {s : State} {a : Await} : replyQueued s a = true ↔ ∃ f ∈ s.tx.frames, f.awaited = some a := by
  simp [replyQueued]

theorem map_forget_of_none {fs : List Frame} (h : ∀ f ∈ fs, f.awaited ≠ some .node) : fs.map (forget .node) = fs :=
  (List.map_congr_left fun f hf => if_neg (h f hf)).trans (List.map_id _)

/-- Settles O47: the three cases of what pends are those of `nodeNow`, and the two of the reply those of the offer. -/
theorem nodeNumberWaitsForItsReply : Obligations.NodeNumberWaitsForItsReply := by
  refine ⟨?first, ?further, fun n s pending gone => ?inForce⟩
  case inForce => exact congrArg Host.Outcome.next (settleNode_of_gone pending (replyQueued_eq_false.mpr gone))
  case further =>
    intro value s served low reply_ forgotten out inForce
    have now : nodeNow s = inForce := by
      cases pending : s.mgmt.nodePending with
      | none =>
        simp only [inForce, pending]
        exact nodeNow_of_none pending
      | some n =>
        simp only [inForce, pending]
        split
        · next queued => exact nodeNow_of_queued (replyQueued_iff.mpr queued)
        · next gone => exact nodeNow_of_gone pending (Bool.eq_false_iff.mpr (mt replyQueued_iff.mp gone))
    rw [← now]
    exact ⟨_, exec_writeNode served low, writeNode_leaves value.toNat s⟩
  case first =>
    intro value s served low pending gone reply_ out
    have offer : nodeOffer s = out := by
      unfold nodeOffer
      rw [map_forget_of_none gone]
      rfl
    obtain ⟨content, store, tx, placed, refused, pos, vehicle, chan⟩ := writeNode_leaves value.toNat s
    rw [offer, nodeNow_of_none pending] at placed
    rw [offer] at refused tx
    refine ⟨_, exec_writeNode served low, content, store, tx, fun h => ?_, fun h => ?_, pos, vehicle, chan⟩
    · exact placed h
    · rw [refused h, ← pending]

/-! ## CLEAR DIAGNOSTICS (R168) -/

theorem pick_map {α β : Type} {n : Nat} (f : α → β) (v : Vector α n) (i : Fin n) : pick (v.map f) i = f (pick v i) := by
  simp [pick]

/-- Settles O48: `clearCounts` writes these fields, and the reply follows. -/
theorem diagnosticsAreCleared : Obligations.DiagnosticsAreCleared := by
  intro s idle
  refine ⟨clearCounts s, congrArg Host.Outcome.next ?_, rfl, rfl, rfl, rfl, rfl, rfl, fun c => pick_map _ _ _, rfl,
    fun p => pick_map _ _ _, rfl, rfl, rfl, rfl, rfl, rfl, rfl⟩
  rw [ofLength_self, serve_of_served (served_lockNone idle)]

/-! ## STORE and its completion (R172) -/

theorem imageValid_writtenImage {c : Content} (h : loadTest c = true) : imageValid (writtenImage c) = true := by
  simp [imageValid, writtenImage, h]

/-- Settles O49: STORE and its completion each write the store's block and place one frame; in an idle step the due
completion is among the events that join the queue. -/
theorem storeWritesTheSnapshot : Obligations.StoreWritesTheSnapshot := by
  refine ⟨fun s served => congrArg Host.Outcome.next ?_, fun job s running =>
    ⟨?matched, ?differs, fun quiet due => ?byItself⟩⟩
  · rw [ofLength_self, serve_of_served served]
    rfl
  case matched =>
    have e : exec (.storeCompletion .matches) s = .next (completeStore job .matches s) := by
      refine congrArg Host.Outcome.next ?_
      simp only [running]
    exact ⟨_, e, rfl, imageValid_writtenImage, rfl, rfl⟩
  case differs =>
    have e : exec (.storeCompletion .differs) s = .next (completeStore job .differs s) := by
      refine congrArg Host.Outcome.next ?_
      simp only [running]
    exact ⟨_, e, by simp [completeStore, imageValid], rfl, rfl⟩
  case byItself =>
    have mem : .storeCompletion (ownReadBack s) ∈ dueEvents s :=
      mem_dueEvents_storeCompletion.mpr ⟨(storeDue_iff s .matches).mpr ⟨job, running, due⟩, rfl⟩
    obtain ⟨-, e⟩ | ⟨none, -⟩ := idle_cases s
    · refine ⟨_, ownReadBack s, step_of_pending_nil quiet, ?_, ?_⟩ <;> rw [e]
      exact mem
    · simp [none] at mem

end Sys2Proof.Machine
end

section
/-! PROOF. The laws at reset. Settles O60. -/

namespace Sys2Proof.Machine

open Sys2Proof

/-! ## The unconfigured content passes the load test (R171, R174) -/

theorem entry_unconfigured (e : EntryNo) : pick Content.unconfigured.sensors e = Entry.free := pick_replicate _ _

theorem loadTest_unconfigured : loadTest Content.unconfigured = true := by
  have axles (a : AxleNo) : pick Content.unconfigured.axles a = { near := .either, margin := 0, liftable := false } :=
    pick_replicate _ _
  have profiles (i : Fin 24) : pick Content.unconfigured.profiles i = Profile.zero := pick_replicate _ _
  have channels (c : ChanNo) : pick Content.unconfigured.channels c = ChanConfig.default := pick_replicate _ _
  have settings : settingsOk Content.unconfigured.settings = true := by decide
  have profile : profileOk Profile.zero = true := by decide
  have channel : chanOk ChanConfig.default = true := by decide
  simp [loadTest, entriesClash, axles, profiles, entry_unconfigured, channels, settings, profile, channel, Entry.free]

/-! ## The state after reset -/

theorem entryAt_reset (e : EntryNo) : entryAt State.reset e = Entry.free := entry_unconfigured e

theorem entryFor_reset (p : Pos) : entryFor State.reset p = none := by
  simp [entryFor, entryAt_reset, Entry.free]

theorem posRec_reset (p : Pos) : posRec State.reset p = PosRec.vacant := pick_replicate _ _

theorem geometry_reset (p : Pos) : (geometry State.reset p).fitted = false := congrArg Geometry.fitted (pick_replicate _ _)

/-- Settles O60: the reset state is that of a start-up, holds nothing in its lists, and has one record at every
position. -/
theorem lawsHoldAtReset : Obligations.LawsHoldAtReset := by
  refine ⟨startUp_reset ▸ startUp_queueLaw State.reset, ?strangers, ?vehicle, ?configured, fun p => ?binding, fun p h => ?twin,
    fun p => ?record, startUp_reset ▸ startUp_channelLaw State.reset⟩
  case strangers => exact ⟨Nat.zero_le _, List.Pairwise.nil, nofun⟩
  case vehicle =>
    refine ⟨by decide, fun a up => ?_, by decide, by decide⟩
    simp [State.reset, Vehicle.reset] at up
  case configured =>
    exact ⟨loadTest_unconfigured, ⟨Nat.zero_le _, Nat.zero_le _⟩, ⟨Nat.zero_le _, List.Pairwise.nil, nofun⟩,
      ⟨nofun, nofun, nofun, Nat.zero_le _⟩, trivial, trivial⟩
  case binding =>
    rw [bindingLawAt, posRec_reset, geometry_reset]
    exact ⟨by decide, rfl, rfl⟩
  case twin =>
    rw [posRec_reset] at h
    cases h
  case record =>
    rw [posRec_reset]
    refine ⟨rfl, nofun, by decide, fun _ => ⟨rfl, rfl, rfl, rfl⟩, nofun, fun k => ?_, nofun, Nat.zero_le _, fun _ => ⟨rfl, rfl⟩,
      Nat.zero_le _⟩
    cases k <;> exact nofun

end Sys2Proof.Machine
end

section
/-! PROOF. Pressure arithmetic and the leak rate (chapters 5 and 6): the cold-equivalent pressure is the nearest whole
pu, what a reading leaves of its compensation, and the leak rate from the outermost averages. Settles O24, O26 and O28. -/

namespace Sys2Proof.Machine

open Sys2Proof

/-! ## The cold-equivalent pressure (R77) -/

/-- A quotient rounded to nearest, an exact half upward: the half added before the division. -/
theorem round_nearest (n tk : Nat) (h : 0 < tk) :
    2 * ((n + tk) / (2 * tk)) * tk ≤ n + tk ∧ n + tk < 2 * ((n + tk) / (2 * tk) + 1) * tk := by
  have low := Nat.div_mul_le_self (n + tk) (2 * tk)
  have high := Nat.lt_div_mul_add (a := n + tk) (b := 2 * tk) (by omega)
  constructor <;> nlinarith

theorem coldEquivalent_cases (pabs trk tk : Nat) :
    let q := (2 * pabs * trk + tk) / (2 * tk)
    (4094 < q ∧ coldEquivalent pabs trk tk = { value := 4094, clamped := true }) ∨
      (q ≤ 4094 ∧ coldEquivalent pabs trk tk = { value := q, clamped := false }) := by
  intro q
  by_cases h : 4094 < q
  · exact .inl ⟨h, if_pos h⟩
  · exact .inr ⟨Nat.le_of_not_lt h, if_neg h⟩

theorem round_self (p tk : Nat) (h : 0 < tk) : (2 * p * tk + tk) / (2 * tk) = p := by
  refine Nat.div_eq_of_lt_le ?_ ?_ <;> nlinarith

/-- Settles O24: the two inequalities are those of the division, and the clamp leaves the quotient above 4094. -/
theorem coldEquivalentIsNearest : Obligations.ColdEquivalentIsNearest := by
  intro pabs trk tk positive q
  obtain ⟨low, high⟩ := round_nearest (2 * pabs * trk) tk positive
  obtain ⟨big, e⟩ | ⟨small, e⟩ := coldEquivalent_cases pabs trk tk
  · have hq : q = 4094 := congrArg Clamped.value e
    rw [e, hq]
    refine ⟨nofun, fun _ => ⟨rfl, ?_⟩, ?_⟩
    · nlinarith
    · rintro rfl range
      rw [round_self pabs trk positive] at big
      omega
  · simp only [q, e]
    refine ⟨fun _ => ⟨low, high, small⟩, nofun, ?_⟩
    rintro rfl -
    exact round_self pabs trk positive

/-! ## A reading compensated (R72 to R86) -/

/-- Whether a held temperature can still stand in for a missing one (R74). -/
def HeldUsable (time : Nat) (held : Option Held) (h : Held) : Prop := held = some h ∧ time < h.time + 600000

theorem chooseTemp_measured {t : Nat} (h : t ≠ 255) (tref : Int) (time : Nat) (held : Option Held) :
    chooseTemp tref t time held =
      { kelvin := t + 223, held := some { code := t, time := time }, judging := some t } := if_pos h

theorem chooseTemp_held {time : Nat} {held : Option Held} {h : Held} (usable : HeldUsable time held h) (tref : Int) :
    chooseTemp tref 255 time held = { kelvin := h.code + 223, held := held, judging := some h.code } := by
  obtain ⟨rfl, fresh⟩ := usable
  simp only [chooseTemp, ne_eq, not_true, if_false]
  exact if_pos fresh

theorem chooseTemp_reference {time : Nat} {held : Option Held} (none_usable : ∀ h, ¬HeldUsable time held h) (tref : Int) :
    chooseTemp tref 255 time held = { kelvin := kelvinRef tref, held := held, judging := none } := by
  simp only [chooseTemp, ne_eq, not_true, if_false]
  split
  · next h => exact if_neg fun fresh => none_usable h ⟨rfl, fresh⟩
  · rfl

theorem calibrate_value (p : Nat) (offset : Int) :
    (calibrate p offset).value = (max 0 (min ((p : Int) + offset) 4094)).toNat := by
  unfold calibrate
  simp only
  split
  · dsimp only
    omega
  · split <;> dsimp only <;> omega

theorem calibrate_clamped (p : Nat) (offset : Int) :
    (calibrate p offset).clamped = decide ((p : Int) + offset < 0 ∨ 4094 < (p : Int) + offset) := by
  unfold calibrate
  simp only
  split
  · next h => simp [h]
  · next h => split <;> next h' => simp [h, h']

section Compensate

variable (tref : Int) (ambient : Nat) (rd : Reading) (r : PosRec)

/-- The temperature chosen for a reading of a record. -/
def choiceOf : TempChoice := chooseTemp tref rd.telegram.temp rd.time r.held

/-- What every reading leaves, with a pressure or without. -/
theorem compensate_always :
    let c := compensate tref ambient rd r
    c.out.battery = rd.telegram.battery ∧ c.out.fault = (rd.telegram.fault || !bearsPressure rd.telegram) ∧
      c.out.temp = some rd.telegram.temp ∧ c.out.held = (choiceOf tref rd r).held ∧
      c.out.uncompensated = (choiceOf tref rd r).judging.isNone ∧ c.judging = (choiceOf tref rd r).judging := by
  intro c
  simp only [c, compensate]
  split <;> exact ⟨rfl, rfl, rfl, rfl, rfl, rfl⟩

variable {rd}

theorem bearsPressure_iff (t : Telegram) : bearsPressure t = true ↔ t.pressure ≠ 4095 := by
  simp [bearsPressure]

theorem compensate_no_pressure (h : rd.telegram.pressure = 4095) :
    let c := compensate tref ambient rd r
    c.out.cold = r.cold ∧ c.out.hot = r.hot ∧ c.out.acc = r.acc ∧ c.out.filtered = r.filtered ∧
      c.out.saturated = r.saturated ∧ c.clamped = false := by
  have none : bearsPressure rd.telegram = false := by simp [bearsPressure, h]
  intro c
  simp only [c, compensate, none]
  exact ⟨rfl, rfl, rfl, rfl, rfl, rfl⟩

theorem compensate_pressure (h : rd.telegram.pressure ≠ 4095) {tk : Nat} (kelvin : (choiceOf tref rd r).kelvin = tk) :
    let c := compensate tref ambient rd r
    let pabs := (max 0 (min ((rd.telegram.pressure : Int) + rd.offset) 4094)).toNat
    let cabs := coldEquivalent pabs (kelvinRef tref) tk
    let acc := filterStep rd.telegram.kind (cabs.value - ambient) r.acc
    c.out.cold = some (cabs.value - ambient) ∧ c.out.hot = some (pabs - ambient) ∧ c.out.acc = some acc ∧
      c.out.filtered = some (filteredOf acc) ∧
      c.clamped = (decide ((rd.telegram.pressure : Int) + rd.offset < 0 ∨ 4094 < (rd.telegram.pressure : Int) + rd.offset) ||
        cabs.clamped) ∧
      c.out.saturated = (r.saturated || c.clamped) := by
  subst kelvin
  rw [← calibrate_value, ← calibrate_clamped]
  intro c
  simp only [c, compensate, (bearsPressure_iff _).mpr h, if_true, choiceOf, and_self]

end Compensate

/-- Settles O26: the filter by its equations; of a reading, the three choices of its temperature, and whether it bears a
pressure. -/
theorem readingIsCompensated : Obligations.ReadingIsCompensated := by
  refine ⟨fun kind x a => ⟨filterStep_start kind x, filterStep_rapid x a, fun h => filterStep_update h x a, rfl⟩, ?_⟩
  intro tref ambient rd r tel c heldUsable
  obtain ⟨battery, fault, temp, held, uncompensated, judging⟩ := compensate_always tref ambient rd r
  have choice : choiceOf tref rd r = chooseTemp tref tel.temp rd.time r.held := rfl
  have usable_iff : heldUsable ↔ ∃ h, HeldUsable rd.time r.held h := Iff.rfl
  -- the three choices, each with its kelvin value as the statement computes it
  have choices : (tel.temp ≠ 255 ∧ choiceOf tref rd r =
        { kelvin := tel.temp + 223, held := some { code := tel.temp, time := rd.time }, judging := some tel.temp }) ∨
      (tel.temp = 255 ∧ ∃ h, HeldUsable rd.time r.held h ∧
        choiceOf tref rd r = { kelvin := h.code + 223, held := r.held, judging := some h.code }) ∨
      (tel.temp = 255 ∧ ¬heldUsable ∧ choiceOf tref rd r = { kelvin := kelvinRef tref, held := r.held, judging := none }) := by
    rw [choice]
    by_cases measured : tel.temp = 255
    · rw [measured]
      by_cases usable : heldUsable
      · obtain ⟨h, hu⟩ := usable_iff.mp usable
        exact .inr (.inl ⟨rfl, h, hu, chooseTemp_held hu tref⟩)
      · exact .inr (.inr ⟨rfl, usable, chooseTemp_reference (fun h hu => usable ⟨h, hu⟩) tref⟩)
    · exact .inl ⟨measured, chooseTemp_measured measured tref rd.time r.held⟩
  have fault' : c.out.fault = true ↔ tel.fault = true ∨ tel.pressure = 4095 := by
    rw [show c.out.fault = _ from fault]
    simp [bearsPressure, tel]
  have noPressure : tel.pressure = 4095 → _ := compensate_no_pressure tref ambient r
  obtain ⟨measured, e⟩ | ⟨missing, h, ⟨hheld, fresh⟩, e⟩ | ⟨missing, unusable, e⟩ := choices <;>
    rw [e] at held uncompensated judging
  · refine ⟨battery, fault', temp, ?_, ?_, fun _ => judging, fun missing => absurd missing measured,
      fun missing => absurd missing measured, noPressure, fun bears => compensate_pressure tref ambient r bears ?_⟩
    · rw [if_neg measured]
      exact held
    · simp [c, uncompensated, measured]
    · rw [e, if_pos measured]
  · have usable : heldUsable := ⟨h, hheld, fresh⟩
    refine ⟨battery, fault', temp, ?_, ?_, fun measured => absurd missing measured, fun _ h' same _ => ?_,
      fun _ unusable => absurd usable unusable, noPressure, fun bears => compensate_pressure tref ambient r bears ?_⟩
    · rw [if_pos missing]
      exact held
    · simp [c, uncompensated, usable]
    · rw [hheld] at same
      cases same
      exact judging
    · rw [e, if_neg (not_not.mpr missing)]
      simp only [hheld, if_pos fresh]
  · refine ⟨battery, fault', temp, ?_, ?_, fun measured => absurd missing measured,
      fun _ h same fresh => absurd ⟨h, same, fresh⟩ unusable, fun _ _ => judging, noPressure,
      fun bears => compensate_pressure tref ambient r bears ?_⟩
    · rw [if_pos missing]
      exact held
    · simp [c, uncompensated, missing, unusable]
    · rw [e, if_neg (not_not.mpr missing)]
      cases hheld : r.held with
      | none => rfl
      | some h => exact (if_neg fun fresh => unusable ⟨h, hheld, fresh⟩).symm

/-! ## The leak rate (R97) -/

/-- The averages of a ring whose places are numbered from a start on. -/
def averagesFrom (start : Nat) (ring : List (Option Nat)) : List (Nat × Nat) :=
  ((List.range' start ring.length).zip ring).filterMap (fun x => x.2.map (fun v => (x.1, v)))

theorem averages_eq (ring : List (Option Nat)) : averages ring = averagesFrom 0 ring := by
  rw [averages, List.range_eq_range']
  rfl

theorem averagesFrom_cons (start : Nat) (x : Option Nat) (ring : List (Option Nat)) :
    averagesFrom start (x :: ring) = (x.map (fun v => (start, v))).toList ++ averagesFrom (start + 1) ring := by
  cases x <;> simp [averagesFrom, List.range'_succ]

theorem averagesFrom_length (start : Nat) (ring : List (Option Nat)) :
    (averagesFrom start ring).length = (ring.filter Option.isSome).length := by
  induction ring generalizing start with
  | nil => rfl
  | cons x ring ih => cases x <;> simp [averagesFrom_cons, ih, Nat.add_comm]

theorem mem_averagesFrom {start : Nat} {ring : List (Option Nat)} {k v : Nat} :
    (k, v) ∈ averagesFrom start ring ↔ ∃ i, k = start + i ∧ ring[i]? = some (some v) := by
  induction ring generalizing start with
  | nil => simp [averagesFrom]
  | cons x ring ih =>
    rw [averagesFrom_cons, List.mem_append, ih]
    constructor
    · rintro (h | ⟨i, rfl, h⟩)
      · cases x with
        | none => simp at h
        | some w =>
          simp only [Option.map_some, Option.toList_some, List.mem_singleton, Prod.mk.injEq] at h
          obtain ⟨rfl, rfl⟩ := h
          exact ⟨0, rfl, rfl⟩
      · exact ⟨i + 1, by omega, by simpa using h⟩
    · rintro ⟨i, rfl, h⟩
      cases i with
      | zero =>
        simp only [List.getElem?_cons_zero, Option.some.injEq] at h
        subst h
        exact .inl (by simp)
      | succ i => exact .inr ⟨i, by omega, by simpa using h⟩

/-- The averages stand in the order of their places. -/
theorem averagesFrom_ascending (start : Nat) (ring : List (Option Nat)) :
    (averagesFrom start ring).Pairwise (fun x y => x.1 < y.1) := by
  induction ring generalizing start with
  | nil => exact List.Pairwise.nil
  | cons x ring ih =>
    rw [averagesFrom_cons]
    cases x with
    | none => exact ih (start + 1)
    | some v =>
      refine List.pairwise_cons.mpr ⟨fun y hy => ?_, ih (start + 1)⟩
      obtain ⟨i, e, -⟩ := (mem_averagesFrom (k := y.1) (v := y.2)).mp hy
      simp only
      omega

section Ends

variable {l : List (Nat × Nat)} {x : Nat × Nat}

/-- In a list of ascending places the least is the head. -/
theorem head?_of_ascending (asc : l.Pairwise (fun x y => x.1 < y.1)) (hx : x ∈ l) (least : ∀ y ∈ l, x.1 ≤ y.1) :
    l.head? = some x := by
  cases l with
  | nil => cases hx
  | cons y l =>
    obtain rfl | hx := List.mem_cons.mp hx
    · rfl
    · have lt := (List.pairwise_cons.mp asc).1 x hx
      have le := least y List.mem_cons_self
      omega

/-- In a list of ascending places the greatest is the last. -/
theorem getLast?_of_ascending (asc : l.Pairwise (fun x y => x.1 < y.1)) (hx : x ∈ l) (greatest : ∀ y ∈ l, y.1 ≤ x.1) :
    l.getLast? = some x := by
  obtain rfl | ⟨l, y, rfl⟩ := l.eq_nil_or_concat
  · cases hx
  · simp only [List.concat_eq_append, List.mem_append, List.mem_singleton, List.pairwise_append] at *
    obtain hx | rfl := hx
    · have lt := asc.2.2 x hx y rfl
      have le := greatest y (.inr rfl)
      omega
    · simp

end Ends

/-- Settles O28: the averages stand in the order of their places, so the outermost ones are the first and the last. -/
theorem leakRateIsEstimated : Obligations.LeakRateIsEstimated := by
  intro ring minutes
  have length : (averages ring).length = (ring.filter Option.isSome).length := by
    rw [averages_eq, averagesFrom_length]
  refine ⟨fun few => if_pos (length ▸ few), fun enough i j a z first last between => ?_⟩
  have mem {k v : Nat} : (k, v) ∈ averages ring ↔ ring[k]? = some (some v) := by
    rw [averages_eq, mem_averagesFrom]
    simp
  have asc : (averages ring).Pairwise (fun x y => x.1 < y.1) := averages_eq ring ▸ averagesFrom_ascending 0 ring
  have head := head?_of_ascending asc (mem.mpr first) fun y hy => (between y.1 y.2 (mem.mp hy)).1
  have tail := getLast?_of_ascending asc (mem.mpr last) fun y hy => (between y.1 y.2 (mem.mp hy)).2
  unfold leakRate
  simp only [head, tail]
  exact if_neg (Nat.not_lt.mpr (length ▸ enough))

end Sys2Proof.Machine
end

section
/-! PROOF. The alert state (chapter 7): the level and its confirmation, the conditions a reading judges, and
acknowledgement. Settles O31 and O32. -/

namespace Sys2Proof.Machine

open Sys2Proof

/-! ## The level (R111 to R114, R129) -/

section Level

variable {kind : TelKind} {cand : Level} {c : Cond}

/-- A level that a RAPID reading sets at once (R114). -/
def AtOnce (kind : TelKind) (cand : Level) : Prop := kind = .rapid ∧ (cand = .low ∨ cand = .critical)

theorem takeCandidate_at_once (h : AtOnce kind cand) :
    takeCandidate kind cand c = { setLevel cand c with pendingLevel := none } := if_pos h

theorem takeCandidate_same (h : ¬AtOnce kind cand) (same : cand = c.level) :
    takeCandidate kind cand c = { c with pendingLevel := none } := (if_neg h).trans (if_pos same)

theorem takeCandidate_confirmed (h : ¬AtOnce kind cand) (new : cand ≠ c.level) (pends : c.pendingLevel = some cand) :
    takeCandidate kind cand c = { setLevel cand c with pendingLevel := none } :=
  (if_neg h).trans ((if_neg new).trans (if_pos pends))

theorem takeCandidate_pends (h : ¬AtOnce kind cand) (new : cand ≠ c.level) (other : c.pendingLevel ≠ some cand) :
    takeCandidate kind cand c = { c with pendingLevel := some cand } :=
  (if_neg h).trans ((if_neg new).trans (if_neg other))

/-- A candidate is taken as the level, or leaves it and the acknowledgement as they are. -/
theorem takeCandidate_cases (kind : TelKind) (cand : Level) (c : Cond) :
    takeCandidate kind cand c = { setLevel cand c with pendingLevel := none } ∨
      ∃ pending, takeCandidate kind cand c = { c with pendingLevel := pending } := by
  by_cases h : AtOnce kind cand
  · exact .inl (takeCandidate_at_once h)
  · by_cases same : cand = c.level
    · exact .inr ⟨_, takeCandidate_same h same⟩
    · by_cases pends : c.pendingLevel = some cand
      · exact .inl (takeCandidate_confirmed h same pends)
      · exact .inr ⟨_, takeCandidate_pends h same pends⟩

theorem setLevel_ackLevel_iff (new : Level) (c : Cond) :
    (setLevel new c).ackLevel = true ↔ c.ackLevel = true ∧ (new = c.level ∨ c.level = .critical ∧ new = .low) := by
  simp [setLevel]

end Level

theorem candidate_normal (k : Cache) (f : Nat) :
    (candidate k .normal f = .critical ↔ f ≤ k.critical) ∧
      (candidate k .normal f = .low ↔ k.critical < f ∧ f ≤ k.low) ∧
      (candidate k .normal f = .high ↔ k.critical < f ∧ k.low < f ∧ k.high ≤ f) := by
  simp only [candidate]
  split_ifs <;> simp <;> omega

theorem candidate_low (k : Cache) (f : Nat) :
    (candidate k .low f = .critical ↔ f ≤ k.critical) ∧
      (candidate k .low f = .high ↔ k.critical < f ∧ k.low + k.band ≤ f ∧ k.high ≤ f) ∧
      (candidate k .low f = .normal ↔ k.critical < f ∧ k.low + k.band ≤ f ∧ f < k.high) := by
  simp only [candidate]
  split_ifs <;> simp <;> omega

theorem candidate_critical (k : Cache) (f : Nat) :
    (candidate k .critical f = .normal ↔ k.low + k.band ≤ f) ∧
      (candidate k .critical f = .low ↔ f < k.low + k.band ∧ k.critical + k.band ≤ f) ∧
      candidate k .critical f ≠ .high := by
  simp only [candidate]
  split_ifs <;> simp <;> omega

theorem candidate_high (k : Cache) (f : Nat) :
    (candidate k .high f = .critical ↔ f + k.band ≤ k.high ∧ f ≤ k.critical) ∧
      (candidate k .high f = .low ↔ f + k.band ≤ k.high ∧ k.critical < f ∧ f ≤ k.low) ∧
      (candidate k .high f = .normal ↔ f + k.band ≤ k.high ∧ k.critical < f ∧ k.low < f) := by
  simp only [candidate]
  split_ifs <;> simp <;> omega

/-! ## HOT, FAULT, BATTERY (R115, R119, R120) -/

/-- All that a HOT judgement can do: nothing, a raise from not active, or a clear from active. -/
theorem judgeHot_cases (limit : Nat) (judging : Option Nat) (c : Cond) :
    judgeHot limit judging c = c ∨ (c.active.hot = false ∧ judgeHot limit judging c = raiseCond .hot c) ∨
      (c.active.hot = true ∧ judgeHot limit judging c = clearCond .hot c) := by
  unfold judgeHot
  split
  · split
    · next on => exact .inr (.inr ⟨on, rfl⟩)
    · exact .inl rfl
  · split
    · exact .inl rfl
    · split
      · next raise =>
        simp only [Bool.and_eq_true, Bool.not_eq_true'] at raise
        exact .inr (.inl ⟨raise.1, rfl⟩)
      · split
        · next clear =>
          simp only [Bool.and_eq_true] at clear
          exact .inr (.inr ⟨clear.1, rfl⟩)
        · exact .inl rfl

theorem judgeHot_zero (judging : Option Nat) (c : Cond) : (judgeHot 0 judging c).active.hot = false := by
  cases hot : c.active.hot <;> simp [judgeHot, hot, clearCond, condSet]

theorem judgeHot_of_no_temp {limit : Nat} (h : limit ≠ 0) (c : Cond) : judgeHot limit none c = c := if_neg h

theorem judgeHot_of_temp {limit code : Nat} (h : limit ≠ 0) (c : Cond) :
    (c.active.hot = false → ((judgeHot limit (some code) c).active.hot = true ↔ (limit : Int) ≤ (code : Int) - 50)) ∧
      (c.active.hot = true → ((judgeHot limit (some code) c).active.hot = false ↔
        (code : Int) - 50 < (limit : Int) - 5)) := by
  have eq : judgeHot limit (some code) c = if !c.active.hot && decide ((limit : Int) ≤ (code : Int) - 50) then raiseCond .hot c
      else if c.active.hot && decide ((code : Int) - 50 < (limit : Int) - 5) then clearCond .hot c else c := if_neg h
  rw [eq]
  cases hot : c.active.hot
  · refine ⟨fun _ => ?_, nofun⟩
    by_cases reached : (limit : Int) ≤ (code : Int) - 50 <;> simp [hot, reached, raiseCond, condSet]
  · refine ⟨nofun, fun _ => ?_⟩
    by_cases below : (code : Int) - 50 < (limit : Int) - 5 <;> simp [hot, below, clearCond, condSet]

/-- A HOT judgement writes its mark, and takes the acknowledgement where it clears it. -/
theorem judgeHot_writes (limit : Nat) (judging : Option Nat) (c : Cond) :
    judgeHot limit judging c = { c with
      active := { c.active with hot := (judgeHot limit judging c).active.hot }
      acked := { c.acked with hot := c.acked.hot && !(c.active.hot && !(judgeHot limit judging c).active.hot) } } := by
  obtain e | ⟨off, e⟩ | ⟨on, e⟩ := judgeHot_cases limit judging c
  · rw [e]
    simp
  · rw [e]
    simp [raiseCond, condSet, off]
  · rw [e]
    simp [clearCond, condSet, on]

theorem judgeFault_eq (b : Bool) (c : Cond) :
    judgeFault b c = { c with active := { c.active with fault := b }, acked := { c.acked with fault := c.acked.fault && b } } := by
  cases b <;> simp [judgeFault, putCond, raiseCond, clearCond, condSet]

theorem judgeBattery_flag (c : Cond) :
    judgeBattery true c = { c with active := { c.active with battery := true }, batteryClear := 0 } := rfl

section Battery

variable {c : Cond}

theorem judgeBattery_of_off (h : c.active.battery = false) : judgeBattery false c = c := by
  simp [judgeBattery, h]

theorem judgeBattery_of_few (h : c.active.battery = true) (few : c.batteryClear < 2) :
    judgeBattery false c = { c with batteryClear := c.batteryClear + 1 } := by
  simp [judgeBattery, h, few]

theorem judgeBattery_of_third (h : c.active.battery = true) (third : c.batteryClear = 2) :
    judgeBattery false c =
      { c with
        active := { c.active with battery := false }, acked := { c.acked with battery := false }, batteryClear := 0 } := by
  simp [judgeBattery, h, third, clearCond, condSet]

end Battery

/-! ## TWIN (R116) -/

theorem partnerOf_eq_mateOf {s : State} {p : Pos} (h : (geometry s p).fitted = true)
    (hm : (geometry s (mateOf p)).fitted = true) : partnerOf s p = some (mateOf p) := by
  simp [partnerOf, h, hm]

theorem partnerOf_eq_none {s : State} {p : Pos} (h : ¬((geometry s p).fitted = true ∧ (geometry s (mateOf p)).fitted = true)) :
    partnerOf s p = none := if_neg (by simpa using h)

/-- What the verdict on TWIN does to both partners. -/
def twinState (v : TwinVerdict) (p q : Pos) (s : State) : State :=
  match v with
  | .raise => modCond q (raiseCond .twin) (modCond p (raiseCond .twin) s)
  | .clear => modCond q (clearCond .twin) (modCond p (clearCond .twin) s)
  | .keep => s

/-- TWIN is judged where both partners are fitted, the neighbour is LIVE and both have a filtered gauge. -/
def TwinJudged (s : State) (p : Pos) : Prop :=
  (geometry s p).fitted = true ∧ (geometry s (mateOf p)).fitted = true ∧ (posRec s (mateOf p)).state = .live ∧
    (posRec s p).filtered.isSome = true ∧ (posRec s (mateOf p)).filtered.isSome = true

theorem judgeTwin_of_judged {s : State} {p : Pos} {fp fq : Nat} (h : TwinJudged s p)
    (hp : (posRec s p).filtered = some fp) (hq : (posRec s (mateOf p)).filtered = some fq) :
    judgeTwin p s = twinState (twinVerdict (posRec s p) (posRec s (mateOf p)) fp fq) p (mateOf p) s := by
  obtain ⟨fit, fit', live, -, -⟩ := h
  simp only [judgeTwin, partnerOf_eq_mateOf fit fit', live, if_true, hp, hq]
  cases twinVerdict (posRec s p) (posRec s (mateOf p)) fp fq <;> rfl

theorem judgeTwin_of_not_judged {s : State} {p : Pos} (h : ¬TwinJudged s p) : judgeTwin p s = s := by
  by_cases fit : (geometry s p).fitted = true ∧ (geometry s (mateOf p)).fitted = true
  · obtain ⟨fit, fit'⟩ := fit
    simp only [judgeTwin, partnerOf_eq_mateOf fit fit']
    split
    · next live =>
      split
      · next hp hq => exact absurd ⟨fit, fit', live, by simp [hp], by simp [hq]⟩ h
      · rfl
    · rfl
  · simp only [judgeTwin, partnerOf_eq_none fit]

/-- The six rows of the verdict (R116). -/
theorem twinVerdict_rows (x y : PosRec) (fp fq : Nat) :
    let limit := min x.cache.twinLimit y.cache.twinLimit
    let d := max fp fq - min fp fq
    let on := x.cond.active.twin = true
    (limit = 0 → on → twinVerdict x y fp fq = .clear) ∧ (limit = 0 → ¬on → twinVerdict x y fp fq = .keep) ∧
      (limit ≠ 0 → ¬on → limit ≤ d → twinVerdict x y fp fq = .raise) ∧
      (limit ≠ 0 → ¬on → d < limit → twinVerdict x y fp fq = .keep) ∧
      (limit ≠ 0 → on → d + x.cache.band < limit → twinVerdict x y fp fq = .clear) ∧
      (limit ≠ 0 → on → limit ≤ d + x.cache.band → twinVerdict x y fp fq = .keep) := by
  intro limit d on
  have eq : twinVerdict x y fp fq =
      if limit = 0 then (if x.cond.active.twin then .clear else .keep)
      else if !x.cond.active.twin && decide (limit ≤ d) then .raise
      else if x.cond.active.twin && decide (d + x.cache.band < limit) then .clear
      else .keep := rfl
  rw [eq]
  refine ⟨fun z h => ?_, fun z h => ?_, fun z h l => ?_, fun z h l => ?_, fun z h l => ?_, fun z h l => ?_⟩ <;>
    simp only [on, Bool.not_eq_true] at h
  · simp [z, h]
  · simp [z, h]
  · simp [z, h, l]
  · simp [z, h, l]
  · simp [z, h, l]
  · simp [z, h, l]

/-- Settles O31: the level by the four cases of a candidate, the candidate by its table, each condition by the equations
of its judgement. -/
theorem levelIsConfirmed : Obligations.LevelIsConfirmed := by
  refine ⟨?confirm, ?checks, ?candidates, ?hot, judgeFault_eq, ?battery, ?twin⟩
  case confirm =>
    intro kind cand c at_once r
    refine ⟨fun h => ?_, fun h same => ?_, fun h new other => ?_, fun h new pends => ?_, ?_⟩
    · rw [show r = _ from takeCandidate_at_once h]
      exact ⟨rfl, rfl⟩
    · rw [show r = _ from takeCandidate_same h same]
      exact ⟨rfl, rfl⟩
    · rw [show r = _ from takeCandidate_pends h new other]
      exact ⟨rfl, rfl⟩
    · rw [show r = _ from takeCandidate_confirmed h new pends]
      exact ⟨rfl, rfl⟩
    · obtain e | ⟨pending, e⟩ := takeCandidate_cases kind cand c
      · rw [show r = _ from e]
        exact ⟨setLevel_ackLevel_iff cand c, rfl, rfl, rfl, rfl⟩
      · rw [show r = _ from e]
        exact ⟨by simp, rfl, rfl, rfl, rfl⟩
  case checks =>
    intro k kind f c
    refine ⟨fun on => if_pos on, fun off => (if_neg (by simp [off])).trans ?_⟩
    cases level : c.level <;> simp [setLevel, level]
  case candidates =>
    intro k f fromNormal fromLow fromCritical fromHigh
    obtain ⟨n1, n2, n3⟩ := candidate_normal k f
    obtain ⟨l1, l2, l3⟩ := candidate_low k f
    obtain ⟨c1, c2, c3⟩ := candidate_critical k f
    exact ⟨n1, n2, n3, l1, l2, l3, c1, c2, c3, candidate_high k f⟩
  case hot =>
    intro limit judging c r celsius
    refine ⟨?_, ?_, ?_, judgeHot_writes limit judging c⟩
    · rintro rfl
      exact judgeHot_zero judging c
    · rintro h rfl
      exact judgeHot_of_no_temp h c
    · rintro code h rfl
      exact judgeHot_of_temp h c
  case battery =>
    exact fun c => ⟨judgeBattery_flag c, judgeBattery_of_off, judgeBattery_of_few, judgeBattery_of_third⟩
  case twin =>
    intro p s q x y judged limit both raised cleared on
    refine ⟨judgeTwin_of_not_judged, ?_⟩
    intro fp fq h hp hq d
    obtain ⟨r1, r2, r3, r4, r5, r6⟩ := twinVerdict_rows x y fp fq
    rw [judgeTwin_of_judged h hp hq]
    exact ⟨fun z o => by rw [r1 z o]; rfl, fun z o => by rw [r2 z o]; rfl, fun z o l => by rw [r3 z o l]; rfl,
      fun z o l => by rw [r4 z o l]; rfl, fun z o l => by rw [r5 z o l]; rfl, fun z o l => by rw [r6 z o l]; rfl⟩

/-! ## Acknowledgement (R128) and severity (R121) -/

theorem condGet_condSet (a : CondSet) (k k' : Condition) (b : Bool) :
    condGet (condSet a k b) k' = if k' = k then b else condGet a k' := by
  cases k <;> cases k' <;> rfl

theorem itemAcked_markAcked (c : Cond) (k k' : AckItem) :
    itemAcked (markAcked k c) k' = if k' = k then true else itemAcked c k' := by
  cases k with
  | level => cases k' <;> simp [markAcked, itemAcked]
  | cond k =>
    cases k' with
    | level => simp [markAcked, itemAcked]
    | cond k' => simp [markAcked, itemAcked, condGet_condSet]

/-- A mark writes acknowledgements only. -/
theorem markAcked_writes (k : AckItem) (c : Cond) :
    markAcked k c = { c with ackLevel := (markAcked k c).ackLevel, acked := (markAcked k c).acked } := by
  cases k <;> rfl

theorem severity_markAcked (k : AckItem) (c : Cond) : severity (markAcked k c) = severity c := by
  cases k <;> rfl

/-- The repeat timer after an ACK that marks (R128). -/
theorem slowRepeat_eq (period : Nat) (c : Cond) :
    slowRepeat period c = { c with repeatDue := (
      if c.repeatDue.isSome = true ∧ 2 ≤ severity c ∧ unansweredSerious c = false ∧ c.owed = false then
        c.lastAlert.map (fun t => t + 12 * period)
      else c.repeatDue) } := by
  unfold slowRepeat
  simp only [Bool.and_eq_true, decide_eq_true_eq, Bool.not_eq_true', and_assoc]
  split <;> rfl

theorem itemAcked_slowRepeat (period : Nat) (c : Cond) (k : AckItem) :
    itemAcked (slowRepeat period c) k = itemAcked c k := by
  rw [slowRepeat_eq]
  cases k <;> rfl

section Ack

variable (period : Nat) {item : AckItem} {c : Cond}

theorem takeAck_of_idle (h : itemActive c item = false ∨ itemAcked c item = true) : takeAck period item c = c := by
  refine if_neg ?_
  obtain h | h := h <;> simp [h]

theorem takeAck_of_due (active : itemActive c item = true) (unacked : itemAcked c item = false) :
    takeAck period item c = slowRepeat period (markAcked item c) := if_pos (by simp [active, unacked])

/-- An ACK either finds its item waiting for it, or changes nothing. -/
theorem takeAck_cases (item : AckItem) (c : Cond) :
    (itemActive c item = true ∧ itemAcked c item = false) ∨ (itemActive c item = false ∨ itemAcked c item = true) := by
  cases itemActive c item <;> cases itemAcked c item <;> simp

end Ack

theorem posArg_some {b : Byte} {p : Pos} (h : posArg b = some p) : b.toNat = p.val := by
  unfold posArg at h
  split at h
  · cases h
    rfl
  · cases h

theorem exec_ack {position item : Byte} {p : Pos} {k : AckItem} (s : State) (named : posArg position = some p)
    (known : ackItem item = some k) :
    exec (.ack 2 position item) s = .next (modCond p (takeAck (repeatMs s) k) s) := by
  have place := posArg_some named
  have same : Fin.ofNat 32 position.toNat = p := by
    rw [place]
    exact Fin.ext (Nat.mod_eq_of_lt p.isLt)
  refine congrArg Host.Outcome.next ?_
  simp only [known, same]
  exact if_pos ⟨trivial, place ▸ p.isLt⟩

theorem worst_le_iff (a : CondSet) (l : List Condition) (m n : Nat) :
    l.foldl (fun m k => if condGet a k then max m (condSeverity k) else m) m ≤ n ↔
      m ≤ n ∧ ∀ k ∈ l, condGet a k = true → condSeverity k ≤ n := by
  induction l generalizing m with
  | nil => simp
  | cons k l ih =>
    rw [List.foldl_cons, ih, List.forall_mem_cons]
    split
    · next h => simp [h, and_assoc]
    · next h => simp [h]

/-- The severity stays within a bound exactly if that of the level and of every active condition does (R121). -/
theorem severity_le_iff (c : Cond) (n : Nat) :
    severity c ≤ n ↔ levelSeverity c.level ≤ n ∧ ∀ k, condGet c.active k = true → condSeverity k ≤ n := by
  rw [severity, worst_le_iff]
  exact and_congr_right fun _ => ⟨fun h k => h k (by cases k <;> simp [allConditions]), fun h k _ => h k⟩

theorem forall_condition {P : Condition → Prop} :
    (∀ k, P k) ↔ P .hot ∧ P .silent ∧ P .leak ∧ P .twin ∧ P .fault ∧ P .battery :=
  ⟨fun h => ⟨h _, h _, h _, h _, h _, h _⟩, fun ⟨h, s, l, t, f, b⟩ k => by cases k <;> assumption⟩

theorem severity_le_three (c : Cond) : severity c ≤ 3 := by
  rw [severity_le_iff, forall_condition]
  cases c.level <;> simp [levelSeverity, condSeverity]

theorem severity_le_two (c : Cond) : severity c ≤ 2 ↔ c.level ≠ .critical := by
  rw [severity_le_iff, forall_condition]
  cases c.level <;> simp [levelSeverity, condSeverity]

theorem severity_le_one (c : Cond) : severity c ≤ 1 ↔ c.level ≠ .critical ∧
    ¬(c.level = .low ∨ c.active.hot = true ∨ c.active.silent = true ∨ c.active.leak = true) := by
  rw [severity_le_iff, forall_condition]
  cases c.level <;> simp [levelSeverity, condSeverity, condGet]

theorem severity_le_zero (c : Cond) : severity c ≤ 0 ↔ severity c ≤ 1 ∧
    ¬(c.level = .high ∨ c.active.twin = true ∨ c.active.fault = true ∨ c.active.battery = true) := by
  rw [severity_le_one, severity_le_iff, forall_condition]
  cases c.level <;> simp [levelSeverity, condSeverity, condGet, and_assoc]

theorem unansweredSerious_iff (c : Cond) :
    unansweredSerious c = true ↔ ((c.level = .low ∨ c.level = .critical) ∧ c.ackLevel = false) ∨
      (c.active.hot = true ∧ c.acked.hot = false) ∨ (c.active.silent = true ∧ c.acked.silent = false) ∨
      (c.active.leak = true ∧ c.acked.leak = false) := by
  simp only [unansweredSerious, allConditions, List.any_cons, List.any_nil, condSeverity, condGet]
  cases c.level <;> simp [levelSeverity] <;> tauto

theorem and_not_and_not {a b : Prop} : (a ∧ ¬(a ∧ ¬b)) ↔ a ∧ b := by tauto

/-- Settles O32: an ACK is `takeAck` at one record, which marks and slows or does nothing; severity is a maximum. -/
theorem ackMarksItsItem : Obligations.AckMarksItsItem := by
  refine ⟨?ack, ?severity⟩
  case ack =>
    intro position item p k s named known
    refine ⟨_, exec_ack s named known, modCond_posOnly p _ s, fun q hq => ?_, ?_⟩
    · rw [posRec_modCond, if_neg hq]
    · intro c c'
      have e : c' = takeAck (repeatMs s) k c := by
        simp only [c']
        rw [posRec_modCond, if_pos rfl]
      have record : posRec (modCond p (takeAck (repeatMs s) k) s) p = { posRec s p with cond := c' } := by
        rw [e, posRec_modCond, if_pos rfl]
      refine ⟨record, ?_⟩
      rw [e]
      obtain ⟨active, unacked⟩ | idle := takeAck_cases k c
      · rw [takeAck_of_due _ active unacked]
        refine ⟨?_, ?_, fun _ => ?_, fun k' hk => ?_, fun _ _ => ?_⟩
        · rw [slowRepeat_eq, markAcked_writes]
        · rintro (h | h)
          · simp [h] at active
          · simp [h] at unacked
        · rw [itemAcked_slowRepeat, itemAcked_markAcked, if_pos rfl]
        · rw [itemAcked_slowRepeat, itemAcked_markAcked, if_neg hk]
        · rw [slowRepeat_eq, severity_markAcked, markAcked_writes]
          rfl
      · rw [takeAck_of_idle _ idle]
        refine ⟨rfl, fun _ => rfl, fun active => ?_, fun _ _ => rfl, fun active unacked => ?_⟩
        · obtain h | h := idle
          · simp [h] at active
          · exact h
        · obtain h | h := idle
          · simp [h] at active
          · simp [h] at unacked
  case severity =>
    intro c two one
    have three := severity_le_three c
    have is_three : severity c = 3 ↔ ¬severity c ≤ 2 := by omega
    have is_two : severity c = 2 ↔ severity c ≤ 2 ∧ ¬severity c ≤ 1 := by omega
    have is_one : severity c = 1 ↔ severity c ≤ 1 ∧ ¬severity c ≤ 0 := by omega
    have is_zero : severity c = 0 ↔ severity c ≤ 0 := by omega
    refine ⟨?_, ?_, ?_, ?_, unansweredSerious_iff c⟩
    · rw [is_three, severity_le_two, not_not]
    · rw [is_two, severity_le_two, severity_le_one]
      exact and_not_and_not
    · rw [is_one, severity_le_zero, severity_le_one, and_not_and_not, and_assoc]
    · rw [is_zero, severity_le_zero, severity_le_one, and_assoc]

end Sys2Proof.Machine
end

section
/-! PROOF. The transmit queue's placing of a frame, and the gate of requests: what turns one away, in what order, and
what an argument names. Settles O42 and O44. -/

namespace Sys2Proof.Machine

open Sys2Proof

/-! ## The queue (R158) -/

/-- A joined frame stands behind every frame of its class or a higher one and, in an ordered queue, ahead of the rest. -/
theorem insertFrame_joins (f : Frame) (q : List Frame) :
    ∃ before after, q = before ++ after ∧ insertFrame f q = before ++ f :: after ∧
      (∀ g ∈ before, classRank g.cls ≤ classRank f.cls) ∧
      (q.Pairwise (fun g h => classRank g.cls ≤ classRank h.cls) → ∀ g ∈ after, classRank f.cls < classRank g.cls) := by
  obtain ⟨before, after, rfl, joined, ahead, head⟩ := insertFrame_split f q
  refine ⟨before, after, rfl, joined, ahead, fun sorted g hg => ?_⟩
  cases after with
  | nil => cases hg
  | cons h after =>
    have first := head h rfl
    obtain rfl | hg := List.mem_cons.mp hg
    · exact first
    · have rest := (List.pairwise_append.mp sorted).2.1
      exact lt_of_lt_of_le first ((List.pairwise_cons.mp rest).1 g hg)

section Offer

variable {f : Frame} {tx : TxQueue}

theorem offerFrame_of_room (h : tx.frames.length < 24) :
    offerFrame f tx = { tx := { tx with frames := insertFrame f tx.frames }, placed := true } := if_pos h

theorem offerFrame_of_evicted (full : 24 ≤ tx.frames.length) (cls : f.cls ≠ .report) {q : List Frame}
    (h : evictReport tx.frames = some q) :
    offerFrame f tx =
      { tx := { tx with frames := insertFrame f q, reportEvictions := countUp tx.reportEvictions }, placed := true } := by
  refine (if_neg (Nat.not_lt.mpr full)).trans ?_
  cases e : f.cls with
  | report => exact absurd e cls
  | alert => simp only [h]
  | service => simp only [h]

theorem offerFrame_of_refused_alert (full : 24 ≤ tx.frames.length) (cls : f.cls = .alert)
    (h : evictReport tx.frames = none) :
    offerFrame f tx = { tx := { tx with refusedAlerts := countUp tx.refusedAlerts }, placed := false } := by
  refine (if_neg (Nat.not_lt.mpr full)).trans ?_
  simp only [cls, h]

theorem offerFrame_of_lost_service (full : 24 ≤ tx.frames.length) (cls : f.cls = .service)
    (h : evictReport tx.frames = none) :
    offerFrame f tx = { tx := { tx with lostService := countUp tx.lostService }, placed := false } := by
  refine (if_neg (Nat.not_lt.mpr full)).trans ?_
  simp only [cls, h]

end Offer

theorem evictReport_eq_none_of {q : List Frame} (h : ∀ g ∈ q, ¬(g.cls = .report ∧ g.offered = none)) :
    evictReport q = none := by
  cases e : evictReport q with
  | none => rfl
  | some q' =>
    obtain ⟨before, g, after, rfl, -, report, free, -⟩ := evictReport_some e
    exact absurd ⟨report, free⟩ (h g (by simp))

theorem exists_evictReport {q : List Frame} (h : ∃ g ∈ q, g.cls = .report ∧ g.offered = none) :
    ∃ q', evictReport q = some q' := by
  obtain ⟨g, hg, evictable⟩ := h
  cases e : evictReport q with
  | none => exact absurd evictable (evictReport_none e g hg)
  | some q' => exact ⟨q', rfl⟩

/-- Settles O42: with room a frame joins, in a full queue it does so after an eviction or is refused by its class. -/
theorem queuePlacesByClass : Obligations.QueuePlacesByClass := by
  intro f tx joined evictable out
  refine ⟨fun room => ?_, fun full cls some => ?_, fun full cls none => ?_, fun full cls none => ?_,
    fun body bodies kind st s => ⟨rfl, rfl, rfl, rfl⟩⟩
  · rw [show out = _ from offerFrame_of_room room]
    exact ⟨rfl, insertFrame_joins f tx.frames, rfl⟩
  · obtain ⟨q, hq⟩ := exists_evictReport some
    obtain ⟨before, gone, after, whole, rfl, report, free, last⟩ := evictReport_some hq
    rw [show out = _ from offerFrame_of_evicted full cls hq]
    exact ⟨before, gone, after, whole, ⟨report, free⟩, last, rfl, insertFrame_joins f (before ++ after), rfl⟩
  · rw [show out = _ from offerFrame_of_refused_alert full cls (evictReport_eq_none_of none)]
    exact ⟨rfl, rfl⟩
  · rw [show out = _ from offerFrame_of_lost_service full cls (evictReport_eq_none_of none)]
    exact ⟨rfl, rfl⟩

/-! ## Which arguments lie in range (R163 check 2) -/

@[simp] theorem posArg_isSome (b : Byte) : (posArg b).isSome = decide (b.toNat < 32) := by
  unfold posArg
  split <;> simp [*]

@[simp] theorem entryArg_isSome (b : Byte) : (entryArg b).isSome = decide (b.toNat < 48) := by
  unfold entryArg
  split <;> simp [*]

@[simp] theorem axleArg_isSome (b : Byte) : (axleArg b).isSome = decide (b.toNat < 8) := by
  unfold axleArg
  split <;> simp [*]

@[simp] theorem chanArg_isSome (b : Byte) : (chanArg b).isSome = decide (b.toNat < 4) := by
  unfold chanArg
  split <;> simp [*]

theorem halfArg_eq (b : Byte) : halfArg b = [Half.truck, Half.trailer][b.toNat]? := by
  unfold halfArg
  split
  · next h => rw [h]; rfl
  · next h => rw [h]; rfl
  · next h0 h1 =>
    have : 2 ≤ b.toNat := by
      have : b.toNat ≠ 0 := h0
      have : b.toNat ≠ 1 := h1
      omega
    exact (List.getElem?_eq_none this).symm

@[simp] theorem halfArg_isSome (b : Byte) : (halfArg b).isSome = decide (b.toNat < 2) := by
  rw [halfArg_eq, Bool.eq_iff_iff]
  simp

theorem loadArg_eq (code : BitVec 2) : loadArg code = [LoadState.empty, .laden, .tipping][code.toNat]? := by
  revert code; decide

theorem modeArg_eq (code : BitVec 2) : modeArg code = [Mode.single, .run, .block][code.toNat]? := by
  revert code; decide

theorem nearArg_eq (code : BitVec 2) : nearArg code = [Near.front, .rear, .either][code.toNat]? := by
  revert code; decide

theorem triggerArg_eq (code : BitVec 2) : some (triggerArg code) = [Trigger.sample, .period, .alert, .request][code.toNat]? := by
  revert code; decide

theorem stepArg_eq (code : BitVec 2) : some (stepArg code) = [PtrStep.hold, .up, .down, .upReturn][code.toNat]? := by
  revert code; decide

@[simp] theorem loadArg_isSome (code : BitVec 2) : (loadArg code).isSome = decide (code.toNat ≤ 2) := by
  revert code; decide

@[simp] theorem modeArg_isSome (code : BitVec 2) : (modeArg code).isSome = decide (code.toNat ≤ 2) := by
  revert code; decide

@[simp] theorem nearArg_isSome (code : BitVec 2) : (nearArg code).isSome = decide (code.toNat ≤ 2) := by
  revert code; decide

@[simp] theorem lengthArg_isSome (code : BitVec 3) : (lengthArg code).isSome = decide (code.toNat ≤ 4) := by
  revert code; decide

theorem isSome_both {α β : Type} (a : Option α) (b : Option β) : (both a b).isSome = (a.isSome && b.isSome) := by
  cases a <;> cases b <;> rfl

theorem isSome_ofLength {α : Type} (len required : Nat) (args : Option α) :
    (ofLength len required args).isSome = (decide (len = required) && args.isSome) := by
  unfold ofLength
  split <;> simp [*]

theorem isSome_ite_iff {α : Type} {p : Prop} [Decidable p] {a : Option α} :
    (if p then a else none).isSome = true ↔ p ∧ a.isSome = true := by
  split <;> simp [*]

theorem isSome_ite_iff' {α : Type} {p : Prop} [Decidable p] {a : Option α} :
    (if p then none else a).isSome = true ↔ ¬p ∧ a.isSome = true := by
  split <;> simp [*]

@[simp] theorem rangeArg_isSome (low high : Nat) (v : BitVec 16) :
    (rangeArg low high v).isSome = decide (low ≤ v.toNat ∧ v.toNat ≤ high) := by
  unfold rangeArg
  split <;> simp [*]

@[simp] theorem trefArg_isSome (v : BitVec 16) : (trefArg v).isSome = decide (-20 ≤ v.toInt ∧ v.toInt ≤ 50) := by
  unfold trefArg
  split <;> simp [*]

theorem axleRecArg_isSome (near : BitVec 2) (margin : BitVec 6) (liftable : Bool) :
    (axleRecArg near margin liftable).isSome = (decide (near.toNat ≤ 2) && decide (margin.toNat ≤ 40)) := by
  rw [← nearArg_isSome]
  unfold axleRecArg
  cases nearArg near with
  | none => rfl
  | some n => by_cases h : margin.toNat ≤ 40 <;> simp [h]

theorem configAArg_isSome (trigger mode step : BitVec 2) (start : BitVec 5) (blockLen : BitVec 6) :
    (configAArg trigger mode step start blockLen).isSome = (decide (mode.toNat ≤ 2) && decide (blockLen.toNat ≤ 32)) := by
  rw [← modeArg_isSome]
  unfold configAArg
  cases modeArg mode with
  | none => rfl
  | some m => by_cases h : blockLen.toNat ≤ 32 <;> simp [h]

/-- The sensor entry that a request's fields make. -/
def requestedEntry (sid : SensorId) (pos : BitVec 6) (set : BitVec 2) (offset : Byte) : Entry :=
  { valid := true, sid := sid, set := Fin.ofNat 4 set.toNat, pos := Fin.ofNat 32 pos.toNat, offset := offset.toInt }

theorem sensorId_ok_iff (sid : SensorId) :
    (sid != 0 && sid != BitVec.allOnes 32) = decide (1 ≤ sid.toNat ∧ sid.toNat ≤ 0xFFFFFFFE) := by
  have lt := sid.isLt
  have zero : sid = 0 ↔ sid.toNat = 0 := by simp [BitVec.toNat_eq]
  have ones : sid = BitVec.allOnes 32 ↔ sid.toNat = 0xFFFFFFFF := by simp [BitVec.toNat_eq]
  rw [Bool.eq_iff_iff]
  simp only [Bool.and_eq_true, bne_iff_ne, ne_eq, zero, ones, decide_eq_true_eq]
  omega

theorem setNo_val (set : BitVec 2) : (Fin.ofNat 4 set.toNat).val = set.toNat := Nat.mod_eq_of_lt set.isLt

theorem setNo_eq_zero (set : BitVec 2) : Fin.ofNat 4 set.toNat = 0 ↔ set = 0 := by
  revert set; decide

/-- What a WRITE SENSOR ENTRY may ask for (R19). -/
def sensorFieldsOk (sid : SensorId) (pos : BitVec 6) (set : BitVec 2) (offset : Byte) : Prop :=
  (1 ≤ sid.toNat ∧ sid.toNat ≤ 0xFFFFFFFE) ∧ (if set = 0 then pos.toNat < 16 else 16 ≤ pos.toNat ∧ pos.toNat < 32) ∧
    (-64 ≤ offset.toInt ∧ offset.toInt ≤ 63)

theorem entryOk_iff (x : Entry) : entryOk x = true ↔ (1 ≤ x.sid.toNat ∧ x.sid.toNat ≤ 0xFFFFFFFE) ∧
    placeOk x.set x.pos.val = true ∧ (-64 ≤ x.offset ∧ x.offset ≤ 63) := by
  simp only [entryOk, sensorId_ok_iff, Bool.and_eq_true, decide_eq_true_eq, and_assoc]

theorem requestedEntry_ok (sid : SensorId) (pos : BitVec 6) (set : BitVec 2) (offset : Byte) :
    pos.toNat < 32 ∧ entryOk (requestedEntry sid pos set offset) = true ↔ sensorFieldsOk sid pos set offset := by
  by_cases range : pos.toNat < 32
  · have place : (Fin.ofNat 32 pos.toNat).val = pos.toNat := Nat.mod_eq_of_lt range
    rw [entryOk_iff]
    simp only [requestedEntry, placeOk, setNo_eq_zero, place, sensorFieldsOk, range, true_and]
    by_cases zero : set = 0 <;> simp [zero]
  · refine ⟨fun h => absurd h.1 range, fun ⟨_, h, _⟩ => ?_⟩
    split at h <;> omega

theorem sensorArg_eq_some_iff (sid : SensorId) (pos : BitVec 6) (set : BitVec 2) (offset : Byte) (x : Entry) :
    sensorArg sid pos set offset = some x ↔ sensorFieldsOk sid pos set offset ∧ x = requestedEntry sid pos set offset := by
  have eq : sensorArg sid pos set offset = if pos.toNat < 32 ∧ entryOk (requestedEntry sid pos set offset) = true then
      some (requestedEntry sid pos set offset) else none := rfl
  rw [eq, ← requestedEntry_ok]
  split
  · next h => simp [h, eq_comm]
  · next h => simp [h]

theorem sensorArg_isSome_iff (sid : SensorId) (pos : BitVec 6) (set : BitVec 2) (offset : Byte) :
    (sensorArg sid pos set offset).isSome = true ↔ sensorFieldsOk sid pos set offset := by
  rw [Option.isSome_iff_exists]
  simp [sensorArg_eq_some_iff]

theorem walkArgs_isSome (start : Byte) (half order : Bool) (code : BitVec 3) (target : BitVec 2) (window : BitVec 10) :
    (walkArgs start half order code target window).isSome =
      (decide (if half then 16 ≤ start.toNat ∧ start.toNat < 32 else start.toNat < 16) && decide (code.toNat ≤ 4) &&
        decide (window.toNat = 0 ∨ 30 ≤ window.toNat ∧ window.toNat ≤ 600)) := by
  have half_iff (p : Pos) : halfOf p = halfBit half ↔ (if half then 16 ≤ p.val else p.val < 16) := by
    have above : 16 ≤ p.val ↔ ¬p.val < 16 := by omega
    cases half <;> by_cases low : p.val < 16 <;> simp [halfOf, halfBit, above, low]
  rw [← lengthArg_isSome, Bool.eq_iff_iff]
  unfold walkArgs posArg
  by_cases below : start.toNat < 32
  · rw [dif_pos below]
    cases lengthArg code with
    | none => simp
    | some len =>
      simp only [isSome_ite_iff, half_iff]
      cases half <;> simp [below]
  · rw [dif_neg below]
    cases half
    · simp
      omega
    · simp [below]

/-! ## The gate (R162 to R164) -/

/-- A command in the form of a request is a call of the gate, with the kind of its form and the lock of its row, whose
arguments are there exactly if the length is right and every argument lies in its range. -/
theorem request_is_served {i : Instr} {f : RequestForm} (h : requestForm i = some f) :
    ∃ (α : Type) (args : Option α) (owner : α → State → State),
      (∀ s, exec i s = .next (serve f.kind (lockRow i) args owner s)) ∧
        args.isSome = (decide (f.len = f.required) && argumentsInRange i) := by
  cases i with
  | writeSensorEntry len index sid pos set offset =>
    cases h
    refine ⟨_, _, _, fun _ => rfl, ?_⟩
    rw [isSome_ofLength, isSome_both, entryArg_isSome, Bool.eq_iff_iff]
    simp [argumentsInRange, sensorArg_isSome_iff, sensorFieldsOk, and_assoc]
  | openWalk =>
    cases h
    refine ⟨_, _, _, fun _ => rfl, ?_⟩
    rw [isSome_ofLength, walkArgs_isSome]
    rfl
  | readHistory =>
    cases h
    refine ⟨_, _, _, fun _ => rfl, ?_⟩
    rw [isSome_ofLength, Bool.eq_iff_iff, Bool.and_eq_true, isSome_ite_iff]
    simp [argumentsInRange, historyArgsOk, and_comm, and_assoc]
  | writeProfileA =>
    cases h
    refine ⟨_, _, _, fun _ => rfl, ?_⟩
    rw [isSome_ofLength, Bool.eq_iff_iff, Bool.and_eq_true, isSome_ite_iff]
    simp [argumentsInRange, profileAOk]
    omega
  | writeProfileB _ _ _ _ twin leak =>
    cases h
    refine ⟨_, _, _, fun _ => rfl, ?_⟩
    have twinOk : twin.toNat ≤ 255 := Nat.le_of_lt_succ twin.isLt
    have leakOk : leak.toNat ≤ 255 := Nat.le_of_lt_succ leak.isLt
    rw [isSome_ofLength, Bool.eq_iff_iff, Bool.and_eq_true, isSome_ite_iff]
    simp [argumentsInRange, profileBOk, twinOk, leakOk, and_comm]
  | configureChannelB _ _ _ period =>
    cases h
    refine ⟨_, _, _, fun _ => rfl, ?_⟩
    have positive : ¬period = 0 ↔ 1 ≤ period.toNat := by
      rw [Nat.one_le_iff_ne_zero, BitVec.toNat_eq]
      rfl
    rw [isSome_ofLength, Bool.eq_iff_iff, Bool.and_eq_true, isSome_ite_iff', positive]
    simp [argumentsInRange, and_comm]
  | _ =>
    cases h
    all_goals
      refine ⟨_, _, _, fun _ => rfl, ?_⟩
      simp [isSome_ofLength, argumentsInRange, isSome_both, axleRecArg_isSome, configAArg_isSome]

section Gate

variable {α : Type} {kind : Byte} {l : Lock} {s : State} {a : α} {owner : α → State → State}

theorem serve_of_restart (h : s.mgmt.restartPending = true) (args : Option α) : serve kind l args owner s = s := if_pos h

theorem serve_of_protected (idle : s.mgmt.restartPending = false) (h : protectLocks l s = true) :
    serve kind l (some a) owner s = reply kind .locked s := by
  simp [serve, idle, h]

theorem serve_of_store (idle : s.mgmt.restartPending = false) (open_ : protectLocks l s = false)
    (h : storeLocks l s = true) : serve kind l (some a) owner s = reply kind .busy s := by
  simp [serve, idle, open_, h]

theorem protectLocks_iff (l : Lock) (s : State) :
    protectLocks l s = true ↔ ∃ level, l.level = some level ∧ level ≤ s.content.settings.protect := by
  unfold protectLocks
  cases l.level <;> simp

end Gate

theorem ackItem_eq (b : Byte) : ackItem b =
    [AckItem.level, .cond .hot, .cond .twin, .cond .leak, .cond .silent, .cond .fault, .cond .battery][b.toNat]? := by
  revert b; decide

theorem axleRecArg_iff (near : BitVec 2) (margin : BitVec 6) (liftable : Bool) (x : AxleRec) :
    axleRecArg near margin liftable = some x ↔
      some x.near = [Near.front, .rear, .either][near.toNat]? ∧ margin.toNat ≤ 40 ∧ x.margin = margin.toNat ∧
        x.liftable = liftable := by
  rw [← nearArg_eq]
  unfold axleRecArg
  obtain ⟨n, m, l⟩ := x
  cases nearArg near with
  | none => simp
  | some k =>
    by_cases h : margin.toNat ≤ 40
    · simp [h, eq_comm]
    · simp [h]

/-- Settles O44: a request is a call of the gate, and the gate's checks stand in the order of the statement. -/
theorem requestsAreRefusedInOrder : Obligations.RequestsAreRefusedInOrder := by
  refine ⟨?gate, ?unknown, ?bytes, fun code => ⟨loadArg_eq code, modeArg_eq code, triggerArg_eq code, stepArg_eq code⟩,
    axleRecArg_iff, ?sensor⟩
  case gate =>
    intro i f s form protected_
    obtain ⟨α, args, owner, served, isSome⟩ := request_is_served form
    have protect_iff : protectLocks (lockRow i) s = true ↔ protected_ := protectLocks_iff _ _
    refine ⟨fun restart => ?_, fun idle len => ?_, fun idle range => ?_, fun idle len range => ⟨fun locked => ?_,
      fun open_ row busy => ?_⟩⟩ <;> rw [served]
    · rw [serve_of_restart restart]
    · have none : args = none := by simpa [len] using isSome
      rw [none, serve_of_bad_args idle]
    · have none : args = none := by simpa [range] using isSome
      rw [none, serve_of_bad_args idle]
    · obtain ⟨a, rfl⟩ := Option.isSome_iff_exists.mp (isSome.trans (by simp [len, range]))
      rw [serve_of_protected idle (protect_iff.mpr locked)]
    · obtain ⟨a, rfl⟩ := Option.isSome_iff_exists.mp (isSome.trans (by simp [len, range]))
      rw [serve_of_store idle (Bool.eq_false_iff.mpr (mt protect_iff.mp open_)) (by simp [storeLocks, row, busy])]
  case unknown =>
    intro kind s
    have strange (h : kind = 0 ∨ 0x1A < kind.toNat) : kindKnown kind = false := by
      simp only [kindKnown, decide_eq_false_iff_not]
      obtain rfl | h := h
      · simp
      · omega
    refine ⟨fun restart => congrArg Host.Outcome.next (if_pos restart), fun idle h => congrArg Host.Outcome.next ?_,
      fun idle => congrArg Host.Outcome.next ?_⟩
    · simp [idle, strange h]
    · simp [idle, kindKnown]
  case bytes =>
    intro b
    refine ⟨?_, ?_, ?_, ?_, halfArg_eq b, ackItem_eq b⟩
    · unfold posArg
      split <;> simp [*]
    · unfold entryArg
      split <;> simp [*]
    · unfold axleArg
      split <;> simp [*]
    · unfold chanArg
      split <;> simp [*]
  case sensor =>
    intro sid pos set offset x
    have place (places : if set = 0 then pos.toNat < 16 else 16 ≤ pos.toNat ∧ pos.toNat < 32) :
        (Fin.ofNat 32 pos.toNat).val = pos.toNat := by
      refine Nat.mod_eq_of_lt ?_
      split at places <;> omega
    rw [sensorArg_eq_some_iff]
    constructor
    · rintro ⟨⟨id, places, off⟩, rfl⟩
      exact ⟨id, places, off, rfl, rfl, setNo_val set, place places, rfl⟩
    · rintro ⟨id, places, off, valid, same, g, at_, offset_⟩
      refine ⟨⟨id, places, off⟩, ?_⟩
      obtain ⟨xvalid, xsid, xset, xpos, xoffset⟩ := x
      simp only [requestedEntry, Entry.mk.injEq]
      exact ⟨valid, same, Fin.ext (g.trans (setNo_val set).symm), Fin.ext (at_.trans (place places).symm), offset_⟩

end Sys2Proof.Machine
end

section
/-! PROOF. What the notices leave of every position, exactly: a position that leaves LIVE with TWIN active takes TWIN
from its partner, and nothing else of any other position changes (R57 to R59, R64, R67, R117). -/

namespace Sys2Proof.Machine

open Sys2Proof

/-! ## Neighbours on an axle -/

@[simp] theorem mateOf_mateOf (p : Pos) : mateOf (mateOf p) = p := by
  revert p; decide

theorem mateOf_ne (p : Pos) : mateOf p ≠ p := by
  revert p; decide

theorem eq_mateOf_iff {p q : Pos} : q = mateOf p ↔ mateOf q = p :=
  ⟨fun h => h ▸ mateOf_mateOf p, fun h => h ▸ (mateOf_mateOf q).symm⟩

theorem axleOf_mateOf (p : Pos) : axleOf (mateOf p) = axleOf p := by
  revert p; decide

/-! ## TWIN ending with a position that leaves LIVE (R117) -/

theorem twinEnds_iff (s : State) (p : Pos) :
    twinEnds s p = true ↔ (posRec s p).state = .live ∧ (posRec s p).cond.active.twin = true ∧
      partnerOf s p = some (mateOf p) := by
  have partner : partnerOf s p = some (mateOf p) ↔ (geometry s p).fitted = true ∧ (geometry s (mateOf p)).fitted = true := by
    simp [partnerOf]
  rw [partner]
  simp [twinEnds]

theorem withoutTwin_eq (r : PosRec) : withoutTwin r = { r with cond := clearCond .twin r.cond } := rfl

@[simp] theorem withoutTwin_withoutTwin (r : PosRec) : withoutTwin (withoutTwin r) = withoutTwin r := rfl

theorem posRec_modCond_both {p q m : Pos} {f : Cond → Cond} (idem : ∀ c, f (f c) = f c) (s : State) :
    posRec (modCond m f (modCond p f s)) q =
      if q = p ∨ q = m then { posRec s q with cond := f (posRec s q).cond } else posRec s q := by
  by_cases h1 : q = m
  · subst h1
    by_cases h2 : q = p
    · subst h2
      simp [posRec_modCond, idem]
    · simp [posRec_modCond, h2]
  · by_cases h2 : q = p
    · subst h2
      simp [posRec_modCond, h1]
    · simp [posRec_modCond, h1, h2]

/-- The notice of a position that leaves LIVE, under the partner it had: TWIN ends at both where it was active. -/
theorem noticeIfLive_eq (p q : Pos) (partner : Option Pos) (s : State) :
    posRec (noticeIfLive p partner s) q =
      if ((posRec s p).state = .live ∧ (posRec s p).cond.active.twin = true) ∧ partner.isSome = true ∧
          (q = p ∨ partner = some q) then withoutTwin (posRec s q)
      else posRec s q := by
  unfold noticeIfLive partnerNotice
  cases partner with
  | none => simp
  | some m =>
    by_cases live : (posRec s p).state = .live
    · by_cases twin : (posRec s p).cond.active.twin = true
      · simp only [live, twin, if_true]
        rw [posRec_modCond_both (f := clearCond .twin) (fun _ => rfl)]
        simp [withoutTwin_eq, eq_comm]
      · simp [live, twin]
    · simp [live]

/-- The notice of a position that leaves LIVE, under the partner it has. -/
theorem noticeIfLive_partnerOf (p q : Pos) (s : State) :
    posRec (noticeIfLive p (partnerOf s p) s) q =
      if twinEnds s p = true ∧ (q = p ∨ q = mateOf p) then withoutTwin (posRec s q) else posRec s q := by
  rw [noticeIfLive_eq]
  refine if_congr ?_ rfl rfl
  rw [twinEnds_iff]
  constructor
  · rintro ⟨⟨live, twin⟩, some, place⟩
    obtain ⟨m, hm⟩ := Option.isSome_iff_exists.mp some
    obtain rfl := partnerOf_eq hm
    refine ⟨⟨live, twin, hm⟩, place.imp id fun h => ?_⟩
    rw [hm] at h
    exact (Option.some.inj h).symm
  · rintro ⟨⟨live, twin, hm⟩, place⟩
    exact ⟨⟨live, twin⟩, by simp [hm], place.imp id fun h => by rw [hm, h]⟩

/-- What the notice leaves at another position is what stands beside the one that leaves. -/
theorem noticeIfLive_beside {p q : Pos} (s : State) (h : q ≠ p) :
    posRec (noticeIfLive p (partnerOf s p) s) q = besideLeavers s [p] q := by
  rw [noticeIfLive_partnerOf, besideLeavers]
  refine if_congr ?_ rfl rfl
  simp only [h, false_or, eq_mateOf_iff, List.mem_singleton]
  constructor
  · rintro ⟨ends, rfl⟩
    exact ⟨rfl, ends⟩
  · rintro ⟨rfl, ends⟩
    exact ⟨ends, rfl⟩

theorem besideLeavers_nil (s : State) (q : Pos) : besideLeavers s [] q = posRec s q := if_neg (by simp)

theorem besideLeavers_of_not_mem {s : State} {left : List Pos} {q : Pos} (h : mateOf q ∉ left) :
    besideLeavers s left q = posRec s q := if_neg fun k => h k.1

/-- A position none of the leavers is the neighbour of. -/
theorem besideLeavers_other {s : State} {p q : Pos} (h : q ≠ mateOf p) : besideLeavers s [p] q = posRec s q :=
  besideLeavers_of_not_mem (by simpa [eq_mateOf_iff] using h)

/-- Beside leavers a record loses at most TWIN. -/
theorem besideLeavers_cases (s : State) (left : List Pos) (q : Pos) :
    besideLeavers s left q = posRec s q ∨ besideLeavers s left q = withoutTwin (posRec s q) := by
  unfold besideLeavers
  split
  · exact .inr rfl
  · exact .inl rfl

theorem twinEnds_congr {s t : State} (pos : t.pos = s.pos) (geo : t.content.geometry = s.content.geometry) (p : Pos) :
    twinEnds t p = twinEnds s p := by
  rw [Bool.eq_iff_iff]
  simp only [twinEnds, decide_eq_true_eq, posRec_of_pos pos, geometry_congr geo]

theorem besideLeavers_congr {s t : State} (pos : t.pos = s.pos) (geo : t.content.geometry = s.content.geometry)
    (left : List Pos) (q : Pos) : besideLeavers t left q = besideLeavers s left q := by
  simp only [besideLeavers, twinEnds_congr pos geo, posRec_of_pos pos]

/-! ## The notices (R57 to R59, R67) -/

theorem clearRuntime_beside {p q : Pos} (s : State) (h : q ≠ p) :
    posRec (clearRuntime p (partnerOf s p) s) q = besideLeavers s [p] q := by
  unfold clearRuntime
  rw [posRec_modPos_ne _ _ h, noticeIfLive_beside s h]

section Bound

variable {p : Pos} {s : State}

/-- A notice at a position that holds a binding clears its runtime and then writes at that position alone. -/
theorem unbindPos_of_bound (h : hasBinding (posRec s p).state = true) :
    unbindPos p s = setBinding p .unbound none (clearRuntime p (partnerOf s p) s) := by
  unfold unbindPos
  split
  · next e => simp [e, hasBinding] at h
  · next e => simp [e, hasBinding] at h
  all_goals rfl

theorem bindPos_of_bound (h : hasBinding (posRec s p).state = true) (e : EntryNo) :
    bindPos p e s = setBinding p .waiting (some e) (clearRuntime p (partnerOf s p) s) := by
  unfold bindPos
  split
  · next e => simp [e, hasBinding] at h
  · next e => simp [e, hasBinding] at h
  all_goals rfl

theorem clearPos_of_bound (h : hasBinding (posRec s p).state = true) :
    clearPos p s = modPos p (fun r => { r with state := .waiting }) (clearRuntime p (partnerOf s p) s) := by
  unfold clearPos
  split
  · next e => simp [e, hasBinding] at h
  · next e => simp [e, hasBinding] at h
  all_goals rfl

theorem unbindPos_of_unbound (h : hasBinding (posRec s p).state = false) : unbindPos p s = s := by
  unfold unbindPos
  split <;> first | rfl | next e => simp [e, hasBinding] at h

theorem clearPos_of_unbound (h : hasBinding (posRec s p).state = false) : clearPos p s = s := by
  unfold clearPos
  split <;> first | rfl | next e => simp [e, hasBinding] at h

theorem bindPos_of_vacant (h : (posRec s p).state = .vacant) (e : EntryNo) : bindPos p e s = s := by
  unfold bindPos
  rw [h]

theorem bindPos_of_unbound (h : (posRec s p).state = .unbound) (e : EntryNo) :
    bindPos p e s = setBinding p .waiting (some e) s := by
  unfold bindPos
  rw [h]

theorem unbindPos_bound_self (h : hasBinding (posRec s p).state = true) :
    posRec (unbindPos p s) p = freshRec .unbound none (posRec s p) := unbindPos_self h

theorem clearPos_bound_self (h : hasBinding (posRec s p).state = true) :
    posRec (clearPos p s) p = freshRec .waiting (posRec s p).bound (posRec s p) := clearPos_self h

theorem bindPos_bound_self (h : hasBinding (posRec s p).state = true) (e : EntryNo) :
    posRec (bindPos p e s) p = freshRec .waiting (some e) (posRec s p) := by
  rw [bindPos_of_bound h, setBinding, posRec_modPos_self, clearRuntime_self]
  rfl

theorem unbindPos_beside (h : hasBinding (posRec s p).state = true) {q : Pos} (hq : q ≠ p) :
    posRec (unbindPos p s) q = besideLeavers s [p] q := by
  rw [unbindPos_of_bound h, setBinding, posRec_modPos_ne _ _ hq, clearRuntime_beside s hq]

theorem bindPos_beside (h : hasBinding (posRec s p).state = true) (e : EntryNo) {q : Pos} (hq : q ≠ p) :
    posRec (bindPos p e s) q = besideLeavers s [p] q := by
  rw [bindPos_of_bound h, setBinding, posRec_modPos_ne _ _ hq, clearRuntime_beside s hq]

theorem clearPos_beside (h : hasBinding (posRec s p).state = true) {q : Pos} (hq : q ≠ p) :
    posRec (clearPos p s) q = besideLeavers s [p] q := by
  rw [clearPos_of_bound h, posRec_modPos_ne _ _ hq, clearRuntime_beside s hq]

end Bound

/-! ## Silence (R64, R117, R118) -/

theorem goSilent_self (p : Pos) (s : State) :
    let r := if twinEnds s p = true then withoutTwin (posRec s p) else posRec s p
    posRec (goSilent p s) p =
      { r with state := .silent, cond := { r.cond with active := { r.cond.active with silent := true } } } := by
  unfold goSilent
  simp only [posRec_modPos_self, noticeIfLive_partnerOf, true_or, and_true]
  rfl

theorem goSilent_beside {p q : Pos} (s : State) (h : q ≠ p) : posRec (goSilent p s) q = besideLeavers s [p] q := by
  unfold goSilent
  rw [posRec_modPos_ne _ _ h, noticeIfLive_beside s h]

end Sys2Proof.Machine
end

section
/-! PROOF. The close of an event (R122 to R126): one frame for each position with a reason, in ascending order, and the
channels told of them. Settles O33, O19, O22 and O27. -/

namespace Sys2Proof.Machine

open Sys2Proof

/-! ## One alert frame (R123, R125, R126) -/

/-- The marks that a frame generated now leaves in a condition record. -/
def alertMarks (now period : Nat) (placed : Bool) (c : Cond) : Cond :=
  { c with
    lastAlert := some now
    owed := !placed
    repeatDue :=
      if placed = false ∨ unansweredSerious c = true then some (now + period)
      else if 2 ≤ severity c then some (now + 12 * period)
      else none }

theorem repeatAfter_eq (now period : Nat) (placed : Bool) (c : Cond) :
    repeatAfter now period placed c = (alertMarks now period placed c).repeatDue := by
  cases placed <;> cases unanswered : unansweredSerious c <;> simp [repeatAfter, alertMarks, unanswered]

/-- The offer of an alert frame to the queue. -/
def alertOffer (s : State) (p : Pos) (why : Reason) : Placing := offerFrame (alertFrame s p why) s.tx

/-- The record of p with the marks of a frame generated now. -/
def alertedRec (s : State) (p : Pos) (why : Reason) : PosRec :=
  { posRec s p with cond := alertMarks s.time (repeatMs s) (alertOffer s p why).placed (posRec s p).cond }

theorem generateAlert_eq (p : Pos) (why : Reason) (s : State) :
    generateAlert p why s = { s with tx := (alertOffer s p why).tx, pos := put s.pos p (alertedRec s p why) } := by
  unfold generateAlert
  simp only [repeatAfter_eq]
  rfl

theorem generateAlert_self (p : Pos) (why : Reason) (s : State) :
    posRec (generateAlert p why s) p = alertedRec s p why := by
  rw [generateAlert_eq]
  exact pick_put_self _ _ _

theorem generateAlert_other {p q : Pos} (why : Reason) (s : State) (h : q ≠ p) :
    posRec (generateAlert p why s) q = posRec s q := by
  rw [generateAlert_posRec, if_neg h]

theorem viewOf_congr {s t : State} {p : Pos} (h : RecAlertOnly (posRec s p) (posRec t p)) (time : t.time = s.time) :
    viewOf t p = viewOf s p := by
  obtain ⟨rec_, cond⟩ := h
  unfold viewOf
  rw [rec_, cond, time]
  rfl

theorem alertFrame_congr {s t : State} {p : Pos} (h : RecAlertOnly (posRec s p) (posRec t p)) (time : t.time = s.time)
    (why : Reason) : alertFrame t p why = alertFrame s p why := by
  rw [alertFrame, viewOf_congr h time, time]
  rfl

/-! ## The channels told -/

theorem foldl_fixed {α β : Type} {f : β → α → β} {l : List α} {b : β} (h : ∀ a ∈ l, f b a = b) : l.foldl f b = b := by
  induction l with
  | nil => rfl
  | cons a l ih =>
    rw [List.foldl_cons, h a List.mem_cons_self]
    exact ih fun x hx => h x (List.mem_cons_of_mem a hx)

theorem tellChannels_nothing (s : State) : tellChannels [] none s = s := by
  refine foldl_fixed fun c _ => ?_
  unfold tellChannel
  dsimp only
  split <;> rfl

/-- Where no channel has the ALERT trigger, and no reading is told of, the channels do nothing. -/
theorem tellChannels_of_no_alert {s : State} (h : ∀ c : ChanNo, (chanConfig s c).trigger ≠ .alert) (alerts : List Pos) :
    tellChannels alerts none s = s := by
  refine foldl_fixed fun c _ => ?_
  unfold tellChannel
  dsimp only
  split
  · next e => exact absurd e (h c)
  all_goals rfl

theorem tellChannels_posRec (alerts : List Pos) (sample : Option Pos) (s : State) (p : Pos) :
    posRec (tellChannels alerts sample s) p = posRec s p := posRec_of_pos (tellChannels_reach alerts sample s).pos p

/-! ## The reasons of an event (R121, R122) -/

theorem anyActive_iff (c : Cond) : anyActive c = true ↔ c.level ≠ .normal ∨ ∃ k, condGet c.active k = true := by
  have every : ∀ k, k ∈ allConditions := fun k => by cases k <;> simp [allConditions]
  simp [anyActive, condAny, every]

theorem exists_condition_iff {f : Condition → Bool} : allConditions.any f = true ↔ ∃ k, f k = true := by
  have every : ∀ k, k ∈ allConditions := fun k => by cases k <;> simp [allConditions]
  simp [every]

theorem levelRaised_iff {old new : Level} (named : ¬(old = .critical ∧ new = .high)) :
    levelRaised old new = true ↔ (old, new) ∈ [(Level.normal, Level.low), (.normal, .critical), (.normal, .high),
      (.low, .critical), (.low, .high), (.high, .low), (.high, .critical)] := by
  cases old <;> cases new <;> simp [levelRaised] at named ⊢

theorem levelCleared_iff {old new : Level} (named : ¬(old = .critical ∧ new = .high)) :
    (old != new && !levelRaised old new) = true ↔
      (old, new) ∈ [(Level.low, Level.normal), (.critical, .low), (.critical, .normal), (.high, .normal)] := by
  cases old <;> cases new <;> simp [levelRaised] at named ⊢

theorem madeRaise_iff {old new : Cond} (named : ¬(old.level = .critical ∧ new.level = .high)) :
    madeRaise old new = true ↔ (old.level, new.level) ∈ [(Level.normal, Level.low), (.normal, .critical), (.normal, .high),
        (.low, .critical), (.low, .high), (.high, .low), (.high, .critical)] ∨
      ∃ k : Condition, condGet old.active k = false ∧ condGet new.active k = true := by
  rw [madeRaise, Bool.or_eq_true, levelRaised_iff named, exists_condition_iff]
  simp only [Bool.and_eq_true, Bool.not_eq_true']

theorem madeClear_iff {old new : Cond} (named : ¬(old.level = .critical ∧ new.level = .high)) :
    madeClear old new = true ↔
      (old.level, new.level) ∈ [(Level.low, Level.normal), (.critical, .low), (.critical, .normal), (.high, .normal)] ∨
      ∃ k : Condition, condGet old.active k = true ∧ condGet new.active k = false := by
  rw [madeClear, Bool.or_eq_true, levelCleared_iff named, exists_condition_iff]
  simp only [Bool.and_eq_true, Bool.not_eq_true']

/-- Whether an event cleared a runtime in which something was active or owed. -/
theorem resets_iff (cleared : Bool) (old : Cond) :
    (cleared && (anyActive old || old.owed)) = true ↔
      cleared = true ∧ (old.level ≠ .normal ∨ (∃ k, condGet old.active k = true) ∨ old.owed = true) := by
  rw [Bool.and_eq_true, Bool.or_eq_true, anyActive_iff, or_assoc]

section Reason

variable {cleared : Bool} {old new : Cond}

theorem alertReason_of_reset (h : (cleared && (anyActive old || old.owed)) = true) :
    alertReason cleared old new = some .reset := if_pos h

theorem alertReason_of_raise (h : ¬(cleared && (anyActive old || old.owed)) = true) (raise : madeRaise old new = true) :
    alertReason cleared old new = some .raised := (if_neg h).trans (if_pos raise)

theorem alertReason_of_clear (h : ¬(cleared && (anyActive old || old.owed)) = true) (raise : ¬madeRaise old new = true)
    (clear : madeClear old new = true) : alertReason cleared old new = some .cleared :=
  (if_neg h).trans ((if_neg raise).trans (if_pos clear))

theorem alertReason_of_none (h : ¬(cleared && (anyActive old || old.owed)) = true) (raise : ¬madeRaise old new = true)
    (clear : ¬madeClear old new = true) : alertReason cleared old new = none :=
  (if_neg h).trans ((if_neg raise).trans (if_neg clear))

end Reason

/-! ## The close of an event (R122) -/

/-- The reason of the frame of p that an event generates which began at `before` and whose work left s. -/
def eventReason (before : State) (touched : List Pos) (s : State) (p : Pos) : Option Reason :=
  alertReason (decide (p ∈ touched ∧ hasBinding (posRec before p).state = true)) (posRec before p).cond (posRec s p).cond

/-- The frame of p generated, if it has a reason. -/
def framedAt (reason : Pos → Option Reason) (u : State) (p : Pos) : State :=
  match reason p with
  | none => u
  | some why => generateAlert p why u

section Framed

variable {reason : Pos → Option Reason}

theorem framedAt_none {p : Pos} (h : reason p = none) (u : State) : framedAt reason u p = u := by
  simp only [framedAt, h]

theorem framedAt_some {p : Pos} {why : Reason} (h : reason p = some why) (u : State) :
    framedAt reason u p = generateAlert p why u := by
  simp only [framedAt, h]

theorem framedAt_reach (u : State) (p : Pos) : PosTxChan u (framedAt reason u p) := by
  cases h : reason p with
  | none => rw [framedAt_none h]; exact PosTxChan.refl u
  | some why => rw [framedAt_some h]; exact generateAlert_reach p why u

theorem framedAt_chan (u : State) (p : Pos) : (framedAt reason u p).chan = u.chan := by
  cases h : reason p with
  | none => rw [framedAt_none h]
  | some why => rw [framedAt_some h, generateAlert_eq]

theorem framedAt_other {p q : Pos} (u : State) (h : q ≠ p) : posRec (framedAt reason u p) q = posRec u q := by
  cases hr : reason p with
  | none => rw [framedAt_none hr]
  | some why => rw [framedAt_some hr, generateAlert_other why u h]

theorem framedFold_other {q : Pos} {l : List Pos} (u : State) (h : q ∉ l) :
    posRec (l.foldl (framedAt reason) u) q = posRec u q := by
  induction l generalizing u with
  | nil => rfl
  | cons p l ih =>
    obtain ⟨ne, hl⟩ := not_or.mp (mt List.mem_cons.mpr h)
    rw [List.foldl_cons, ih _ hl, framedAt_other _ ne]

theorem framedFold_reach (l : List Pos) (u : State) : PosTxChan u (l.foldl (framedAt reason) u) :=
  PosTxChan.foldl framedAt_reach l u

/-- What the frames of an event leave at a position: nothing new without a reason of its own, and else its marks. -/
theorem framedFold_posRec {q : Pos} {l : List Pos} (nodup : l.Nodup) (hq : q ∈ l) (u : State) :
    (reason q = none → posRec (l.foldl (framedAt reason) u) q = posRec u q) ∧
      (∀ why, reason q = some why → ∃ v : State, v.time = u.time ∧ posRec v q = posRec u q ∧
        posRec (l.foldl (framedAt reason) u) q = alertedRec v q why) := by
  induction l generalizing u with
  | nil => cases hq
  | cons p l ih =>
    obtain ⟨hp, nodup⟩ := List.nodup_cons.mp nodup
    rw [List.foldl_cons]
    obtain rfl | hq := List.mem_cons.mp hq
    · rw [framedFold_other _ hp]
      refine ⟨fun h => by rw [framedAt_none h], fun why h => ⟨u, rfl, rfl, ?_⟩⟩
      rw [framedAt_some h, generateAlert_self]
    · have ne : q ≠ p := fun e => hp (e ▸ hq)
      obtain ⟨none, some⟩ := ih nodup hq (framedAt reason u p)
      rw [framedAt_other u ne] at none some
      rw [(framedAt_reach u p).time] at some
      exact ⟨none, some⟩

end Framed

/-- The fold of an event's close, as the frames it generates and the list of their positions. -/
theorem closeFold_eq (before : State) (cleared : Pos → Bool) (s : State) {l : List Pos} (nodup : l.Nodup) (acc : Closing)
    (untouched : ∀ p ∈ l, posRec acc.state p = posRec s p) {reason : Pos → Option Reason}
    (reasons : ∀ p, reason p = alertReason (cleared p) (posRec before p).cond (posRec s p).cond) :
    l.foldl (closeAt before cleared) acc =
      { state := l.foldl (framedAt reason) acc.state, alerts := acc.alerts ++ l.filter (fun p => (reason p).isSome) } := by
  induction l generalizing acc with
  | nil => simp
  | cons p l ih =>
    obtain ⟨hp, nodup⟩ := List.nodup_cons.mp nodup
    have here : alertReason (cleared p) (posRec before p).cond (posRec acc.state p).cond = reason p := by
      rw [reasons, untouched p List.mem_cons_self]
    have one : closeAt before cleared acc p =
        { state := framedAt reason acc.state p, alerts := acc.alerts ++ (if (reason p).isSome then [p] else []) } := by
      unfold closeAt
      rw [here]
      cases h : reason p with
      | none => simp [framedAt_none h]
      | some why => simp [framedAt_some h]
    have rest : ∀ q ∈ l, posRec (closeAt before cleared acc p).state q = posRec s q := fun q hq => by
      have ne : q ≠ p := fun e => hp (e ▸ hq)
      rw [closeAt_other _ _ _ ne, untouched q (List.mem_cons_of_mem p hq)]
    rw [List.foldl_cons, ih nodup _ rest, one]
    cases h : reason p <;> simp [h]

/-- The close of an event: the frame of every position with a reason, in ascending order, and the channels told of
these positions and of the reading. -/
theorem finishEvent_eq (before : State) (touched : List Pos) (sample : Option Pos) (s : State) :
    finishEvent before touched sample s =
      tellChannels ((List.finRange 32).filter (fun p => (eventReason before touched s p).isSome)) sample
        ((List.finRange 32).foldl (framedAt (eventReason before touched s)) s) := by
  unfold finishEvent closeEvent
  rw [closeFold_eq before _ s (List.nodup_finRange 32) _ (fun _ _ => rfl) (reason := eventReason before touched s) fun p => ?_]
  · simp
  · rw [eventReason]
    congr 1
    rw [Bool.eq_iff_iff]
    simp

theorem PosTxChan.eq {s t : State} (h : PosTxChan s t) : t = { s with pos := t.pos, tx := t.tx, chan := t.chan } := by
  obtain ⟨time, content, frontPort, rearPort, dup, table, strangers, vehicle, truckWalk, trailerWalk, mgmt, store, pending⟩ := h
  cases s
  cases t
  simp_all

/-- The record of each position after the close (R122, R125). -/
theorem finishEvent_posRec (before : State) (touched : List Pos) (sample : Option Pos) (s : State) (p : Pos) :
    (eventReason before touched s p = none → posRec (finishEvent before touched sample s) p = posRec s p) ∧
      (∀ why, eventReason before touched s p = some why → ∃ v : State, v.time = s.time ∧ posRec v p = posRec s p ∧
        posRec (finishEvent before touched sample s) p = alertedRec v p why) := by
  rw [finishEvent_eq, tellChannels_posRec]
  exact framedFold_posRec (List.nodup_finRange 32) (List.mem_finRange p) s

/-! ## An event at one position -/

theorem foldl_single {α β : Type} {f : β → α → β} {l : List α} (nodup : l.Nodup) {a : α} (ha : a ∈ l)
    (others : ∀ x, x ≠ a → ∀ b, f b x = b) (b : β) : l.foldl f b = f b a := by
  induction l generalizing b with
  | nil => cases ha
  | cons x l ih =>
    obtain ⟨hx, nodup⟩ := List.nodup_cons.mp nodup
    rw [List.foldl_cons]
    obtain rfl | ha := List.mem_cons.mp ha
    · exact foldl_fixed fun y hy => others y (fun e => hx (e ▸ hy)) _
    · rw [others x (fun e => hx (e ▸ ha)), ih nodup ha]

theorem eventReason_quiet {before : State} {touched : List Pos} {s : State} {q : Pos}
    (h : (posRec s q).cond = (posRec before q).cond ∧ q ∉ touched) : eventReason before touched s q = none := by
  rw [eventReason, h.1, decide_eq_false fun k => h.2 k.1, alertReason_same]

section Single

variable {p : Pos} {touched : List Pos} {before s : State}
  (single : ∀ q : Pos, q ≠ p → (posRec s q).cond = (posRec before q).cond ∧ q ∉ touched)
include single

theorem finishEvent_single_none (h : eventReason before touched s p = none) : finishEvent before touched none s = s := by
  have none : ∀ q, eventReason before touched s q = none := fun q => by
    by_cases hq : q = p
    · rw [hq, h]
    · exact eventReason_quiet (single q hq)
  rw [finishEvent_eq, foldl_fixed fun q _ => framedAt_none (none q) s]
  simp [none, tellChannels_nothing]

theorem finishEvent_single_some {why : Reason} (h : eventReason before touched s p = some why) :
    finishEvent before touched none s = tellChannels [p] none (generateAlert p why s) := by
  have none : ∀ q, q ≠ p → eventReason before touched s q = none := fun q hq => eventReason_quiet (single q hq)
  have only : (List.finRange 32).filter (fun q => (eventReason before touched s q).isSome) = [p] := by
    have same : ∀ q : Pos, (eventReason before touched s q).isSome = (q == p) := fun q => by
      by_cases hq : q = p
      · simp [hq, h]
      · simp [hq, none q hq]
    simp only [same]
    rw [List.filter_beq, List.count_eq_one_of_mem (List.nodup_finRange 32) (List.mem_finRange p)]
    rfl
  rw [finishEvent_eq, only, foldl_single (List.nodup_finRange 32) (List.mem_finRange p) fun q hq u =>
    framedAt_none (none q hq) u, framedAt_some h]

/-- The frame of an event at one position: its marks, and, where no channel has the ALERT trigger, all that the queue
and the channels see of it. -/
theorem finishEvent_single_marks {why : Reason} (h : eventReason before touched s p = some why) :
    let t := finishEvent before touched none s
    let out := offerFrame (alertFrame t p why) s.tx
    posRec t p = { posRec s p with cond := alertMarks s.time (repeatMs s) out.placed (posRec s p).cond } ∧
      ((∀ c : ChanNo, (chanConfig s c).trigger ≠ .alert) → t.tx = out.tx ∧ t.chan = s.chan) := by
  intro t out
  have ht : t = tellChannels [p] none (generateAlert p why s) := finishEvent_single_some single h
  have time : t.time = s.time := (finishEvent_reach before touched none s).time
  have frame : out = alertOffer s p why :=
    congrArg (offerFrame · s.tx) (alertFrame_congr (finishEvent_record before touched none s p) time why)
  rw [frame]
  constructor
  · rw [ht, tellChannels_posRec, generateAlert_self]
    rfl
  · intro no_alert
    rw [ht, tellChannels_of_no_alert (s := generateAlert p why s) no_alert, generateAlert_eq]
    exact ⟨rfl, rfl⟩

end Single

/-! ## The repeat timer (R125) -/

theorem expireRepeat_of_due {p : Pos} {due : Nat} {s : State} (runs : (posRec s p).cond.repeatDue = some due)
    (reached : due ≤ s.time) : expireRepeat p s = tellChannels [p] none (generateAlert p .repeated s) := by
  simp only [expireRepeat, runs, if_pos reached]

/-- Settles O33: a REPEAT frame is one alert frame; the reasons are a table; an event's close is a fold of frames, of
which an event at one position leaves one. -/
theorem repeatTimerExpires : Obligations.RepeatTimerExpires := by
  refine ⟨?repeats, ?reasons, ?single, ?close⟩
  case repeats =>
    intro p due s runs reached c out period
    have ran : exec (.repeatTimerExpiry p) s = .next (tellChannels [p] none (generateAlert p .repeated s)) :=
      congrArg Host.Outcome.next (expireRepeat_of_due runs reached)
    have reach := (generateAlert_reach p .repeated s).trans (tellChannels_reach [p] none (generateAlert p .repeated s)).toPosTxChan
    refine ⟨_, ran, ?_, fun q hq => ?_, ⟨generateAlert p .repeated s, rfl, ?_, ?_⟩, fun no_alert => ?_, reach.content,
      reach.vehicle, reach.table, reach.mgmt, reach.store⟩
    · rw [tellChannels_posRec, generateAlert_self]
      rfl
    · rw [tellChannels_posRec, generateAlert_other _ _ hq]
    · rw [generateAlert_eq]
      rfl
    · rw [generateAlert_eq]
    · rw [tellChannels_of_no_alert (s := generateAlert p .repeated s) no_alert, generateAlert_eq]
      exact ⟨rfl, rfl⟩
  case reasons =>
    intro cleared old new named was raise clear
    have was_iff : (cleared && (anyActive old || old.owed)) = true ↔ was := resets_iff cleared old
    have raise_iff : madeRaise old new = true ↔ raise := madeRaise_iff named
    have clear_iff : madeClear old new = true ↔ clear := madeClear_iff named
    rw [← was_iff, ← raise_iff, ← clear_iff]
    exact ⟨alertReason_of_reset, alertReason_of_raise, alertReason_of_clear, alertReason_of_none⟩
  case single =>
    intro p touched before s single cleared c
    have reason : alertReason cleared (posRec before p).cond c = eventReason before touched s p := rfl
    rw [reason]
    cases h : eventReason before touched s p with
    | none => exact finishEvent_single_none single h
    | some why =>
      refine (finishEvent_single_some single h).trans ?_
      rw [generateAlert_eq]
      rfl
  case close =>
    intro before touched sample s reason framed t
    have same : framed = framedAt (eventReason before touched s) := by
      funext u p
      have e : reason p = eventReason before touched s p := rfl
      simp only [framed, framedAt, e]
      cases eventReason before touched s p with
      | none => rfl
      | some why => exact (generateAlert_eq p why u).symm
    refine ⟨?_, (finishEvent_reach before touched sample s).eq, fun p => ?_⟩
    · rw [same]
      exact finishEvent_eq before touched sample s
    · have e : reason p = eventReason before touched s p := rfl
      obtain ⟨none, some⟩ := finishEvent_posRec before touched sample s p
      rw [e]
      cases h : eventReason before touched s p with
      | none => exact none h
      | some why =>
        obtain ⟨v, time, rec_, after⟩ := some why h
        rw [show posRec t p = _ from after, alertedRec, rec_, time]
        rfl

end Sys2Proof.Machine
end

section
/-! PROOF. The events at one position: the silence expiry and the timeout written (R64, R65), CLEAR POSITION (R67) and
the interval expiry (R93, R98). Settles O19, O22, O27 and O46. -/

namespace Sys2Proof.Machine

open Sys2Proof

/-! ## What the close keeps -/

theorem closesEvent_of_posOnly {before u : State} (h : PosOnly before u) (touched : List Pos) (sample : Option Pos) :
    ClosesEvent before touched sample u (finishEvent before touched sample u) := ⟨rfl, h.tx, h.chan⟩

section RecAlertOnly

variable {r t : PosRec}

theorem RecAlertOnly.state (h : RecAlertOnly r t) : t.state = r.state := by rw [h.1]

theorem RecAlertOnly.bound (h : RecAlertOnly r t) : t.bound = r.bound := by rw [h.1]

theorem RecAlertOnly.cache (h : RecAlertOnly r t) : t.cache = r.cache := by rw [h.1]

theorem RecAlertOnly.silence (h : RecAlertOnly r t) : t.silence = r.silence := by rw [h.1]

theorem RecAlertOnly.filtered (h : RecAlertOnly r t) : t.filtered = r.filtered := by rw [h.1]

theorem RecAlertOnly.history (h : RecAlertOnly r t) : t.history = r.history := by rw [h.1]

theorem RecAlertOnly.level (h : RecAlertOnly r t) : t.cond.level = r.cond.level := by rw [h.2]

theorem RecAlertOnly.active (h : RecAlertOnly r t) : t.cond.active = r.cond.active := by rw [h.2]

theorem RecAlertOnly.acked (h : RecAlertOnly r t) : t.cond.acked = r.cond.acked := by rw [h.2]

end RecAlertOnly

theorem madeRaise_of_condition {old new : Cond} (k : Condition) (before : condGet old.active k = false)
    (after : condGet new.active k = true) : madeRaise old new = true := by
  rw [madeRaise, Bool.or_eq_true, exists_condition_iff]
  exact .inr ⟨k, by simp [before, after]⟩

/-- The reason of a position whose runtime the event does not clear. -/
theorem eventReason_untouched (before s : State) (p : Pos) :
    eventReason before [] s p = alertReason false (posRec before p).cond (posRec s p).cond := by
  simp [eventReason]

theorem besideLeavers_of_not_ends {s : State} {p : Pos} (h : ¬twinEnds s p = true) (q : Pos) :
    besideLeavers s [p] q = posRec s q := by
  refine if_neg fun ⟨mem, ends⟩ => h ?_
  rw [List.mem_singleton.mp mem] at ends
  exact ends

theorem not_twinEnds_of_no_twin {s : State} {p : Pos} (h : (posRec s p).cond.active.twin = false) : ¬twinEnds s p = true := by
  rw [twinEnds_iff, h]
  simp

theorem alertFrame_reply (kind : Byte) (st : Status) (v : State) (p : Pos) (why : Reason) :
    alertFrame (reply kind st v) p why = alertFrame v p why := rfl

theorem reply_tx_congr {s t : State} (tx : t.tx = s.tx) (time : t.time = s.time) (kind : Byte) (st : Status) :
    (reply kind st t).tx = (reply kind st s).tx := by
  unfold reply placeService newFrame
  rw [tx, time]

theorem posRec_reply (kind : Byte) (st : Status) (s : State) (p : Pos) : posRec (reply kind st s) p = posRec s p := rfl

/-- The frame of an event at one position whose work writes position records only. -/
theorem finishEvent_marks_of_posOnly {p : Pos} {touched : List Pos} {before s : State} (work : PosOnly before s)
    (single : ∀ q : Pos, q ≠ p → (posRec s q).cond = (posRec before q).cond ∧ q ∉ touched) {why : Reason}
    (h : eventReason before touched s p = some why) :
    let t := finishEvent before touched none s
    let out := offerFrame (alertFrame t p why) before.tx
    (posRec t p).cond.lastAlert = some before.time ∧ (posRec t p).cond.owed = !out.placed ∧
      ((∀ ch : ChanNo, (chanConfig before ch).trigger ≠ .alert) → t.tx = out.tx ∧ t.chan = before.chan) := by
  intro t out
  obtain ⟨marks, placed⟩ := finishEvent_single_marks single h
  rw [work.tx] at marks placed
  have same : ∀ ch, chanConfig s ch = chanConfig before ch := chanConfig_congr (congrArg Content.channels work.content)
  rw [show posRec t p = _ from marks]
  refine ⟨congrArg some work.time, rfl, fun no_alert => ?_⟩
  rw [← work.chan]
  exact placed fun ch => by rw [same]; exact no_alert ch

/-! ## The silence expiry (R64, R118) -/

theorem silenceEvent_keeps (p : Pos) (s : State) : PosTxChan s (silenceEvent p s) :=
  (goSilent_reach p s).trans (finishEvent_reach _ _ _ _)

theorem goSilent_self_no_twin {p : Pos} {s : State} (h : ¬twinEnds s p = true) :
    posRec (goSilent p s) p =
      { posRec s p with
        state := .silent
        cond := { (posRec s p).cond with active := { (posRec s p).cond.active with silent := true } } } := by
  have self := goSilent_self p s
  rw [if_neg h] at self
  exact self

/-- A silence expiry that raises SILENT, and ends no TWIN, is reported by a RAISED frame. -/
theorem silenceEvent_marks {p : Pos} {s : State} (silent : (posRec s p).cond.active.silent = false)
    (no_twin : (posRec s p).cond.active.twin = false) :
    let t := silenceEvent p s
    let out := offerFrame (alertFrame t p .raised) s.tx
    (posRec t p).cond.lastAlert = some s.time ∧ (posRec t p).cond.owed = !out.placed ∧
      ((∀ ch : ChanNo, (chanConfig s ch).trigger ≠ .alert) → t.tx = out.tx ∧ t.chan = s.chan) := by
  have stays := not_twinEnds_of_no_twin no_twin
  have single : ∀ q : Pos, q ≠ p → (posRec (goSilent p s) q).cond = (posRec s q).cond ∧ q ∉ ([] : List Pos) :=
    fun q hq => ⟨by rw [goSilent_beside s hq, besideLeavers_of_not_ends stays], List.not_mem_nil⟩
  have raised : eventReason s [] (goSilent p s) p = some .raised := by
    rw [eventReason_untouched]
    refine alertReason_of_raise (by simp) (madeRaise_of_condition .silent silent ?_)
    rw [goSilent_self_no_twin stays]
    rfl
  unfold silenceEvent
  exact finishEvent_marks_of_posOnly (goSilent_posOnly p s) single raised

/-- Settles O19: a due silence expiry is `silenceEvent`, whose work is `goSilent`. -/
theorem silenceExpires : Obligations.SilenceExpires := by
  intro p s placed moving low reached
  have due : silenceDue s p = true := (silenceDue_iff s p).mpr ⟨placed, moving, low, reached⟩
  have ran : exec (.silenceExpiry p) s = .next (silenceEvent p s) := congrArg Host.Outcome.next (if_pos due)
  have closed : RecAlertOnly (posRec (goSilent p s) p) (posRec (silenceEvent p s) p) := finishEvent_record _ _ _ _ p
  have kept := silenceEvent_keeps p s
  refine ⟨_, ran, ?_, ?_, ⟨goSilent p s, closesEvent_of_posOnly (goSilent_posOnly p s) _ _, goSilent_self p s,
    fun q hq => goSilent_beside s hq⟩, fun q hq hm => ?_, kept.content, kept.vehicle, kept.table, kept.mgmt, kept.store,
    silenceEvent_marks⟩
  · rw [closed.state, goSilent_self]
  · rw [closed.active, goSilent_self]
  · have other := goSilent_other s hq hm
    exact (finishEvent_quiet s [] none (goSilent p s) q List.not_mem_nil other).trans other

/-! ## The silence timeout written (R65) -/

theorem noticeIfLive_of_ends (p : Pos) (s : State) :
    noticeIfLive p (partnerOf s p) s =
      if twinEnds s p = true then modCond (mateOf p) (clearCond .twin) (modCond p (clearCond .twin) s) else s := by
  by_cases h : twinEnds s p = true
  · obtain ⟨live, twin, partner⟩ := (twinEnds_iff s p).mp h
    rw [if_pos h, noticeIfLive, if_pos live, partner]
    exact if_pos twin
  · rw [if_neg h, noticeIfLive]
    split
    · next live =>
      cases hm : partnerOf s p with
      | none => rfl
      | some m =>
        refine if_neg fun twin => h ((twinEnds_iff s p).mpr ⟨live, twin, ?_⟩)
        rw [hm, partnerOf_eq hm]
    · rfl

/-- What a write of the timeout keeps of every record. -/
structure KeepsReading (r t : PosRec) : Prop where
  silence : t.silence = r.silence
  bound : t.bound = r.bound
  filtered : t.filtered = r.filtered
  history : t.history = r.history
  level : t.cond.level = r.cond.level

theorem KeepsReading.refl (r : PosRec) : KeepsReading r r := ⟨rfl, rfl, rfl, rfl, rfl⟩

theorem KeepsReading.trans {r t u : PosRec} (h : KeepsReading r t) (k : KeepsReading t u) : KeepsReading r u :=
  ⟨k.silence.trans h.silence, k.bound.trans h.bound, k.filtered.trans h.filtered, k.history.trans h.history,
   k.level.trans h.level⟩

theorem KeepsReading.of_alertOnly {r t : PosRec} (h : RecAlertOnly r t) : KeepsReading r t :=
  ⟨h.silence, h.bound, h.filtered, h.history, h.level⟩

/-- What it keeps of a record that does not become SILENT. -/
structure KeepsSilent (r t : PosRec) : Prop where
  state : t.state = r.state
  silent : t.cond.active.silent = r.cond.active.silent

theorem KeepsSilent.refl (r : PosRec) : KeepsSilent r r := ⟨rfl, rfl⟩

theorem KeepsSilent.trans {r t u : PosRec} (h : KeepsSilent r t) (k : KeepsSilent t u) : KeepsSilent r u :=
  ⟨k.state.trans h.state, k.silent.trans h.silent⟩

theorem KeepsSilent.of_alertOnly {r t : PosRec} (h : RecAlertOnly r t) : KeepsSilent r t :=
  ⟨h.state, congrArg CondSet.silent h.active⟩

theorem besideLeavers_keeps (s : State) (left : List Pos) (q : Pos) :
    KeepsReading (posRec s q) (besideLeavers s left q) ∧ KeepsSilent (posRec s q) (besideLeavers s left q) := by
  obtain h | h := besideLeavers_cases s left q <;> rw [h]
  · exact ⟨KeepsReading.refl _, KeepsSilent.refl _⟩
  · exact ⟨⟨rfl, rfl, rfl, rfl, rfl⟩, ⟨rfl, rfl⟩⟩

theorem silenceEvent_other {p q : Pos} (s : State) (h : q ≠ p) :
    KeepsReading (posRec s q) (posRec (silenceEvent p s) q) ∧ KeepsSilent (posRec s q) (posRec (silenceEvent p s) q) := by
  have closed : RecAlertOnly (posRec (goSilent p s) q) (posRec (silenceEvent p s) q) := finishEvent_record _ _ _ _ q
  rw [goSilent_beside s h] at closed
  obtain ⟨reading, silent⟩ := besideLeavers_keeps s [p] q
  exact ⟨reading.trans (.of_alertOnly closed), silent.trans (.of_alertOnly closed)⟩

theorem silenceEvent_self (p : Pos) (s : State) :
    KeepsReading (posRec s p) (posRec (silenceEvent p s) p) ∧ (posRec (silenceEvent p s) p).state = .silent ∧
      (posRec (silenceEvent p s) p).cond.active.silent = true := by
  have closed : RecAlertOnly (posRec (goSilent p s) p) (posRec (silenceEvent p s) p) := finishEvent_record _ _ _ _ p
  have gone : KeepsReading (posRec s p) (posRec (goSilent p s) p) := by
    rw [goSilent_self]
    by_cases h : twinEnds s p = true
    · simp only [h, if_true]
      exact ⟨rfl, rfl, rfl, rfl, rfl⟩
    · simp only [h]
      exact ⟨rfl, rfl, rfl, rfl, rfl⟩
  refine ⟨gone.trans (.of_alertOnly closed), ?_, ?_⟩
  · rw [closed.state, goSilent_self]
  · rw [closed.active, goSilent_self]

theorem silenceAtWrite_keeps (s : State) (p : Pos) : PosTxChan s (silenceAtWrite s p) := by
  unfold silenceAtWrite
  split
  · exact silenceEvent_keeps p s
  · exact PosTxChan.refl s

theorem silenceAtWrite_other {p q : Pos} (s : State) (h : q ≠ p) :
    KeepsReading (posRec s q) (posRec (silenceAtWrite s p) q) ∧ KeepsSilent (posRec s q) (posRec (silenceAtWrite s p) q) := by
  unfold silenceAtWrite
  split
  · exact silenceEvent_other s h
  · exact ⟨KeepsReading.refl _, KeepsSilent.refl _⟩

/-- Whether the write of a timeout of v seconds finds a position at its expiry. -/
def FallsSilent (v : Nat) (r : PosRec) : Prop := (r.state = .waiting ∨ r.state = .live) ∧ v * 1000 ≤ r.silence

/-- The record t is what the write of a timeout of v seconds leaves of the record r. -/
def SilencedBy (v : Nat) (r t : PosRec) : Prop :=
  (FallsSilent v r → t.state = .silent ∧ t.cond.active.silent = true) ∧ (¬FallsSilent v r → KeepsSilent r t) ∧
    KeepsReading r t

theorem silenceAtWrite_self (s : State) (p : Pos) :
    SilencedBy s.content.settings.silenceTimeout (posRec s p) (posRec (silenceAtWrite s p) p) := by
  unfold silenceAtWrite
  by_cases h : silenceReached s p = true
  · have falls : FallsSilent s.content.settings.silenceTimeout (posRec s p) := (silenceReached_iff s p).mp h
    obtain ⟨reading, state, silent⟩ := silenceEvent_self p s
    rw [if_pos h]
    exact ⟨fun _ => ⟨state, silent⟩, fun no => absurd falls no, reading⟩
  · rw [if_neg h]
    exact ⟨fun falls => absurd ((silenceReached_iff s p).mpr falls) h, fun _ => KeepsSilent.refl _, KeepsReading.refl _⟩

theorem SilencedBy.after {v : Nat} {r t u : PosRec} (h : SilencedBy v r t) (reading : KeepsReading t u)
    (silent : KeepsSilent t u) : SilencedBy v r u := by
  obtain ⟨falls, stays, kept⟩ := h
  refine ⟨fun k => ?_, fun k => (stays k).trans silent, kept.trans reading⟩
  obtain ⟨state, active⟩ := falls k
  exact ⟨silent.state.trans state, silent.silent.trans active⟩

theorem SilencedBy.of_before {v : Nat} {r t u : PosRec} (reading : KeepsReading r t) (silent : KeepsSilent r t)
    (h : SilencedBy v t u) : SilencedBy v r u := by
  obtain ⟨falls, stays, kept⟩ := h
  have same : FallsSilent v t ↔ FallsSilent v r := by
    unfold FallsSilent
    rw [silent.state, reading.silence]
  exact ⟨fun k => falls (same.mpr k), fun k => silent.trans (stays fun j => k (same.mp j)), reading.trans kept⟩

theorem silenceAtWrites_other {q : Pos} {l : List Pos} (s : State) (h : q ∉ l) :
    KeepsReading (posRec s q) (posRec (l.foldl silenceAtWrite s) q) ∧
      KeepsSilent (posRec s q) (posRec (l.foldl silenceAtWrite s) q) := by
  induction l generalizing s with
  | nil => exact ⟨KeepsReading.refl _, KeepsSilent.refl _⟩
  | cons p l ih =>
    obtain ⟨hp, hl⟩ := not_or.mp (mt List.mem_cons.mpr h)
    obtain ⟨reading, silent⟩ := silenceAtWrite_other s hp
    obtain ⟨reading', silent'⟩ := ih (silenceAtWrite s p) hl
    exact ⟨reading.trans reading', silent.trans silent'⟩

/-- Each position is silenced, or not, as it stood at the write. -/
theorem silenceAtWrites_self {q : Pos} {l : List Pos} (nodup : l.Nodup) (h : q ∈ l) (s : State) :
    SilencedBy s.content.settings.silenceTimeout (posRec s q) (posRec (l.foldl silenceAtWrite s) q) := by
  induction l generalizing s with
  | nil => cases h
  | cons p l ih =>
    obtain ⟨hp, nodup⟩ := List.nodup_cons.mp nodup
    rw [List.foldl_cons]
    obtain rfl | h := List.mem_cons.mp h
    · obtain ⟨reading, silent⟩ := silenceAtWrites_other (silenceAtWrite s q) hp
      exact (silenceAtWrite_self s q).after reading silent
    · obtain ⟨reading, silent⟩ := silenceAtWrite_other s (p := p) (q := q) fun e => hp (e ▸ h)
      have rest := ih nodup h (silenceAtWrite s p)
      rw [(silenceAtWrite_keeps s p).content] at rest
      exact .of_before reading silent rest

theorem foldl_congr_of_inv {α β : Type} {f g : β → α → β} (Inv : β → Prop) (same : ∀ b a, Inv b → f b a = g b a)
    (keeps : ∀ b a, Inv b → Inv (f b a)) (l : List α) {b : β} (h : Inv b) : l.foldl f b = l.foldl g b := by
  induction l generalizing b with
  | nil => rfl
  | cons a l ih =>
    rw [List.foldl_cons, List.foldl_cons, ← same b a h]
    exact ih (keeps b a h)

theorem rangeArg_of {lo hi : Nat} {value : BitVec 16} (low : lo ≤ value.toNat) (high : value.toNat ≤ hi) :
    rangeArg lo hi value = some value.toNat := by
  rw [rangeArg, if_pos ⟨low, high⟩]

/-- Settles O46: a changed timeout is written by the expiries of the positions in turn. -/
theorem silenceTimeoutIsWritten : Obligations.SilenceTimeoutIsWritten := by
  intro value s served low high written expiry
  have ran : exec (.writeSettingSilenceTimeout 4 value) s = .next (writeSilence value.toNat s) := by
    refine congrArg Host.Outcome.next ?_
    rw [ofLength_self, rangeArg_of low high, serve_of_served served]
  refine ⟨fun same => ?_, fun changed => ?_⟩
  · rw [ran, writeSilence, if_pos same]
    rfl
  · have writes : writeSilence value.toNat s = reply 0x14 .done ((List.finRange 32).foldl silenceAtWrite written) := by
      rw [writeSilence, if_neg changed]
      rfl
    have kept : PosTxChan written (reply 0x14 .done ((List.finRange 32).foldl silenceAtWrite written)) :=
      (PosTxChan.foldl silenceAtWrite_keeps _ _).trans (reply_reach _ _ _).toPosTxChan
    refine ⟨_, ran.trans (congrArg Host.Outcome.next writes), ?_, kept.content, kept.store, kept.vehicle, kept.mgmt,
      kept.table, fun p => ?_⟩
    · refine congrArg (reply 0x14 .done) (foldl_congr_of_inv
        (fun u : State => u.content.settings.silenceTimeout = value.toNat) (fun u p timeout => ?_) (fun u p timeout => ?_)
        _ ?_)
      · have falls : silenceReached u p = true ↔
            ((posRec u p).state = .waiting ∨ (posRec u p).state = .live) ∧ value.toNat * 1000 ≤ (posRec u p).silence := by
          rw [silenceReached_iff, timeout]
        have ends : twinEnds u p = true ↔ (posRec u p).state = .live ∧ (posRec u p).cond.active.twin = true ∧
            (geometry u p).fitted = true ∧ (geometry u (mateOf p)).fitted = true := by
          rw [twinEnds, decide_eq_true_eq]
        simp only [expiry, ← falls, ← ends, silenceAtWrite, silenceEvent, goSilent, noticeIfLive_of_ends]
        rfl
      · rw [(silenceAtWrite_keeps u p).content, timeout]
      · rfl
    · obtain ⟨falls, stays, reading⟩ := silenceAtWrites_self (List.nodup_finRange 32) (List.mem_finRange p) written
      rw [posRec_reply]
      exact ⟨falls, fun no => ⟨(stays no).state, (stays no).silent⟩, reading.silence, reading.bound, reading.filtered,
        reading.history, reading.level⟩

/-! ## CLEAR POSITION (R67) -/

/-- The alert state a cleared runtime has (R110). -/
theorem freshRec_cond (st : PosState) (e : Option EntryNo) (r : PosRec) :
    (freshRec st e r).cond.level = .normal ∧ ∀ k, condGet (freshRec st e r).cond.active k = false :=
  ⟨rfl, fun k => by cases k <;> rfl⟩

/-- A cleared runtime with nothing active or owed before it needs no frame. -/
theorem eventReason_cleared_none {before s : State} {p : Pos} {touched : List Pos} {st : PosState} {e : Option EntryNo}
    (cleared : (posRec s p) = freshRec st e (posRec before p)) (level : (posRec before p).cond.level = .normal)
    (inactive : ∀ k, condGet (posRec before p).cond.active k = false) (settled : (posRec before p).cond.owed = false) :
    eventReason before touched s p = none := by
  obtain ⟨level', inactive'⟩ := freshRec_cond st e (posRec before p)
  have named : ¬((posRec before p).cond.level = .critical ∧ (posRec s p).cond.level = .high) := by simp [level]
  refine alertReason_of_none ?_ ?_ ?_
  · rw [resets_iff]
    simp [level, inactive, settled]
  · rw [madeRaise_iff named, cleared, level', level]
    simp [inactive']
  · rw [madeClear_iff named, cleared, level', level]
    simp [inactive]

theorem exec_clearPosition {position : Byte} {p : Pos} {s : State} (idle : s.mgmt.restartPending = false)
    (named : posArg position = some p) : exec (.clearPosition 2 position) s = .next (clearPosition p s) := by
  refine congrArg Host.Outcome.next ?_
  rw [ofLength_self, named, serve_of_served (served_lockNone idle)]

theorem clearPosition_posRec (p q : Pos) (s : State) :
    posRec (clearPosition p s) q = posRec (finishEvent s [p] none (clearPos p s)) q := by
  rw [clearPosition, posRec_reply]

theorem clearPosition_keeps (p : Pos) (s : State) : PosTxChan s (clearPosition p s) :=
  ((clearPos_reach p s).trans (finishEvent_reach s [p] none _)).trans (reply_reach 0x07 .done _).toPosTxChan

theorem clearPosition_of_unbound {p : Pos} {s : State} (unbound : hasBinding (posRec s p).state = false) :
    clearPosition p s = reply 0x07 .done s := by
  have quiet : eventReason s [p] s p = none := by
    rw [eventReason, unbound, decide_eq_false (by simp), alertReason_same]
  rw [clearPosition, clearPos_of_unbound unbound, finishEvent_single_none (p := p) (fun q hq => ⟨rfl, by simp [hq]⟩) quiet]

section Bound

variable {p : Pos} {s : State}

theorem clearPosition_self (bound : hasBinding (posRec s p).state = true) :
    RecAlertOnly (freshRec .waiting (posRec s p).bound (posRec s p)) (posRec (clearPosition p s) p) := by
  rw [clearPosition_posRec, ← clearPos_bound_self bound]
  exact finishEvent_record _ _ _ _ p

theorem clearPosition_other {q : Pos} (hq : q ≠ p) (hm : q ≠ mateOf p) :
    posRec (clearPosition p s) q = posRec s q := by
  have other := clearPos_other s hq hm
  rw [clearPosition_posRec, finishEvent_quiet s [p] none (clearPos p s) q (by simp [hq]) other, other]

theorem clearPos_single (bound : hasBinding (posRec s p).state = true) (stays : ¬twinEnds s p = true) :
    ∀ q : Pos, q ≠ p → (posRec (clearPos p s) q).cond = (posRec s q).cond ∧ q ∉ [p] :=
  fun q hq => ⟨by rw [clearPos_beside bound hq, besideLeavers_of_not_ends stays], by simp [hq]⟩

/-- A clear of a position with nothing active or owed generates no frame. -/
theorem clearPosition_quiet (bound : hasBinding (posRec s p).state = true) (level : (posRec s p).cond.level = .normal)
    (inactive : ∀ k, condGet (posRec s p).cond.active k = false) (settled : (posRec s p).cond.owed = false) :
    (clearPosition p s).tx = (reply 0x07 .done s).tx ∧ (clearPosition p s).chan = s.chan := by
  have work : PosOnly s (clearPos p s) := clearPos_posOnly p s
  have none := eventReason_cleared_none (touched := [p]) (clearPos_bound_self bound) level inactive settled
  rw [clearPosition, finishEvent_single_none (clearPos_single bound (not_twinEnds_of_no_twin (inactive .twin))) none]
  exact ⟨reply_tx_congr work.tx work.time _ _, work.chan⟩

/-- A clear of a position with something active or owed, and no TWIN, generates its RESET frame. -/
theorem clearPosition_marks (bound : hasBinding (posRec s p).state = true)
    (something : (posRec s p).cond.level ≠ .normal ∨ (∃ k, condGet (posRec s p).cond.active k = true) ∨
      (posRec s p).cond.owed = true) (no_twin : (posRec s p).cond.active.twin = false) :
    let t := clearPosition p s
    let out := offerFrame (alertFrame t p .reset) s.tx
    (posRec t p).cond.lastAlert = some s.time ∧ (posRec t p).cond.owed = !out.placed ∧
      ((∀ ch : ChanNo, (chanConfig s ch).trigger ≠ .alert) →
        t.tx = (reply 0x07 .done { s with tx := out.tx }).tx ∧ t.chan = s.chan) := by
  have work : PosOnly s (clearPos p s) := clearPos_posOnly p s
  have reset : eventReason s [p] (clearPos p s) p = some .reset :=
    alertReason_of_reset ((resets_iff _ _).mpr ⟨by simp [bound], something⟩)
  have marks := finishEvent_marks_of_posOnly work (clearPos_single bound (not_twinEnds_of_no_twin no_twin)) reset
  have time : (finishEvent s [p] none (clearPos p s)).time = s.time :=
    (finishEvent_reach s [p] none _).time.trans work.time
  unfold clearPosition
  generalize finishEvent s [p] none (clearPos p s) = v at marks time
  obtain ⟨lastAlert, owed, placed⟩ := marks
  refine ⟨lastAlert, owed, fun no_alert => ?_⟩
  obtain ⟨tx, chan⟩ := placed no_alert
  exact ⟨reply_tx_congr (s := { s with tx := _ }) tx time _ _, chan⟩

end Bound

/-- Settles O22: at a bound position `clearPos` is the work of an event, which the reply follows. -/
theorem positionIsCleared : Obligations.PositionIsCleared := by
  intro position p s idle named
  have ran := exec_clearPosition idle named
  refine ⟨fun unbound => ran.trans (congrArg Host.Outcome.next (clearPosition_of_unbound unbound)), fun bound => ?_⟩
  have self := clearPosition_self bound
  have kept := clearPosition_keeps p s
  refine ⟨_, ran, ⟨clearPos p s, _, rfl, closesEvent_of_posOnly (clearPos_posOnly p s) [p] none,
    clearPos_bound_self bound, fun q hq => clearPos_beside bound hq⟩, self.state, self.bound, self.cache,
    fun q => clearPosition_other, kept.content, kept.table, kept.store, kept.vehicle, kept.mgmt, kept.truckWalk,
    kept.trailerWalk, fun nothing => ?_, clearPosition_marks bound⟩
  obtain ⟨level, rest⟩ := not_or.mp nothing
  obtain ⟨inactive, settled⟩ := not_or.mp rest
  exact clearPosition_quiet bound (not_not.mp level) (by simpa using inactive) (by simpa using settled)

/-! ## The interval expiry (R93, R98) -/

/-- Whether LEAK is active after a leak rate (R98). -/
def leakStays (limit : Nat) (rate : Option Nat) (active : Bool) : Prop :=
  ∃ r, rate = some r ∧ limit ≠ 0 ∧ (if active then limit / 2 ≤ r else limit ≤ r)

theorem judgeLeak_active (limit : Nat) (rate : Option Nat) (c : Cond) :
    (judgeLeak limit rate c).active.leak = true ↔ leakStays limit rate c.active.leak := by
  unfold judgeLeak leakStays
  cases active : c.active.leak with
  | true =>
    cases rate with
    | none => simp [clearCond, condSet]
    | some r =>
      by_cases zero : limit = 0
      · simp [zero, clearCond, condSet]
      · by_cases below : r < limit / 2
        · simp [zero, below, clearCond, condSet]
        · simp [zero, below, active, Nat.le_of_not_lt below]
  | false =>
    cases rate with
    | none => simp [active]
    | some r =>
      by_cases leaks : limit ≠ 0 ∧ limit ≤ r
      · simp [leaks, raiseCond, condSet]
      · simp only [if_neg leaks, active, Bool.false_eq_true, if_false, Option.some.injEq, exists_eq_left', false_iff]
        exact leaks

/-- LEAK judged writes its own marks alone, and a cleared one loses its acknowledgement. -/
theorem judgeLeak_writes (limit : Nat) (rate : Option Nat) (c : Cond) :
    judgeLeak limit rate c = c ∨
      (c.active.leak = false ∧ judgeLeak limit rate c = raiseCond .leak c) ∨
      (c.active.leak = true ∧ judgeLeak limit rate c = clearCond .leak c) := by
  unfold judgeLeak
  split
  · next active =>
    split
    · exact .inr (.inr ⟨active, rfl⟩)
    · split
      · exact .inr (.inr ⟨active, rfl⟩)
      · split
        · exact .inr (.inr ⟨active, rfl⟩)
        · exact .inl rfl
  · next inactive =>
    have inactive : c.active.leak = false := by simpa using inactive
    split
    · exact .inl rfl
    · split
      · exact .inr (.inl ⟨inactive, rfl⟩)
      · exact .inl rfl

theorem judgeLeak_eq (limit : Nat) (rate : Option Nat) (c : Cond) :
    judgeLeak limit rate c =
      { c with
        active := { c.active with leak := (judgeLeak limit rate c).active.leak }
        acked := { c.acked with leak := (judgeLeak limit rate c).acked.leak } } := by
  obtain h | ⟨-, h⟩ | ⟨-, h⟩ := judgeLeak_writes limit rate c <;> rw [h] <;> rfl

/-- The record of p as its interval expiry at `due` leaves it, before the frames. -/
def intervalRec (s : State) (p : Pos) (due : Nat) : PosRec :=
  let h := endInterval s.content.settings.intervalLength due (posRec s p).history
  { posRec s p with history := h, cond := judgeLeak (mainProfile s p).leakLimit h.leak (posRec s p).cond }

theorem expireInterval_self (p : Pos) (due : Nat) (s : State) :
    posRec (expireInterval p due s) p = intervalRec s p due := posRec_modPos_self _ _ _

theorem expireInterval_other {p q : Pos} (due : Nat) (s : State) (h : q ≠ p) :
    posRec (expireInterval p due s) q = posRec s q := posRec_modPos_ne _ _ h

section Interval

variable {p : Pos} {due : Nat} {s : State}

theorem interval_single : ∀ q : Pos, q ≠ p →
    (posRec (expireInterval p due s) q).cond = (posRec s q).cond ∧ q ∉ ([] : List Pos) :=
  fun q hq => ⟨by rw [expireInterval_other due s hq], List.not_mem_nil⟩

/-- A LEAK that stays as it was generates no frame. -/
theorem interval_quiet (same : (posRec s p).cond.active.leak = (intervalRec s p due).cond.active.leak) :
    finishEvent s [] none (expireInterval p due s) = expireInterval p due s ∧
      (intervalRec s p due).cond = (posRec s p).cond := by
  have cond : (intervalRec s p due).cond = (posRec s p).cond := by
    obtain h | ⟨inactive, h⟩ | ⟨active, h⟩ := judgeLeak_writes (mainProfile s p).leakLimit
      (endInterval s.content.settings.intervalLength due (posRec s p).history).leak (posRec s p).cond
    · exact h
    · rw [inactive, show (intervalRec s p due).cond = _ from h] at same
      cases same
    · rw [active, show (intervalRec s p due).cond = _ from h] at same
      cases same
  refine ⟨finishEvent_single_none interval_single ?_, cond⟩
  rw [eventReason_untouched, expireInterval_self, cond, alertReason_same]

/-- A LEAK that changes generates its RAISED or CLEARED frame, and one that clears loses its acknowledgement. -/
theorem interval_reason (changed : (posRec s p).cond.active.leak ≠ (intervalRec s p due).cond.active.leak) :
    eventReason s [] (expireInterval p due s) p =
        some (if (intervalRec s p due).cond.active.leak then .raised else .cleared) ∧
      ((intervalRec s p due).cond.active.leak = false → (intervalRec s p due).cond.acked.leak = false) := by
  rw [eventReason_untouched, expireInterval_self]
  obtain h | ⟨inactive, h⟩ | ⟨active, h⟩ := judgeLeak_writes (mainProfile s p).leakLimit
    (endInterval s.content.settings.intervalLength due (posRec s p).history).leak (posRec s p).cond
  · rw [show (intervalRec s p due).cond = _ from h] at changed
    exact absurd rfl changed
  · rw [show (intervalRec s p due).cond = _ from h]
    exact ⟨alertReason_of_raise (by simp) (madeRaise_of_condition .leak inactive rfl), fun k => nomatch k⟩
  · rw [show (intervalRec s p due).cond = _ from h]
    refine ⟨alertReason_of_clear (by simp) ?_ ?_, fun _ => rfl⟩
    all_goals
      have named : ¬((posRec s p).cond.level = .critical ∧ (clearCond .leak (posRec s p).cond).level = .high) := by
        rintro ⟨critical, high⟩
        rw [show (clearCond .leak (posRec s p).cond).level = (posRec s p).cond.level from rfl, critical] at high
        cases high
    · rw [madeRaise_iff named]
      rintro (level | ⟨k, was, is⟩)
      · rw [show (clearCond .leak (posRec s p).cond).level = (posRec s p).cond.level from rfl] at level
        cases h : (posRec s p).cond.level <;> simp [h] at level
      · cases k <;> simp_all [condGet, clearCond, condSet]
    · rw [madeClear_iff named]
      exact .inr ⟨.leak, active, rfl⟩

end Interval

/-- Settles O27: a due interval expiry is the event whose work is `expireInterval`. -/
theorem intervalExpires : Obligations.IntervalExpires := by
  intro p due s runs reached
  have ran : exec (.intervalExpiry p) s = .next (finishEvent s [] none (expireInterval p due s)) := by
    refine congrArg Host.Outcome.next ?_
    simp only [endIntervalAt, runs, if_pos reached]
  have work : PosOnly s (expireInterval p due s) := expireInterval_posOnly p due s
  have kept : PosTxChan s (finishEvent s [] none (expireInterval p due s)) :=
    (expireInterval_reach p due s).trans (finishEvent_reach _ _ _ _)
  have closed := finishEvent_record s [] none (expireInterval p due s) p
  have other : ∀ q, q ≠ p → posRec (finishEvent s [] none (expireInterval p due s)) q = posRec s q := fun q hq => by
    have same := expireInterval_other due s hq
    rw [finishEvent_quiet s [] none _ q List.not_mem_nil same, same]
  have quiet := interval_quiet (p := p) (due := due) (s := s)
  have reason := interval_reason (p := p) (due := due) (s := s)
  have marks := fun why => finishEvent_marks_of_posOnly (why := why) work (interval_single (p := p) (due := due) (s := s))
  have event := closesEvent_of_posOnly work [] none
  rw [expireInterval_self] at closed
  generalize finishEvent s [] none (expireInterval p due s) = t at *
  have history : (posRec t p).history = (intervalRec s p due).history := closed.history
  have active := closed.active
  have acked := closed.acked
  have leak := judgeLeak_eq (mainProfile s p).leakLimit (leakRate
    (endInterval s.content.settings.intervalLength due (posRec s p).history).ring s.content.settings.intervalLength)
    (posRec s p).cond
  refine ⟨t, ran, history, ?verdict, ?record, other, kept.content, kept.vehicle, kept.table, kept.mgmt, kept.store,
    ⟨_, event, fun q => expireInterval_other due s, ?work⟩, ?stays, ?changes⟩
  case verdict =>
    rw [active]
    exact judgeLeak_active _ _ _
  case record =>
    intro c c'
    have cond : c' = { c with
        active := { c.active with leak := c'.active.leak }
        acked := { c.acked with leak := c'.acked.leak }
        lastAlert := c'.lastAlert
        repeatDue := c'.repeatDue
        owed := c'.owed } := by
      rw [active, acked]
      exact Eq.trans closed.2 (congrArg (fun k : Cond =>
        { k with lastAlert := c'.lastAlert, owed := c'.owed, repeatDue := c'.repeatDue }) leak)
    refine (closed.1 : posRec t p = _).trans ?_
    rw [history]
    exact congrArg (fun k => { intervalRec s p due with cond := k }) cond
  case work =>
    intro c c'
    rw [expireInterval_self, history, active, acked]
    exact congrArg (fun k => { intervalRec s p due with cond := k }) leak
  case stays =>
    intro same
    rw [active] at same
    obtain ⟨fixed, cond⟩ := quiet same
    rw [fixed, expireInterval_self]
    exact ⟨work.tx, work.chan, cond⟩
  case changes =>
    intro changed
    rw [active] at changed
    obtain ⟨why, clear⟩ := reason changed
    rw [active, acked]
    exact ⟨clear, marks _ why⟩

end Sys2Proof.Machine
end

section
/-! PROOF. The law of a position record (R79, R94, R118, R126, R129) as named facts, and the changes of a record that
keep them together with its state, its binding and its TWIN: frames, ticks, caches, acknowledgements, intervals. -/

namespace Sys2Proof.Machine

open Sys2Proof

/-! ## The law of a record by its parts -/

/-- `recordLaw` with a name for each part. -/
structure RecordFacts (r : PosRec) : Prop where
  filtered : r.filtered = r.acc.map filteredOf
  live : r.state = .live → isHeard r
  silent : r.state = .silent ↔ r.cond.active.silent = true
  unheard : ¬isHeard r → r.filtered = none ∧ r.history.expiry = none ∧ r.cond.level = .normal ∧
    r.cond.active = { CondSet.none with silent := r.cond.active.silent }
  ackLevel : r.cond.ackLevel = true → r.cond.level ≠ .normal
  acked : ∀ k : Condition, condGet r.cond.acked k = true → condGet r.cond.active k = true
  owed : r.cond.owed = true → r.cond.repeatDue.isSome = true
  ring : r.history.ring.length ≤ Config.ringCap
  fresh : r.history.expiry = none → r.history.ring = [] ∧ r.history.count = 0
  silence : r.silence ≤ Config.silenceCapMs

theorem recordLaw_iff (r : PosRec) : recordLaw r ↔ RecordFacts r :=
  ⟨fun ⟨a, b, c, d, e, f, g, h, i, j⟩ => ⟨a, b, c, d, e, f, g, h, i, j⟩,
   fun ⟨a, b, c, d, e, f, g, h, i, j⟩ => ⟨a, b, c, d, e, f, g, h, i, j⟩⟩

/-- A position that is not heard has nothing active but SILENT. -/
theorem RecordFacts.heard_of_active {r : PosRec} (h : RecordFacts r) {k : Condition} (hk : k ≠ .silent)
    (active : condGet r.cond.active k = true) : isHeard r := by
  by_contra no
  rw [(h.unheard no).2.2.2] at active
  cases k <;> first | exact hk rfl | cases active

theorem recordFacts_vacant : RecordFacts PosRec.vacant where
  filtered := rfl
  live := nofun
  silent := ⟨nofun, nofun⟩
  unheard _ := ⟨rfl, rfl, rfl, rfl⟩
  ackLevel h := by cases h
  acked k h := by cases k <;> cases h
  owed h := by cases h
  ring := Nat.zero_le _
  fresh _ := ⟨rfl, rfl⟩
  silence := Nat.zero_le _

/-- A record with its runtime cleared is lawful in every state but LIVE and SILENT. -/
theorem recordFacts_fresh {st : PosState} (live : st ≠ .live) (silent : st ≠ .silent) (e : Option EntryNo) (r : PosRec) :
    RecordFacts (freshRec st e r) :=
  { recordFacts_vacant with
    live := fun h => absurd h live
    silent := ⟨fun h => absurd h silent, nofun⟩ }

/-- A condition other than SILENT made not active. -/
theorem RecordFacts.clear {r : PosRec} (h : RecordFacts r) {k : Condition} (hk : k ≠ .silent) :
    RecordFacts { r with cond := clearCond k r.cond } :=
  { h with
    silent := by
      rw [h.silent]
      cases k <;> first | exact absurd rfl hk | exact Iff.rfl
    unheard := fun no => by
      obtain ⟨filtered, expiry, level, active⟩ := h.unheard no
      refine ⟨filtered, expiry, level, ?_⟩
      simp only [clearCond]
      rw [active]
      cases k <;> first | exact absurd rfl hk | rfl
    acked := fun j hj => by
      simp only [clearCond, condGet_condSet] at hj ⊢
      split at hj
      · cases hj
      · next ne =>
        rw [if_neg ne]
        exact h.acked j hj }

/-- A condition other than SILENT made active at a position that has been heard. -/
theorem RecordFacts.raise {r : PosRec} (h : RecordFacts r) {k : Condition} (hk : k ≠ .silent) (heard : isHeard r) :
    RecordFacts { r with cond := raiseCond k r.cond } :=
  { h with
    silent := by
      rw [h.silent]
      cases k <;> first | exact absurd rfl hk | exact Iff.rfl
    unheard := fun no => absurd heard no
    acked := fun j hj => by
      simp only [raiseCond, condGet_condSet]
      split
      · rfl
      · exact h.acked j hj }

theorem RecordFacts.withoutTwin {r : PosRec} (h : RecordFacts r) : RecordFacts (withoutTwin r) :=
  h.clear (k := .twin) (by decide)

/-! ## Mild changes -/

/-- A change of a record that keeps its state, its binding, its TWIN and its law. -/
structure Mild (r t : PosRec) : Prop where
  state : t.state = r.state
  bound : t.bound = r.bound
  twin : t.cond.active.twin = r.cond.active.twin
  law : recordLaw r → recordLaw t

theorem Mild.refl (r : PosRec) : Mild r r := ⟨rfl, rfl, rfl, id⟩

theorem Mild.trans {r t u : PosRec} (h : Mild r t) (k : Mild t u) : Mild r u :=
  ⟨k.state.trans h.state, k.bound.trans h.bound, k.twin.trans h.twin, k.law ∘ h.law⟩

/-- The marks of a frame are mild: a frame that is owed has its repeat timer running (R126). -/
theorem mild_alertMarks (now period : Nat) (placed : Bool) (r : PosRec) :
    Mild r { r with cond := alertMarks now period placed r.cond } where
  state := rfl
  bound := rfl
  twin := rfl
  law h := (recordLaw_iff _).mpr
    { (recordLaw_iff r).mp h with
      owed := fun owed => by
        have refused : placed = false := by simpa [alertMarks] using owed
        simp [alertMarks, refused] }

theorem mild_alertedRec {s v : State} {p : Pos} (h : posRec v p = posRec s p) (why : Reason) :
    Mild (posRec s p) (alertedRec v p why) := by
  rw [← h]
  exact mild_alertMarks _ _ _ _

theorem generateAlert_mild (p : Pos) (why : Reason) (s : State) (q : Pos) :
    Mild (posRec s q) (posRec (generateAlert p why s) q) := by
  by_cases h : q = p
  · subst h
    rw [generateAlert_self]
    exact mild_alertedRec rfl why
  · rw [generateAlert_other why s h]
    exact Mild.refl _

/-- The close of an event is mild at every position (R122 to R126). -/
theorem finishEvent_mild (before : State) (touched : List Pos) (sample : Option Pos) (s : State) (q : Pos) :
    Mild (posRec s q) (posRec (finishEvent before touched sample s) q) := by
  obtain ⟨quiet, framed⟩ := finishEvent_posRec before touched sample s q
  cases h : eventReason before touched s q with
  | none =>
    rw [quiet h]
    exact Mild.refl _
  | some why =>
    obtain ⟨v, -, same, after⟩ := framed why h
    rw [after]
    exact mild_alertedRec same why

theorem mild_rederived (r : PosRec) (k : Cache) : Mild r { r with cache := k, cond := { r.cond with pendingLevel := none } } where
  state := rfl
  bound := rfl
  twin := rfl
  law h := (recordLaw_iff _).mpr { (recordLaw_iff r).mp h with }

theorem mild_saturated (r : PosRec) (b : Bool) : Mild r { r with saturated := b } where
  state := rfl
  bound := rfl
  twin := rfl
  law h := (recordLaw_iff _).mpr { (recordLaw_iff r).mp h with }

/-- A counted silence within its cap. -/
theorem mild_silence {r : PosRec} {n : Nat} (h : r.silence ≤ Config.silenceCapMs → n ≤ Config.silenceCapMs) :
    Mild r { r with silence := n } where
  state := rfl
  bound := rfl
  twin := rfl
  law k :=
    have facts := (recordLaw_iff r).mp k
    (recordLaw_iff _).mpr { facts with silence := h facts.silence }

theorem countSilence_mild (s : State) (p : Pos) : Mild (posRec s p) (countSilence s p) := by
  unfold countSilence
  dsimp only
  split
  · exact mild_silence fun _ => Nat.min_le_right _ _
  · exact Mild.refl _

theorem stoppedRec_mild {old s : State} (pos : s.pos = old.pos) (timeout : s.content = old.content) (p : Pos) :
    Mild (posRec s p) (stoppedRec old s p) := by
  unfold stoppedRec
  dsimp only
  split
  · next h =>
    refine mild_silence fun cap => ?_
    have due : silenceDue old p = true := (Bool.and_eq_true _ _ ▸ h).1
    have reached : silenceMs old ≤ (posRec old p).silence := ((silenceDue_iff old p).mp due).2.2.2
    rw [← posRec_of_pos pos p, show silenceMs old = silenceMs s by rw [silenceMs, silenceMs, timeout]] at reached
    exact (Nat.sub_le _ _).trans (reached.trans cap)
  · exact Mild.refl _

theorem rederiveCaches_mild (which : Pos → Bool) (s : State) (q : Pos) :
    Mild (posRec s q) (posRec (rederiveCaches which s) q) := by
  unfold rederiveCaches
  generalize (List.finRange 32).filter which = l
  induction l generalizing s with
  | nil => exact Mild.refl _
  | cons p l ih =>
    refine Mild.trans ?_ (ih (rederiveCache s p))
    rw [rederiveCache, posRec_modPos]
    split
    · next h =>
      subst h
      exact mild_rederived _ _
    · exact Mild.refl _

/-! ## Acknowledgements (R128) -/

theorem condGet_acked_mark (item : AckItem) (c : Cond) (k : Condition) :
    condGet (markAcked item c).acked k = true → condGet c.acked k = true ∨ item = .cond k := by
  cases item with
  | level => exact .inl
  | cond j =>
    intro h
    by_cases e : j = k
    · exact .inr (by rw [e])
    · refine .inl ?_
      rw [markAcked, condGet_condSet, if_neg (Ne.symm e)] at h
      exact h

theorem takeAck_mild (period : Nat) (item : AckItem) (r : PosRec) : Mild r { r with cond := takeAck period item r.cond } := by
  obtain ⟨active, unacked⟩ | idle := takeAck_cases item r.cond
  · rw [takeAck_of_due period active unacked, slowRepeat_eq]
    have same : (markAcked item r.cond).active = r.cond.active ∧ (markAcked item r.cond).level = r.cond.level ∧
        (markAcked item r.cond).owed = r.cond.owed ∧ (markAcked item r.cond).repeatDue = r.cond.repeatDue := by
      cases item <;> exact ⟨rfl, rfl, rfl, rfl⟩
    obtain ⟨sameActive, sameLevel, sameOwed, sameRepeat⟩ := same
    refine ⟨rfl, rfl, congrArg CondSet.twin sameActive, fun law => ?_⟩
    have facts := (recordLaw_iff r).mp law
    refine (recordLaw_iff _).mpr { facts with
      silent := by rw [facts.silent, ← sameActive]
      unheard := fun no => by
        obtain ⟨filtered, expiry, level, actives⟩ := facts.unheard no
        exact ⟨filtered, expiry, sameLevel.trans level, by rw [← sameActive] at actives; exact actives⟩
      ackLevel := fun acked => ?held
      acked := fun k acked => ?conditions
      owed := fun owed => ?owed }
    case held =>
      rw [show ({ markAcked item r.cond with repeatDue := _ } : Cond).level = r.cond.level from sameLevel]
      cases item with
      | level => simpa [itemActive] using active
      | cond k => exact facts.ackLevel acked
    case conditions =>
      rw [show ({ markAcked item r.cond with repeatDue := _ } : Cond).active = r.cond.active from sameActive]
      obtain before | rfl := condGet_acked_mark item r.cond k acked
      · exact facts.acked k before
      · exact active
    case owed =>
      have owed : (markAcked item r.cond).owed = true := owed
      simp only [owed, Bool.true_eq_false, and_false, if_false, sameRepeat]
      exact facts.owed (sameOwed ▸ owed)
  · rw [takeAck_of_idle period idle]
    exact Mild.refl _

/-! ## The interval expiry (R93, R94) -/

theorem ringAppend_length {x : Option Nat} {ring : List (Option Nat)} (h : ring.length ≤ Config.ringCap) :
    (ringAppend x ring).length ≤ Config.ringCap := by
  unfold ringAppend
  split
  · rw [List.length_append]
    exact Nat.succ_le_of_lt ‹_›
  · rw [List.length_append, List.length_drop, List.length_singleton]
    simp only [Config.ringCap] at *
    omega

theorem intervalRec_mild {s : State} {p : Pos} {due : Nat} (runs : (posRec s p).history.expiry = some due) :
    Mild (posRec s p) (intervalRec s p due) := by
  have leak := judgeLeak_writes (mainProfile s p).leakLimit
    (endInterval s.content.settings.intervalLength due (posRec s p).history).leak (posRec s p).cond
  have twin : (intervalRec s p due).cond.active.twin = (posRec s p).cond.active.twin := by
    obtain h | ⟨-, h⟩ | ⟨-, h⟩ := leak <;> rw [show (intervalRec s p due).cond = _ from h] <;> rfl
  refine ⟨rfl, rfl, twin, fun law => ?_⟩
  have facts := (recordLaw_iff _).mp law
  have heard : isHeard (posRec s p) := by
    by_contra no
    rw [(facts.unheard no).2.1] at runs
    cases runs
  have base : RecordFacts
      { posRec s p with history := endInterval s.content.settings.intervalLength due (posRec s p).history } :=
    { facts with
      unheard := fun no => absurd heard no
      ring := ringAppend_length facts.ring
      fresh := fun none => by cases none }
  rw [recordLaw_iff, show intervalRec s p due = { posRec s p with
    history := endInterval s.content.settings.intervalLength due (posRec s p).history
    cond := judgeLeak (mainProfile s p).leakLimit
      (endInterval s.content.settings.intervalLength due (posRec s p).history).leak (posRec s p).cond } from rfl]
  obtain h | ⟨-, h⟩ | ⟨-, h⟩ := leak <;> rw [h]
  · exact base
  · exact base.raise (by decide) heard
  · exact base.clear (by decide)

end Sys2Proof.Machine
end

section
/-! PROOF. What the laws of the state see of a command: every command is a chain of the events named here. Each law is
then settled by what it says of each event. -/

namespace Sys2Proof.Machine

open Sys2Proof

/-! ## Events -/

/-- Nothing that a law of chapters 1 to 8, 10 or 11 reads differs. -/
structure Same (s t : State) : Prop where
  time : t.time = s.time
  content : t.content = s.content
  front : t.frontPort.framing = s.frontPort.framing
  rear : t.rearPort.framing = s.rearPort.framing
  dup : t.dup.entries = s.dup.entries
  strangers : t.strangers.entries = s.strangers.entries
  vehicle : t.vehicle = s.vehicle
  pos : t.pos = s.pos
  truckWalk : t.truckWalk = s.truckWalk
  trailerWalk : t.trailerWalk = s.trailerWalk
  image : t.store.image = s.store.image
  job : t.store.job = s.store.job
  node : t.mgmt.nodeInForce = s.mgmt.nodeInForce
  nodePending : t.mgmt.nodePending = s.mgmt.nodePending

theorem TxChan.same {s t : State} (h : TxChan s t) : Same s t :=
  ⟨h.time, h.content, congrArg PortState.framing h.frontPort, congrArg PortState.framing h.rearPort,
   congrArg (·.entries) h.dup, congrArg (·.entries) h.strangers, h.vehicle, h.pos, h.truckWalk, h.trailerWalk,
   congrArg (·.image) h.store, congrArg (·.job) h.store, congrArg Mgmt.nodeInForce h.mgmt,
   congrArg Mgmt.nodePending h.mgmt⟩

/-- Nothing but the slot of one half differs, and the queue. -/
structure WalkOnly (h : Half) (s t : State) : Prop where
  time : t.time = s.time
  content : t.content = s.content
  frontPort : t.frontPort = s.frontPort
  rearPort : t.rearPort = s.rearPort
  dup : t.dup = s.dup
  strangers : t.strangers = s.strangers
  vehicle : t.vehicle = s.vehicle
  pos : t.pos = s.pos
  mgmt : t.mgmt = s.mgmt
  store : t.store = s.store
  other : ∀ k, k ≠ h → walkSlot t k = walkSlot s k

/-- Whether a sensor ID is one a sensor may have (R6). -/
def soundId (sid : SensorId) : Prop := sid ≠ 0 ∧ sid ≠ BitVec.allOnes 32

/-- The events that commands are chains of. Each carries the facts that its law needs and that the command has checked;
what holds of the duplicate list at the command's start is V, under which the evidence it delivers names a sound ID. -/
inductive Event (V : Prop) : State → State → Prop
  /-- Frames, counts and flags. -/
  | same {s t : State} (h : Same s t) : Event V s t
  /-- A character, a fault or an idle timer at a port (R2 to R5). -/
  | port {s : State} (port : Port) (f : PortState → PortState) (ok : portLaw s.time (portState s port) →
      portLaw s.time (f (portState s port))) : Event V s (modPort port f s)
  /-- A change of the duplicate list (R10 to R13). -/
  | dup {s : State} (d : DupList) (ok : V → DupLaw s → DupLaw { s with dup := d }) : Event V s { s with dup := d }
  /-- Mild changes of position records. -/
  | records {s t : State} (kept : PosTxChan s t) (mild : ∀ q, Mild (posRec s q) (posRec t q)) : Event V s t
  /-- An accepted telegram (R24). -/
  | read {s : State} (e : EntryNo) (valid : (entryAt s e).valid = true) (active : isActive s (entryAt s e).set = true)
      (placed : (posRec s (entryAt s e).pos).state ≠ .vacant) (seq : Fin 16) (tel : Telegram) :
      Event V s (acceptTelegram e seq tel s)
  /-- Evidence of an unknown sensor (R33, R34). -/
  | heard {s : State} (ev : Evidence) (unknown : findId s ev.sid = none) : Event V s (hearStranger ev s)
  /-- The head of the stranger list ages out (R37). -/
  | agedOut {s : State} {x : Stranger} {rest : List Stranger} (h : s.strangers.entries = x :: rest) :
      Event V s { s with strangers := { s.strangers with entries := rest } }
  /-- A walk opened, advanced, counted or ended (R132 to R135, R138, R145). -/
  | walk {s t : State} (h : Half) (kept : WalkOnly h s t) (ok : ConfiguredLaw s → slotLaw t h) : Event V s t
  /-- A binding of a walk, with its frames (R31, R139). -/
  | bound {s : State} (h : Half) (w : OpenWalk) (b : TableBinding) (ev : Evidence) (sound : V → soundId ev.sid)
      (walk : (walkSlot s h).walk = some w) (table : bindTable ev.sid w.target w.current s = some b) :
      Event V s (finishEvent s (w.current :: b.vacated.toList) (some w.current) (bindAndRead b w.current ev))
  /-- A VEHICLE CONDITION frame (R39). -/
  | vehicle {s : State} (load motion : Byte) (ambient : BitVec 16) (lift g : Byte) :
      Event V s (takeVehicleFrame load motion ambient lift g s)
  /-- The staleness timer (R44). -/
  | stale {s : State} : Event V s { s with vehicle := { s.vehicle with stale := true, motion := .moving, staleDue := none } }
  /-- An axle record written (R54). -/
  | axle {s : State} (a : AxleNo) (x : AxleRec) (ok : x.margin ≤ 40) : Event V s (replaceAxle a x s)
  /-- A position becomes SILENT (R64, R65). -/
  | silent {s : State} (p : Pos) (placed : (posRec s p).state = .waiting ∨ (posRec s p).state = .live) :
      Event V s (silenceEvent p s)
  /-- A position cleared (R67). -/
  | cleared {s : State} (p : Pos) : Event V s (finishEvent s [p] none (clearPos p s))
  /-- A sensor entry written (R27). -/
  | written {s : State} (e : EntryNo) (new : Entry) (valid : new.valid = true) (ok : entryOk new = true)
      (free : clashes s e new = false) : Event V s (replaceEntry e new s)
  /-- A sensor entry cleared (R29). -/
  | freed {s : State} (e : EntryNo) (valid : (entryAt s e).valid = true) :
      Event V s (finishEvent s (activePlace s (entryAt s e)).toList none
        (applyNotices { unbind := activePlace s (entryAt s e), bind := none } e (freeEntry e s)))
  /-- A position written (R53). -/
  | fitted {s : State} (p : Pos) (new : Geometry) (closed : walkOpen s (halfOf p) = false) :
      Event V s (finishEvent s (unfitted p (geometry s p) new) none (regeometry p new s))
  /-- A profile written (R105, R106). -/
  | profile {s : State} (load : LoadState) (cls : Fin 8) (f : Profile → Profile)
      (ok : ∀ x, profileOk x = true → profileOk (f x) = true) : Event V s (replaceProfile load cls f s)
  /-- A setting other than the node number written (R166). -/
  | setting {s : State} (f : Settings → Settings) (node : ∀ c, (f c).node = c.node)
      (ok : ∀ c, settingsOk c = true → settingsOk (f c) = true) : Event V s (modSettings f s)
  /-- A channel configured (R148). -/
  | channel {s : State} (c : ChanNo) (f : ChanConfig → ChanConfig)
      (ok : ∀ k, chanOk k = true → chanOk (f k) = true) : Event V s (modConfig c f s)
  /-- The node number, pending or in force (R167). -/
  | node {s : State} (n : Nat) (m : Mgmt)
      (ok : ConfiguredLaw s → n ≤ 15 ∧ (∀ k, m.nodePending = some k → k = n) ∧ m.nodeInForce ≤ 15) :
      Event V s { s with
        content := { s.content with settings := { s.content.settings with node := n } }
        mgmt := m }
  /-- A store begun or completed (R172). -/
  | store {s : State} (x : ImageStore)
      (ok : (x.job.isSome = true → x.image.markedInvalid = true) ∧
        ∀ job, x.job = some job → s.time ≤ job.latest ∧ job.latest ≤ s.time + 600) : Event V s { s with store := x }
  /-- Start-up (R174). -/
  | startUp {s : State} : Event V s (startUp s)

/-- A chain of events. -/
abbrev Events (V : Prop) : State → State → Prop := Relation.ReflTransGen (Event V)

theorem Event.chain {V : Prop} {s t : State} (h : Event V s t) : Events V s t := .single h

theorem Same.events {V : Prop} {s t : State} (h : Same s t) : Events V s t := (Event.same h).chain

theorem TxChan.events {V : Prop} {s t : State} (h : TxChan s t) : Events V s t := h.same.events

/-- A law that every event keeps is kept by a chain of them. -/
theorem Events.keeps {V : Prop} {P : State → Prop} (keeps : ∀ s t, Event V s t → P s → P t) {s t : State}
    (h : Events V s t) (start : P s) : P t := by
  induction h with
  | refl => exact start
  | tail _ e ih => exact keeps _ _ e ih

theorem Events.foldl {V : Prop} {α : Type} {f : State → α → State} (h : ∀ s x, Events V s (f s x)) (l : List α) (s : State) :
    Events V s (l.foldl f s) := by
  induction l generalizing s with
  | nil => exact .refl
  | cons x l ih => exact (h s x).trans (ih _)

theorem reply_events {V : Prop} (kind : Byte) (st : Status) (s : State) : Events V s (reply kind st s) :=
  (reply_reach kind st s).events

theorem placeService_events {V : Prop} (body : Body) (s : State) : Events V s (placeService body s) :=
  (placeService_reach body s).events

/-! ## Walks -/

theorem modWalk_walkOnly (h : Half) (f : WalkSlot → WalkSlot) (s : State) : WalkOnly h s (modWalk h f s) := by
  refine ⟨modWalk_time _ _ _, modWalk_content _ _ _, modWalk_frontPort _ _ _, modWalk_rearPort _ _ _, modWalk_dup _ _ _,
    modWalk_strangers _ _ _, modWalk_vehicle _ _ _, modWalk_pos _ _ _, modWalk_mgmt _ _ _, modWalk_store _ _ _, fun k hk =>
    walkSlot_modWalk_ne f s hk⟩

theorem WalkOnly.trans {h : Half} {s t u : State} (a : WalkOnly h s t) (b : WalkOnly h t u) : WalkOnly h s u :=
  ⟨b.time.trans a.time, b.content.trans a.content, b.frontPort.trans a.frontPort, b.rearPort.trans a.rearPort,
   b.dup.trans a.dup, b.strangers.trans a.strangers, b.vehicle.trans a.vehicle, b.pos.trans a.pos, b.mgmt.trans a.mgmt,
   b.store.trans a.store, fun k hk => (b.other k hk).trans (a.other k hk)⟩

theorem walkSlot_congr {s t : State} (truck : t.truckWalk = s.truckWalk) (trailer : t.trailerWalk = s.trailerWalk) (h : Half) :
    walkSlot t h = walkSlot s h := by
  cases h
  · exact truck
  · exact trailer

theorem TxChan.walkOnly {s t : State} (h : TxChan s t) (k : Half) : WalkOnly k s t :=
  ⟨h.time, h.content, h.frontPort, h.rearPort, h.dup, h.strangers, h.vehicle, h.pos, h.mgmt, h.store,
   fun _ _ => walkSlot_congr h.truckWalk h.trailerWalk _⟩

theorem finishWalk_walkOnly (h : Half) (r : WalkResult) (s : State) : WalkOnly h s (finishWalk h r s) :=
  (modWalk_walkOnly h _ s).trans ((placeService_reach _ _).walkOnly h)

theorem advanceWalk_walkOnly (h : Half) (w : OpenWalk) (k : Nat) (s : State) : WalkOnly h s (advanceWalk h w k s) := by
  unfold advanceWalk
  split
  · exact modWalk_walkOnly h _ s
  · exact finishWalk_walkOnly h _ s

theorem walkSlot_finishWalk (h : Half) (r : WalkResult) (s : State) :
    walkSlot (finishWalk h r s) h = { walkSlot s h with walk := none, result := some r } := by
  cases h <;> rfl

end Sys2Proof.Machine
end

section
/-! PROOF. Learn walks and reception as chains of events. -/

namespace Sys2Proof.Machine

open Sys2Proof

variable {V : Prop}

/-! ## The law of a walk slot -/

theorem slotLaw_of_closed {s : State} {h : Half} (closed : (walkSlot s h).walk = none) (bound : (walkSlot s h).bound ≤ 16) :
    slotLaw s h := by
  rw [slotLaw, closed]
  exact bound

theorem slotLaw_of_open {s : State} {h : Half} {w : OpenWalk} (walk : (walkSlot s h).walk = some w)
    (law : openWalkLaw s h (walkSlot s h) w) : slotLaw s h := by
  rw [slotLaw, walk]
  exact law

theorem openWalkLaw_of_slotLaw {s : State} {h : Half} {w : OpenWalk} (walk : (walkSlot s h).walk = some w)
    (law : slotLaw s h) : openWalkLaw s h (walkSlot s h) w := by
  rw [slotLaw, walk] at law
  exact law

theorem ConfiguredLaw.slot {s : State} (law : ConfiguredLaw s) (h : Half) : slotLaw s h := by
  obtain ⟨-, ⟨truck, trailer⟩, -⟩ := law
  cases h
  · exact truck
  · exact trailer

/-- A block aligned in 32 lies in one half. -/
theorem halfOf_visitAt {w : OpenWalk} {k : Nat}
    (length : w.length = 1 ∨ w.length = 2 ∨ w.length = 4 ∨ w.length = 8 ∨ w.length = 16)
    (aligned : w.blockStart % w.length = 0) (fits : w.blockStart + w.length ≤ 32) (start : w.start < w.length)
    (hk : k < w.length) : halfOf (visitAt w k) = if w.blockStart < 16 then .truck else .trailer := by
  obtain ⟨n, hn⟩ := blockLength_eq_two_pow length
  have within : visitOffset w.order w.start w.length k < w.length := by
    rw [hn] at start hk ⊢
    exact visitOffset_lt w.order start hk
  have place : (visitAt w k).val = w.blockStart + visitOffset w.order w.start w.length k := by
    rw [visitAt_val, Nat.mod_eq_of_lt (by omega)]
  rw [halfOf, place]
  generalize visitOffset w.order w.start w.length k = offset at within
  refine if_congr ?_ rfl rfl
  rcases length with e | e | e | e | e <;> rw [e] at aligned within fits <;> omega

/-- What every step of a walk keeps: its target, its block, its window. -/
structure BlockLaw (s : State) (h : Half) (w : OpenWalk) : Prop where
  target : targetLaw s h w.target
  length : w.length = 1 ∨ w.length = 2 ∨ w.length = 4 ∨ w.length = 8 ∨ w.length = 16
  aligned : w.blockStart % w.length = 0
  fits : w.blockStart + w.length ≤ 32
  start : w.start < w.length
  low : 30 ≤ w.window
  high : w.window ≤ 600
  half : (if w.blockStart < 16 then Half.truck else .trailer) = h

theorem BlockLaw.length_le {s : State} {h : Half} {w : OpenWalk} (law : BlockLaw s h w) : w.length ≤ 16 := by
  rcases law.length with e | e | e | e | e <;> omega

theorem openWalkLaw.block {s : State} {h : Half} {slot : WalkSlot} {w : OpenWalk} (law : openWalkLaw s h slot w) :
    BlockLaw s h w := by
  obtain ⟨target, length, aligned, fits, start, step, current, half, -, low, high, -, -⟩ := law
  refine ⟨target, length, aligned, fits, start, low, high, ?_⟩
  rw [← half, current, halfOf_visitAt length aligned fits start step]

theorem openWalkLaw.counted {s : State} {h : Half} {slot : WalkSlot} {w : OpenWalk} (law : openWalkLaw s h slot w) :
    slot.bound ≤ w.step ∧ w.step < w.length ∧ slot.result = none := by
  obtain ⟨-, -, -, -, -, step, -, -, -, -, -, bound, result⟩ := law
  exact ⟨bound, step, result⟩

theorem nextStep_some {s : State} {w : OpenWalk} {from_ k : Nat} (h : nextStep s w from_ = some k) :
    from_ ≤ k ∧ k < w.length ∧ (geometry s (visitAt w k)).fitted = true := by
  have mem := List.mem_range.mp (List.mem_of_find?_eq_some h)
  have found := List.find?_some h
  simp only [Bool.and_eq_true, decide_eq_true_eq] at found
  exact ⟨found.1, mem, found.2⟩

theorem targetLaw_congr {s t : State} (set : t.vehicle.set = s.vehicle.set) (h : Half) (g : SetNo) :
    targetLaw t h g ↔ targetLaw s h g := by
  cases h
  · exact Iff.rfl
  · simp only [targetLaw, set]

theorem geometry_modWalk (h : Half) (f : WalkSlot → WalkSlot) (s : State) (p : Pos) :
    geometry (modWalk h f s) p = geometry s p := geometry_congr (congrArg Content.geometry (modWalk_content h f s)) p

/-- A walk that goes on from a step it has counted up to is lawful, whether it finds a position or ends COMPLETE. -/
theorem advanceWalk_slotLaw {s : State} {h : Half} {w : OpenWalk} {k : Nat} (block : BlockLaw s h w)
    (bound : (walkSlot s h).bound ≤ k) (last : k ≤ w.length) (result : (walkSlot s h).result = none) :
    slotLaw (advanceWalk h w k s) h := by
  unfold advanceWalk
  cases found : nextStep s w k with
  | none =>
    refine slotLaw_of_closed ?_ ?_
    · rw [walkSlot_finishWalk]
    · rw [walkSlot_finishWalk]
      exact bound.trans (last.trans block.length_le)
  | some j =>
    obtain ⟨le, lt, fitted⟩ := nextStep_some found
    refine slotLaw_of_open (w := { w with step := j, current := visitAt w j, expiry := s.time + w.window * 1000 }) ?_ ?_
    · rw [walkSlot_modWalk_self]
    · rw [walkSlot_modWalk_self]
      refine ⟨(targetLaw_congr (by rw [modWalk_vehicle]) h _).mpr block.target, block.length, block.aligned, block.fits,
        block.start, lt, rfl, ?_, ?_, block.low, block.high, bound.trans le, result⟩
      · exact (halfOf_visitAt block.length block.aligned block.fits block.start lt).trans block.half
      · rw [geometry_modWalk]
        exact fitted

/-! ## Walks as events -/

theorem finishWalk_events {s : State} {h : Half} {w : OpenWalk} (walk : (walkSlot s h).walk = some w) (r : WalkResult) :
    Events V s (finishWalk h r s) := by
  refine (Event.walk h (finishWalk_walkOnly h r s) fun law => slotLaw_of_closed ?_ ?_).chain
  · rw [walkSlot_finishWalk]
  · have open_ := openWalkLaw_of_slotLaw walk (law.slot h)
    have := open_.counted
    have := open_.block.length_le
    rw [walkSlot_finishWalk]
    show (walkSlot s h).bound ≤ 16
    omega

theorem walkOpen_some {s : State} {h : Half} (open_ : walkOpen s h = true) : ∃ w, (walkSlot s h).walk = some w :=
  Option.isSome_iff_exists.mp open_

theorem stopWalk_events (h : Half) (s : State) : Events V s (stopWalk h s) := by
  unfold stopWalk
  split
  · next open_ =>
    obtain ⟨w, walk⟩ := walkOpen_some open_
    exact (reply_events _ _ s).trans (finishWalk_events (s := reply 0x0C .done s) (by cases h <;> exact walk) _)
  · exact reply_events _ _ s

theorem expireWindow_events (h : Half) (s : State) : Events V s (expireWindow h s) := by
  unfold expireWindow
  split
  · next w walk =>
    split
    · exact finishWalk_events walk _
    · exact .refl
  · exact .refl

/-- A count of a walk raised changes nothing of its slot that the law reads. -/
theorem countWalk_events (h : Half) (f : WalkSlot → WalkSlot) (s : State)
    (same : ∀ x, (f x).walk = x.walk ∧ (f x).bound = x.bound ∧ (f x).result = x.result) : Events V s (modWalk h f s) := by
  obtain ⟨walk, bound, result⟩ := same (walkSlot s h)
  refine (Event.walk h (modWalk_walkOnly h f s) fun law => ?_).chain
  have slot := law.slot h
  unfold slotLaw at slot ⊢
  rw [walkSlot_modWalk_self, walk]
  cases e : (walkSlot s h).walk with
  | none =>
    rw [e] at slot
    exact bound.le.trans slot
  | some w =>
    rw [e] at slot
    obtain ⟨target, length, aligned, fits, start, step, current, half, fitted, low, high, counted, open_⟩ := slot
    refine ⟨(targetLaw_congr (by rw [modWalk_vehicle]) h _).mpr target, length, aligned, fits, start, step, current, half, ?_,
      low, high, bound.le.trans counted, result.trans open_⟩
    rw [geometry_modWalk]
    exact fitted

theorem countImplausible_events (h : Half) (s : State) : Events V s (countImplausible h s) :=
  countWalk_events h _ s fun _ => ⟨rfl, rfl, rfl⟩

theorem countAmbiguous_events (h : Half) (s : State) : Events V s (countAmbiguous h s) :=
  countWalk_events h _ s fun _ => ⟨rfl, rfl, rfl⟩

/-- The step after a binding (R139 step 5). -/
theorem countBinding_events {h : Half} {w : OpenWalk} {s : State} (walk : (walkSlot s h).walk = some w) (ev : Evidence) :
    Events V s (countBinding h w ev s) := by
  refine (Event.walk h ((modWalk_walkOnly h _ s).trans (advanceWalk_walkOnly h w _ _)) fun law => ?_).chain
  have open_ := openWalkLaw_of_slotLaw walk (law.slot h)
  obtain ⟨counted, step, result⟩ := open_.counted
  have block := open_.block
  refine advanceWalk_slotLaw ?_ ?_ step ?_
  · exact { block with target := (targetLaw_congr (by rw [modWalk_vehicle]) h _).mpr block.target }
  · rw [walkSlot_modWalk_self]
    exact Nat.succ_le_succ counted
  · rw [walkSlot_modWalk_self]
    exact result

/-! ## OPEN WALK (R131, R132) -/

theorem walkArgs_some {start : Byte} {half order : Bool} {code : BitVec 3} {target : BitVec 2} {window : BitVec 10}
    {a : WalkArgs} (h : walkArgs start half order code target window = some a) :
    (a.length = 1 ∨ a.length = 2 ∨ a.length = 4 ∨ a.length = 8 ∨ a.length = 16) ∧ halfOf a.start = a.half ∧
      (a.window = 0 ∨ 30 ≤ a.window ∧ a.window ≤ 600) := by
  unfold walkArgs at h
  split at h
  · next p len _ hlen =>
    split at h
    · next ok =>
      cases h
      refine ⟨?_, ok.1, ok.2⟩
      unfold lengthArg at hlen
      split at hlen
      · next le =>
        cases hlen
        have : code.toNat = 0 ∨ code.toNat = 1 ∨ code.toNat = 2 ∨ code.toNat = 3 ∨ code.toNat = 4 := by omega
        rcases this with e | e | e | e | e <;> simp [e]
      · cases hlen
    · cases h
  · cases h

theorem targetMatches_iff (s : State) (h : Half) (g : SetNo) : targetMatches s h g = true ↔ targetLaw s h g := by
  cases h <;> simp [targetMatches, targetLaw]

theorem settingsOk_walkWindow {c : Settings} (h : settingsOk c = true) : 30 ≤ c.walkWindow ∧ c.walkWindow ≤ 600 := by
  simp only [settingsOk, Bool.and_eq_true, decide_eq_true_eq] at h
  omega

theorem loadTest_settings {c : Content} (h : loadTest c = true) : settingsOk c.settings = true := by
  simp only [loadTest, Bool.and_eq_true] at h
  exact h.1.1.1.1.1

theorem openedWalk_block {s : State} {a : WalkArgs} (law : ContentLaw s)
    (length : a.length = 1 ∨ a.length = 2 ∨ a.length = 4 ∨ a.length = 8 ∨ a.length = 16) (half : halfOf a.start = a.half)
    (window : a.window = 0 ∨ 30 ≤ a.window ∧ a.window ≤ 600) (target : targetLaw s a.half a.target) :
    BlockLaw s a.half (openedWalk s a) := by
  have positive : 0 < a.length := by omega
  have setting := settingsOk_walkWindow (loadTest_settings law)
  have bounds : 30 ≤ (openedWalk s a).window ∧ (openedWalk s a).window ≤ 600 := by
    unfold openedWalk
    dsimp only
    split
    · exact setting
    · next h => exact window.resolve_left h
  have start := a.start.isLt
  refine ⟨target, length, ?_, ?_, Nat.mod_lt _ positive, bounds.1, bounds.2, ?_⟩
  · show (a.start.val - a.start.val % a.length) % a.length = 0
    rcases length with e | e | e | e | e <;> rw [e] <;> omega
  · show a.start.val - a.start.val % a.length + a.length ≤ 32
    rcases length with e | e | e | e | e <;> rw [e] <;> omega
  · rw [← half, halfOf]
    refine if_congr ?_ rfl rfl
    show a.start.val - a.start.val % a.length < 16 ↔ a.start.val < 16
    rcases length with e | e | e | e | e <;> rw [e] <;> omega

theorem beginWalk_events {start : Byte} {half order : Bool} {code : BitVec 3} {target : BitVec 2} {window : BitVec 10}
    {a : WalkArgs} (args : walkArgs start half order code target window = some a) (s : State) :
    Events V s (beginWalk a s) := by
  obtain ⟨length, inHalf, bounds⟩ := walkArgs_some args
  unfold beginWalk
  split
  · exact reply_events _ _ s
  · split
    · exact reply_events _ _ s
    · next matched =>
      have matched : targetLaw s a.half a.target := (targetMatches_iff s a.half a.target).mp (by simpa using matched)
      dsimp only
      refine (Event.walk a.half (((modWalk_walkOnly a.half _ s).trans ((reply_reach _ _ _).walkOnly _)).trans
        (advanceWalk_walkOnly _ _ _ _)) fun law => ?_).chain
      have block := openedWalk_block law.1 length inHalf bounds matched
      have slot : walkSlot (reply 0x0B .done (modWalk a.half (fun _ => openedSlot (openedWalk s a)) s)) a.half =
          openedSlot (openedWalk s a) := by
        cases a.half <;> rfl
      refine advanceWalk_slotLaw ?_ ?_ (Nat.zero_le _) ?_
      · refine { block with target := (targetLaw_congr ?_ _ _).mpr block.target }
        rw [(reply_reach _ _ _).vehicle, modWalk_vehicle]
      · rw [slot]
        exact Nat.le_refl 0
      · rw [slot]
        rfl

end Sys2Proof.Machine
end

section
/-! PROOF. Bindings, evidence and received characters as chains of events. -/

namespace Sys2Proof.Machine

open Sys2Proof

variable {V : Prop}

/-! ## Bindings (R31, R139) -/

/-- The parts that a binding of the sensor table leaves alone: it writes sensor entries, acceptances, the changed flag
and the stranger list. -/
structure TableOnly (s t : State) : Prop where
  time : t.time = s.time
  frontPort : t.frontPort = s.frontPort
  rearPort : t.rearPort = s.rearPort
  dup : t.dup = s.dup
  vehicle : t.vehicle = s.vehicle
  pos : t.pos = s.pos
  truckWalk : t.truckWalk = s.truckWalk
  trailerWalk : t.trailerWalk = s.trailerWalk
  chan : t.chan = s.chan
  tx : t.tx = s.tx
  mgmt : t.mgmt = s.mgmt
  pending : t.pending = s.pending
  content : t.content = { s.content with sensors := t.content.sensors }
  store : t.store = { s.store with changed := t.store.changed }

theorem TableOnly.refl (s : State) : TableOnly s s := by constructor <;> rfl

theorem TableOnly.trans {s t u : State} (h : TableOnly s t) (k : TableOnly t u) : TableOnly s u :=
  ⟨k.time.trans h.time, k.frontPort.trans h.frontPort, k.rearPort.trans h.rearPort, k.dup.trans h.dup,
   k.vehicle.trans h.vehicle, k.pos.trans h.pos, k.truckWalk.trans h.truckWalk, k.trailerWalk.trans h.trailerWalk,
   k.chan.trans h.chan, k.tx.trans h.tx, k.mgmt.trans h.mgmt, k.pending.trans h.pending,
   k.content.trans (by rw [h.content]), k.store.trans (by rw [h.store])⟩

theorem writeEntry_tableOnly (e : EntryNo) (new : Entry) (s : State) : TableOnly s (writeEntry e new s) := by
  constructor <;> rfl

theorem dropStranger_tableOnly (sid : SensorId) (s : State) : TableOnly s (dropStranger sid s) := by
  constructor <;> rfl

theorem displace_tableOnly (g : SetNo) (p : Pos) (s : State) : TableOnly s (displace g p s) := by
  unfold displace
  split
  · exact writeEntry_tableOnly _ _ _
  · exact TableOnly.refl s

/-- All that a binding of the sensor table can be (R31): the sensor named there already, moved to the place, or new at the
lowest free entry. -/
theorem bindTable_cases {sid : SensorId} {g : SetNo} {p : Pos} {s : State} {b : TableBinding}
    (h : bindTable sid g p s = some b) :
    (∃ e, findId s sid = some e ∧ (entryAt s e).set = g ∧ (entryAt s e).pos = p ∧
      b = { state := s, entry := e, outcome := .confirmed, vacated := none }) ∨
    (∃ e, findId s sid = some e ∧ ¬((entryAt s e).set = g ∧ (entryAt s e).pos = p) ∧
      b = { state := writeEntry e { entryAt s e with set := g, pos := p } (displace g p s), entry := e
            outcome := if displaces g p s then .displaced else .moved
            vacated := if isActive s (entryAt s e).set then some (entryAt s e).pos else none }) ∨
    (∃ e, findId s sid = none ∧ findFree (displace g p s) = some e ∧
      b = { state := dropStranger sid
              (writeEntry e { valid := true, sid := sid, set := g, pos := p, offset := 0 } (displace g p s))
            entry := e, outcome := if displaces g p s then .displaced else .new, vacated := none }) := by
  unfold bindTable at h
  split at h
  · next e found =>
    dsimp only at h
    split at h
    · next named => exact .inl ⟨e, found, named.1, named.2, (Option.some.inj h).symm⟩
    · next moved => exact .inr (.inl ⟨e, found, moved, (Option.some.inj h).symm⟩)
  · next unknown =>
    dsimp only at h
    split at h
    · next e free => exact .inr (.inr ⟨e, unknown, free, (Option.some.inj h).symm⟩)
    · cases h

theorem bindTable_tableOnly {sid : SensorId} {g : SetNo} {p : Pos} {s : State} {b : TableBinding}
    (h : bindTable sid g p s = some b) : TableOnly s b.state := by
  obtain ⟨e, -, -, -, rfl⟩ | ⟨e, -, -, rfl⟩ | ⟨e, -, -, rfl⟩ := bindTable_cases h
  · exact TableOnly.refl s
  · exact (displace_tableOnly g p s).trans (writeEntry_tableOnly _ _ _)
  · exact ((displace_tableOnly g p s).trans (writeEntry_tableOnly _ _ _)).trans (dropStranger_tableOnly _ _)

/-- The state in which a binding's reading is applied: the notices given. -/
def notified (b : TableBinding) (p : Pos) : State :=
  bindPos p b.entry (match b.vacated with
    | some q => unbindPos q b.state
    | none => b.state)

theorem notified_posOnly (b : TableBinding) (p : Pos) : PosOnly b.state (notified b p) := by
  unfold notified
  split
  · exact (unbindPos_posOnly _ _).trans (bindPos_posOnly _ _ _)
  · exact bindPos_posOnly _ _ _

theorem bindAndRead_eq (b : TableBinding) (p : Pos) (ev : Evidence) :
    bindAndRead b p ev =
      applyReading p
        { offset := (entryAt b.state b.entry).offset, telegram := ev.telegram, time := b.state.time } (notified b p) := by
  have kept := notified_posOnly b p
  have offset : entryAt (notified b p) b.entry = entryAt b.state b.entry :=
    entryAt_congr (congrArg Content.sensors kept.content) _
  rw [← offset, ← kept.time]
  rfl

theorem bindAndRead_readReach (b : TableBinding) (p : Pos) (ev : Evidence) : ReadReach b.state (bindAndRead b p ev) := by
  rw [bindAndRead_eq]
  refine ReadReach.trans ?_ (applyReading_reach _ _ _)
  have kept := notified_posOnly b p
  rw [kept]
  constructor <;> rfl

theorem bound_walkSlot {sid : SensorId} {g : SetNo} {p : Pos} {s : State} {b : TableBinding}
    (table : bindTable sid g p s = some b) (before : State) (touched : List Pos) (sample : Option Pos) (q : Pos)
    (ev : Evidence) (h : Half) : walkSlot (finishEvent before touched sample (bindAndRead b q ev)) h = walkSlot s h := by
  have close := finishEvent_reach before touched sample (bindAndRead b q ev)
  have read := bindAndRead_readReach b q ev
  have table := bindTable_tableOnly table
  exact walkSlot_congr ((close.truckWalk.trans read.truckWalk).trans table.truckWalk)
    ((close.trailerWalk.trans read.trailerWalk).trans table.trailerWalk) h

theorem carryBinding_events {h : Half} {w : OpenWalk} {ev : Evidence} {s : State} {b : TableBinding}
    (sound : V → soundId ev.sid) (walk : (walkSlot s h).walk = some w)
    (table : bindTable ev.sid w.target w.current s = some b) : Events V s (carryBinding h w ev b s) := by
  unfold carryBinding
  refine ((Event.bound h w b ev sound walk table).chain.trans (placeService_events _ _)).trans (countBinding_events ?_ ev)
  have placed := placeService_reach (learnNotice h w.current ev.sid b.outcome b.entry)
    (finishEvent s (w.current :: b.vacated.toList) (some w.current) (bindAndRead b w.current ev))
  rw [walkSlot_congr placed.truckWalk placed.trailerWalk, bound_walkSlot table, walk]

/-! ## Evidence (R136 to R142) -/

theorem handOn_events (ev : Evidence) (s : State) : Events V s (handOn ev s) := by
  unfold handOn
  split
  · next unknown => exact (Event.heard ev (Option.isNone_iff_eq_none.mp unknown)).chain
  · exact .refl

section Evidence

variable {h : Half} {w : OpenWalk} {ev : Evidence} {s : State}

theorem bindAtWalk_events (sound : V → soundId ev.sid) (walk : (walkSlot s h).walk = some w) :
    Events V s (bindAtWalk h w ev s) := by
  unfold bindAtWalk
  split
  · next b table => exact carryBinding_events sound walk table
  · exact (finishWalk_events walk _).trans (handOn_events ev _)

theorem judgeOne_events (sound : V → soundId ev.sid) (walk : (walkSlot s h).walk = some w) :
    Events V s (judgeOne h w ev s) := by
  unfold judgeOne
  split
  · exact bindAtWalk_events sound walk
  · exact (countImplausible_events h s).trans (handOn_events ev _)

theorem judgeTwo_events {t r : OpenWalk} (sound : V → soundId ev.sid) (truck : (walkSlot s .truck).walk = some t)
    (trailer : (walkSlot s .trailer).walk = some r) : Events V s (judgeTwo t r ev s) := by
  unfold judgeTwo
  split
  · exact bindAtWalk_events sound truck
  · exact bindAtWalk_events sound trailer
  · exact ((countAmbiguous_events .truck s).trans (countAmbiguous_events .trailer _)).trans (handOn_events ev _)
  · exact ((countImplausible_events .truck s).trans (countImplausible_events .trailer _)).trans (handOn_events ev _)

theorem deliver_events (sound : V → soundId ev.sid) (s : State) : Events V s (deliver ev s) := by
  unfold deliver
  split
  · split
    · next t r truck trailer => exact judgeTwo_events sound truck trailer
    · next t truck _ => exact judgeOne_events (h := .truck) sound truck
    · next r _ trailer => exact judgeOne_events (h := .trailer) sound trailer
    · exact handOn_events ev s
  · exact handOn_events ev s

end Evidence

/-! ## The duplicate list (R10 to R13) -/

theorem DupLaw.sublist {s : State} {d : DupList} (h : DupLaw s) (sub : d.entries.Sublist s.dup.entries) :
    DupLaw { s with dup := d } := by
  obtain ⟨length, apart, each⟩ := h
  exact ⟨sub.length_le.trans length, apart.sublist sub, fun e he => each e (sub.subset he)⟩

/-- A change of entries in place that keeps identity, age and that a port heard them. -/
theorem DupLaw.map {s : State} {d : DupList} (h : DupLaw s) {f : DupEntry → DupEntry}
    (same : ∀ e, (f e).sid = e.sid ∧ (f e).seq = e.seq ∧ (f e).firstArrival = e.firstArrival)
    (heard : ∀ e, e.front.isSome = true ∨ e.rear.isSome = true → (f e).front.isSome = true ∨ (f e).rear.isSome = true)
    (entries : d.entries = s.dup.entries.map f) : DupLaw { s with dup := d } := by
  obtain ⟨length, apart, each⟩ := h
  refine ⟨?_, ?_, fun e he => ?_⟩
  · show d.entries.length ≤ _
    rw [entries, List.length_map]
    exact length
  · show d.entries.Pairwise _
    rw [entries, List.pairwise_map]
    refine apart.imp fun {a b} k => ?_
    rw [(same a).1, (same b).1, (same a).2.1, (same b).2.1, (same a).2.2, (same b).2.2]
    exact k
  · have he : e ∈ d.entries := he
    rw [entries] at he
    obtain ⟨x, hx, rfl⟩ := List.mem_map.mp he
    obtain ⟨zero, ones, arrived, ports⟩ := each x hx
    rw [(same x).1, (same x).2.2]
    exact ⟨zero, ones, arrived, heard x ports⟩

theorem mark_same (c : Copy) (e : DupEntry) :
    let y := if sameBurst c e then { e with flagged := true } else e
    (y.sid = e.sid ∧ y.seq = e.seq ∧ y.firstArrival = e.firstArrival) ∧ y.front = e.front ∧ y.rear = e.rear := by
  dsimp only
  split <;> exact ⟨⟨rfl, rfl, rfl⟩, rfl, rfl⟩

theorem bestRssi_isSome_left {a : Option Nat} (b : Option Nat) (h : a.isSome = true) : (bestRssi a b).isSome = true := by
  cases a with
  | none => cases h
  | some x => cases b <;> rfl

theorem merge_same (c : Copy) (e : DupEntry) :
    let y := if sameBurst c e then mergeCopy c e else e
    (y.sid = e.sid ∧ y.seq = e.seq ∧ y.firstArrival = e.firstArrival) ∧
      (e.front.isSome = true ∨ e.rear.isSome = true → y.front.isSome = true ∨ y.rear.isSome = true) := by
  dsimp only
  split
  · unfold mergeCopy
    split
    · exact ⟨⟨rfl, rfl, rfl⟩, Or.imp (bestRssi_isSome_left _) id⟩
    · exact ⟨⟨rfl, rfl, rfl⟩, Or.imp id (bestRssi_isSome_left _)⟩
  · exact ⟨⟨rfl, rfl, rfl⟩, id⟩

theorem expiryProcessing_events {e : DupEntry} (sound : V → soundId e.sid) (s : State) :
    Events V s (expiryProcessing e s) := by
  unfold expiryProcessing
  split
  · exact deliver_events (ev := evidenceOf e) sound s
  · exact .refl

theorem DupLaw.sound {s : State} (h : DupLaw s) {e : DupEntry} (he : e ∈ s.dup.entries) : soundId e.sid := by
  obtain ⟨-, -, each⟩ := h
  obtain ⟨zero, ones, -⟩ := each e he
  exact ⟨zero, ones⟩

/-- The head of the list taken out of it, and its expiry processing done (R12, R13). -/
theorem headLeaves_events {s : State} {e : DupEntry} {rest : List DupEntry} (entries : s.dup.entries = e :: rest)
    (law : V → DupLaw s) {d : DupList} (left : d.entries = rest) :
    Events V s (expiryProcessing e { s with dup := d }) := by
  have sub : d.entries.Sublist s.dup.entries := by
    rw [left, entries]
    exact List.sublist_cons_self e rest
  refine (Event.dup d fun _ law => law.sublist sub).chain.trans (expiryProcessing_events (fun v => ?_) _)
  exact (law v).sound (by rw [entries]; exact List.mem_cons_self)

theorem expireDupHead_events {s : State} (law : V → DupLaw s) : Events V s (expireDupHead s) := by
  unfold expireDupHead
  split
  · next e rest entries =>
    split
    · exact headLeaves_events entries law (d := { s.dup with entries := rest }) rfl
    · exact .refl
  · exact .refl

theorem evictIfFull_events {s : State} (law : V → DupLaw s) : Events V s (evictIfFull s) := by
  unfold evictIfFull
  split
  · exact .refl
  · split
    · exact .refl
    · next e rest entries =>
      exact headLeaves_events entries law (d := { s.dup with entries := rest, evictions := countUp s.dup.evictions }) rfl

/-- After the eviction there is room, and no entry is new. -/
theorem evictIfFull_dup {s : State} (law : DupLaw s) :
    (evictIfFull s).dup.entries.length < Config.dupCap ∧ (evictIfFull s).dup.entries.Sublist s.dup.entries := by
  unfold evictIfFull
  split
  · next room => exact ⟨room, List.Sublist.refl _⟩
  · split
    · next none =>
      rw [none]
      exact ⟨by decide, List.Sublist.refl _⟩
    · next e rest entries =>
      have length := law.1
      rw [entries, List.length_cons] at length
      rw [(expiryProcessing_reach e _).dup, entries]
      exact ⟨Nat.lt_of_succ_le length, List.sublist_cons_self e rest⟩

/-- A first copy joins a list with room (R11). -/
theorem DupLaw.append {s : State} (law : DupLaw s) (room : s.dup.entries.length < Config.dupCap) {c : Copy}
    (sound : soundId c.sid) (new : ∀ e ∈ s.dup.entries, sameBurst c e = false) :
    DupLaw (setDupEntries (s.dup.entries ++ [newEntry s.time c]) s) := by
  obtain ⟨length, apart, each⟩ := law
  refine ⟨?_, ?_, fun e he => ?_⟩
  · show (s.dup.entries ++ [newEntry s.time c]).length ≤ _
    rw [List.length_append]
    exact Nat.succ_le_of_lt room
  · show (s.dup.entries ++ [newEntry s.time c]).Pairwise _
    refine List.pairwise_append.mpr ⟨apart, List.pairwise_singleton _ _, fun a ha b hb => ?_⟩
    rw [List.mem_singleton.mp hb]
    refine ⟨fun same => ?_, (each a ha).2.2.1⟩
    have differs := new a ha
    rw [show sameBurst c a = true from (sameBurst_iff c a).mpr same] at differs
    cases differs
  · obtain he | he := List.mem_append.mp he
    · exact each e he
    · rw [List.mem_singleton.mp he]
      refine ⟨sound.1, sound.2, Nat.le_refl _, ?_⟩
      cases h : c.port <;> simp [newEntry, h]

theorem lookup_events (sid : SensorId) (seq : Fin 16) (tel : Telegram) (s : State) :
    Events V s (lookup sid seq tel s).state := by
  obtain h | ⟨x, -, h⟩ | ⟨e, found, active, -, placed, h⟩ := lookup_cases sid seq tel s <;> rewrite [h]
  · exact .refl
  · exact Same.events (by constructor <;> rfl)
  · exact (Event.read e (findId_some found).1 active placed seq tel).chain

theorem firstCopy_events {c : Copy} {s : State} (room : V → s.dup.entries.length < Config.dupCap) (sound : soundId c.sid)
    (new : V → ∀ e ∈ s.dup.entries, sameBurst c e = false) : Events V s (firstCopy c s) := by
  have joined : Events V s (setDupEntries (s.dup.entries ++ [newEntry s.time c]) s) :=
    (Event.dup { s.dup with entries := _ } fun v law => law.append (room v) sound (new v)).chain
  have looked := joined.trans (lookup_events c.sid c.seq c.telegram _)
  unfold firstCopy
  dsimp only
  split
  · generalize (lookup c.sid c.seq c.telegram (setDupEntries (s.dup.entries ++ [newEntry s.time c]) s)).state = u at *
    refine looked.trans (Event.dup { u.dup with entries := _ } fun _ law => law.map
      (f := fun e => if sameBurst c e then { e with flagged := true } else e) (fun e => (mark_same c e).1)
        (fun e => ?_) rfl).chain
    rw [(mark_same c e).2.1, (mark_same c e).2.2]
    exact id
  · exact looked

theorem takeCopy_events {c : Copy} {s : State} (law : V → DupLaw s) (sound : soundId c.sid) :
    Events V s (takeCopy c s) := by
  unfold takeCopy
  split
  · exact (Event.dup { s.dup with entries := _, merges := _ } fun _ law =>
      law.map (f := fun e => if sameBurst c e then mergeCopy c e else e) (fun e => (merge_same c e).1)
        (fun e => (merge_same c e).2) rfl).chain
  · next new =>
    have new : ∀ e ∈ s.dup.entries, sameBurst c e = false := by simpa using new
    refine (evictIfFull_events law).trans (firstCopy_events (fun v => (evictIfFull_dup (law v)).1) sound fun v e he => ?_)
    exact new e ((evictIfFull_dup (law v)).2.subset he)

/-! ## The ports (R2 to R6) -/

theorem recordGood_sound {bytes : List Byte} (h : recordGood bytes = true) (port : Port) :
    soundId (decodeRecord port bytes).sid := by
  simp only [recordGood, Bool.and_eq_true, bne_iff_ne] at h
  exact ⟨h.1.2, h.2⟩

theorem countPort_events (port : Port) (f : PortState → PortState) (s : State) (same : ∀ x, (f x).framing = x.framing) :
    Events V s (modPort port f s) := by
  refine (Event.port port f fun law => ?_).chain
  unfold portLaw at law ⊢
  rw [same]
  exact law

theorem modPort_dupLaw (port : Port) (f : PortState → PortState) {s : State} (law : DupLaw s) : DupLaw (modPort port f s) := by
  cases port <;> exact law

theorem judgeRecord_events {port : Port} {bytes : List Byte} {s : State} (law : V → DupLaw s) :
    Events V s (judgeRecord port bytes s) := by
  have counted : Events V s (modPort port (fun p => { p with taken := countUp p.taken }) s) :=
    countPort_events port _ s fun _ => rfl
  unfold judgeRecord
  dsimp only
  split
  · next good =>
    exact counted.trans (takeCopy_events (fun v => modPort_dupLaw port _ (law v)) (recordGood_sound good port))
  · exact counted.trans (countPort_events port _ _ fun _ => rfl)

/-- A port that hunts is lawful. -/
theorem hunting_events (port : Port) (f : PortState → PortState) (s : State) (hunts : ∀ x, (f x).framing = .hunting) :
    Events V s (modPort port f s) := by
  refine (Event.port port f fun _ => ?_).chain
  rw [portLaw, hunts]
  trivial

/-- A port that collects from now on is lawful with up to nine bytes. -/
theorem collecting_events (port : Port) (f : PortState → PortState) (s : State) {bytes : List Byte} {escape : Bool}
    (collects : ∀ x, (f x).framing = collectingNow s bytes escape)
    (room : portLaw s.time (portState s port) → bytes.length ≤ 9) : Events V s (modPort port f s) := by
  refine (Event.port port f fun law => ?_).chain
  rw [portLaw, collects]
  exact ⟨room law, Nat.le_refl _⟩

theorem addByte_events {port : Port} {bytes : List Byte} {b : Byte} {s : State} (law : V → DupLaw s) :
    Events V s (addByte port bytes b s) := by
  unfold addByte
  split
  · next room =>
    refine collecting_events port _ s (fun _ => rfl) fun _ => ?_
    rw [List.length_append]
    exact Nat.succ_le_of_lt room
  · exact (hunting_events port _ s fun _ => rfl).trans (judgeRecord_events fun v => modPort_dupLaw port _ (law v))

theorem takeChar_events (port : Port) (c : Byte) {s : State} (law : V → DupLaw s) : Events V s (takeChar port c s) := by
  unfold takeChar
  split
  · split
    · exact collecting_events port _ s (fun _ => rfl) fun _ => Nat.zero_le _
    · exact .refl
  · next bytes escape due framing =>
    unfold takeCollecting
    split
    · split <;> exact collecting_events port _ s (fun _ => rfl) fun _ => Nat.zero_le _
    · split
      · split
        · exact addByte_events law
        · exact hunting_events port _ s fun _ => rfl
      · split
        · refine collecting_events port _ s (fun _ => rfl) fun ports => ?_
          rw [portLaw, framing] at ports
          exact ports.1
        · exact addByte_events law

theorem takeFramingFault_events (port : Port) (s : State) : Events V s (takeFramingFault port s) := by
  unfold takeFramingFault
  split
  · exact .refl
  · exact hunting_events port _ s fun _ => rfl

theorem expireIdle_events (port : Port) (s : State) : Events V s (expireIdle port s) := by
  unfold expireIdle
  split
  · exact .refl
  · split
    · exact hunting_events port _ s fun _ => rfl
    · exact .refl

end Sys2Proof.Machine
end

section
/-! PROOF. Every command is a chain of events. -/

namespace Sys2Proof.Machine

open Sys2Proof

variable {V : Prop}

/-! ## Timers and acknowledgements -/

theorem ageOutHead_events (s : State) : Events V s (ageOutHead s) := by
  unfold ageOutHead
  split
  · next x rest entries =>
    split
    · exact (Event.agedOut entries).chain
    · exact .refl
  · exact .refl

theorem expireStaleness_events (s : State) : Events V s (expireStaleness s) := by
  unfold expireStaleness
  split
  · exact Event.stale.chain
  · exact .refl

theorem expireSilence_events (p : Pos) (s : State) : Events V s (expireSilence p s) := by
  unfold expireSilence
  split
  · next due => exact (Event.silent p ((silenceDue_iff s p).mp due).1).chain
  · exact .refl

theorem endIntervalAt_events (p : Pos) (s : State) : Events V s (endIntervalAt p s) := by
  unfold endIntervalAt
  split
  · next due runs =>
    split
    · refine (Event.records ((expireInterval_reach p due s).trans (finishEvent_reach s [] none _)) fun q => ?_).chain
      refine Mild.trans ?_ (finishEvent_mild s [] none (expireInterval p due s) q)
      by_cases h : q = p
      · subst h
        rw [expireInterval_self]
        exact intervalRec_mild runs
      · rw [expireInterval_other due s h]
        exact Mild.refl _
    · exact .refl
  · exact .refl

theorem expireRepeat_events (p : Pos) (s : State) : Events V s (expireRepeat p s) := by
  unfold expireRepeat
  split
  · split
    · exact (Event.records (generateAlert_reach p .repeated s) (generateAlert_mild p .repeated s)).chain.trans
        (tellChannels_reach [p] none (generateAlert p .repeated s)).events
    · exact .refl
  · exact .refl

theorem execAck_events (len : Nat) (position item : Byte) (s : State) :
    ∃ t, execAck len position item s = .next t ∧ Events V s t := by
  refine ⟨_, rfl, ?_⟩
  split
  · next k _ =>
    split
    · refine (Event.records (modCond_reach _ _ s) fun q => ?_).chain
      rw [posRec_modCond]
      split
      · next h =>
        subst h
        exact takeAck_mild _ k _
      · exact Mild.refl _
    · exact .refl
  · exact .refl

/-! ## Requests -/

theorem serve_events {α : Type} {kind : Byte} {l : Lock} {args : Option α} {owner : α → State → State} {s : State}
    (h : ∀ a, args = some a → Events V s (owner a s)) : Events V s (serve kind l args owner s) :=
  serve_induct .refl (fun _ => reply_events _ _ s) fun a named _ => h a named

theorem ofLength_some {α : Type} {len required : Nat} {args : Option α} {a : α} (h : ofLength len required args = some a) :
    args = some a := by
  unfold ofLength at h
  split at h
  · exact h
  · cases h

theorem both_some {α β : Type} {a : Option α} {b : Option β} {x : α × β} (h : both a b = some x) :
    a = some x.1 ∧ b = some x.2 := by
  unfold both at h
  split at h
  · cases h
    exact ⟨rfl, rfl⟩
  · cases h

theorem sensorArg_some {sid : SensorId} {pos : BitVec 6} {set : BitVec 2} {offset : Byte} {x : Entry}
    (h : sensorArg sid pos set offset = some x) : x.valid = true ∧ entryOk x = true := by
  unfold sensorArg at h
  dsimp only at h
  split at h
  · next ok =>
    cases h
    exact ⟨rfl, ok.2⟩
  · cases h

theorem axleRecArg_some {near : BitVec 2} {margin : BitVec 6} {liftable : Bool} {x : AxleRec}
    (h : axleRecArg near margin liftable = some x) : x.margin ≤ 40 := by
  unfold axleRecArg at h
  split at h
  · split at h
    · next ok =>
      cases h
      exact ok
    · cases h
  · cases h

theorem writeSensor_events {e : EntryNo} {new : Entry} (valid : new.valid = true) (ok : entryOk new = true) (s : State) :
    Events V s (writeSensor e new s) := by
  unfold writeSensor
  split
  · exact reply_events _ _ s
  · next free => exact (Event.written e new valid ok (by simpa using free)).chain.trans (reply_events _ _ _)

theorem clearSensor_events (e : EntryNo) (s : State) : Events V s (clearSensor e s) := by
  unfold clearSensor
  split
  · next valid => exact (Event.freed e valid).chain.trans (reply_events _ _ _)
  · exact (Same.events (t := markChanged s) (by constructor <;> rfl)).trans (reply_events _ _ _)

theorem writePos_events (p : Pos) (new : Geometry) (s : State) : Events V s (writePos p new s) := by
  unfold writePos
  split
  · exact reply_events _ _ s
  · next closed => exact (Event.fitted p new (by simpa using closed)).chain.trans (reply_events _ _ _)

theorem writeAxleRec_events {a : AxleNo} {x : AxleRec} (ok : x.margin ≤ 40) (s : State) :
    Events V s (writeAxleRec a x s) := by
  unfold writeAxleRec
  split
  · exact reply_events _ _ s
  · exact (Event.axle a x ok).chain.trans (reply_events _ _ _)

theorem profileOk_iff (x : Profile) :
    profileOk x = true ↔
      (profileAOk x.nominal x.lowPct x.critPct x.highPct = true ∨
        (x.nominal = 0 ∧ x.lowPct = 0 ∧ x.critPct = 0 ∧ x.highPct = 0)) ∧
      profileBOk x.hotLimit x.twinLimit x.leakLimit = true := by
  simp only [profileOk, Bool.and_eq_true, Bool.or_eq_true, beq_iff_eq, and_assoc]

theorem profileA_events {l : LoadState} {cls : Fin 8} {nominal low crit high : Nat}
    (ok : profileAOk nominal low crit high = true) (s : State) :
    Events V s (replaceProfile l cls
      (fun x => { x with nominal := nominal, lowPct := low, critPct := crit, highPct := high }) s) := by
  refine (Event.profile l cls _ fun x h => ?_).chain
  rw [profileOk_iff] at h ⊢
  exact ⟨.inl ok, h.2⟩

theorem profileB_events {l : LoadState} {cls : Fin 8} {hot twin leak : Nat} (ok : profileBOk hot twin leak = true) (s : State) :
    Events V s (replaceProfile l cls (fun x => { x with hotLimit := hot, twinLimit := twin, leakLimit := leak }) s) := by
  refine (Event.profile l cls _ fun x h => ?_).chain
  rw [profileOk_iff] at h ⊢
  exact ⟨h.1, ok⟩

theorem configure_events {kind : Byte} {c : ChanNo} {f : ChanConfig → ChanConfig}
    (ok : ∀ k, chanOk k = true → chanOk (f k) = true) (s : State) : Events V s (configure kind c f s) := by
  unfold configure
  split
  · exact reply_events _ _ s
  · exact (Event.channel c f ok).chain.trans (reply_events _ _ _)

theorem chanOk_iff (k : ChanConfig) :
    chanOk k = true ↔ k.blockLen ≤ 32 ∧ k.count ≤ 65535 ∧ 1 ≤ k.period ∧ k.period ≤ 255 := by
  simp only [chanOk, Bool.and_eq_true, decide_eq_true_eq, and_assoc]

theorem configAArg_some {trigger mode step : BitVec 2} {start : BitVec 5} {blockLen : BitVec 6}
    {f : ChanConfig → ChanConfig} (h : configAArg trigger mode step start blockLen = some f) (k : ChanConfig)
    (ok : chanOk k = true) : chanOk (f k) = true := by
  unfold configAArg at h
  split at h
  · split at h
    · next within =>
      cases h
      rw [chanOk_iff] at ok ⊢
      exact ⟨within, ok.2⟩
    · cases h
  · cases h

theorem chanOk_configB {k : ChanConfig} {count : BitVec 16} {period : Byte} (positive : period ≠ 0)
    (skipVacant cyclic powerUp : Bool) (ok : chanOk k = true) :
    chanOk { k with count := count.toNat, period := period.toNat, skipVacant := skipVacant, cyclic := cyclic
                    powerUp := powerUp } = true := by
  rw [chanOk_iff] at ok ⊢
  exact ⟨ok.1, Nat.le_of_lt_succ count.isLt, Nat.pos_of_ne_zero fun h => positive (BitVec.eq_of_toNat_eq h),
    Nat.le_of_lt_succ period.isLt⟩

/-! ## Settings (R166) -/

theorem settingsOk_iff (c : Settings) :
    settingsOk c = true ↔ (-20 ≤ c.tref ∧ c.tref ≤ 50) ∧ (60 ≤ c.silenceTimeout ∧ c.silenceTimeout ≤ 1800) ∧
      (2 ≤ c.repeatPeriod ∧ c.repeatPeriod ≤ 60) ∧ (1 ≤ c.intervalLength ∧ c.intervalLength ≤ 60) ∧
      (200 ≤ c.reportLifetime ∧ c.reportLifetime ≤ 10000) ∧ (30 ≤ c.walkWindow ∧ c.walkWindow ≤ 600) ∧
      c.node ≤ 15 ∧ c.protect ≤ 3 := by
  simp only [settingsOk, Bool.and_eq_true, decide_eq_true_eq, and_assoc]

theorem rangeArg_some {low high : Nat} {v : BitVec 16} {n : Nat} (h : rangeArg low high v = some n) : low ≤ n ∧ n ≤ high := by
  unfold rangeArg at h
  split at h
  · next ok =>
    cases h
    exact ok
  · cases h

theorem trefArg_some {v : BitVec 16} {n : Int} (h : trefArg v = some n) : -20 ≤ n ∧ n ≤ 50 := by
  unfold trefArg at h
  split at h
  · next ok =>
    cases h
    exact ok
  · cases h

theorem setAndReply_events {f : Settings → Settings} (node : ∀ c, (f c).node = c.node)
    (ok : ∀ c, settingsOk c = true → settingsOk (f c) = true) (s : State) : Events V s (setAndReply f s) :=
  (Event.setting f node ok).chain.trans (reply_events _ _ _)

theorem silenceAtWrite_events (s : State) (p : Pos) : Events V s (silenceAtWrite s p) := by
  unfold silenceAtWrite
  split
  · next reached => exact (Event.silent p ((silenceReached_iff s p).mp reached).1).chain
  · exact .refl

theorem writeSilence_events {v : Nat} (ok : 60 ≤ v ∧ v ≤ 1800) (s : State) : Events V s (writeSilence v s) := by
  have written : Events V s (modSettings (fun c => { c with silenceTimeout := v }) s) := by
    refine (Event.setting _ (fun _ => by rfl) fun c h => ?_).chain
    rw [settingsOk_iff] at h ⊢
    exact ⟨h.1, ok, h.2.2⟩
  unfold writeSilence
  dsimp only
  refine Relation.ReflTransGen.trans ?_ (reply_events _ _ _)
  split
  · exact written
  · exact written.trans (Events.foldl silenceAtWrite_events _ _)

theorem writeProtect_events {v : Nat} (ok : v ≤ 3) (s : State) : Events V s (writeProtect v s) := by
  unfold writeProtect
  split
  · exact reply_events _ _ s
  · refine setAndReply_events (fun _ => by rfl) (fun c h => ?_) s
    rw [settingsOk_iff] at h ⊢
    obtain ⟨a, b, c, d, e, f, g, -⟩ := h
    exact ⟨a, b, c, d, e, f, g, ok⟩

theorem ContentLaw.node {s : State} (law : ContentLaw s) : s.content.settings.node ≤ 15 := by
  have := (settingsOk_iff _).mp (loadTest_settings law)
  omega

theorem settleNode_events (s : State) : Events V s (settleNode s) := by
  unfold settleNode
  split
  · exact .refl
  · next n pending =>
    split
    · exact .refl
    · refine (Event.node s.content.settings.node { s.mgmt with nodeInForce := n, nodePending := none } fun law => ?_).chain
      obtain ⟨content, -, -, ⟨-, -, written, -⟩, -⟩ := law
      refine ⟨content.node, nofun, ?_⟩
      rw [show n = _ from written n pending]
      exact content.node

theorem writeNode_events {v : Nat} (ok : v ≤ 15) (s : State) : Events V s (writeNode v s) := by
  unfold writeNode
  dsimp only
  refine Relation.ReflTransGen.trans ?_ (settleNode_events _)
  refine Relation.ReflTransGen.trans ?_ (replyAwaited_reach _ _ _).events
  refine Relation.ReflTransGen.trans (settleNode_events s) ?_
  generalize settleNode s = u
  refine Relation.ReflTransGen.trans (b := forgetNode u) (TxChan.events (by constructor <;> rfl)) ?_
  generalize forgetNode u = x
  refine Relation.ReflTransGen.trans
    (Event.node v { x.mgmt with nodePending := some v } fun law => ⟨ok, fun k h => (Option.some.inj h).symm, ?_⟩).chain
    (Same.events (by constructor <;> rfl))
  obtain ⟨-, -, -, ⟨-, -, -, inForce⟩, -⟩ := law
  exact inForce

/-! ## Diagnostics, store and restart (R168 to R172) -/

theorem clearCounts_events (s : State) : Events V s (clearCounts s) := by
  have counts : Same s { clearCounts s with pos := s.pos } := by constructor <;> rfl
  refine counts.events.trans (Event.records (by constructor <;> rfl) fun q => ?_).chain
  have flags : posRec (clearCounts s) q = { posRec s q with saturated := false } := pick_map _ _ _
  rw [flags]
  exact mild_saturated _ _

theorem beginStore_events (s : State) : Events V s (beginStore s) := by
  refine (Event.store _ ⟨fun _ => rfl, fun job h => ?_⟩).chain
  cases h
  exact ⟨Nat.le_add_right _ _, Nat.le_refl _⟩

theorem completeStore_events (job : StoreJob) (r : ReadBack) (s : State) : Events V s (completeStore job r s) := by
  unfold completeStore
  cases r
  all_goals
    refine Relation.ReflTransGen.trans (Event.store _ ⟨fun h => ?_, fun job h => ?_⟩).chain (placeService_events _ _)
    all_goals cases h

theorem beginRestart_events (s : State) : Events V s (beginRestart s) := by
  obtain ⟨-, h⟩ | ⟨-, h⟩ := beginRestart_cases s <;> rewrite [h]
  · exact Same.events (by constructor <;> rfl)
  · exact Event.startUp.chain

theorem sendFrame_events (race : SlotRace) (s : State) : Events V s (sendFrame race s) := by
  obtain ⟨-, h⟩ | ⟨-, -, h⟩ | ⟨-, -, h⟩ := sendFrame_cases race s <;> rewrite [h]
  · exact .refl
  · exact Event.startUp.chain
  · exact (frameLeaves_reach race s).events

theorem startIfDue_events (s : State) : Events V s (startIfDue s) := by
  unfold startIfDue
  split
  · exact Event.startUp.chain
  · exact .refl

theorem expirePeriod_reach (c : ChanNo) (s : State) : TxChan s (expirePeriod c s) := by
  unfold expirePeriod
  split
  · split
    · dsimp only
      split
      · exact (modChan_reach _ _ _).trans (trigger_reach _ _)
      · exact modChan_reach _ _ _
    · exact TxChan.refl s
  · exact TxChan.refl s

theorem startChan_reach (c : ChanNo) (s : State) : TxChan s (startChan c s) := by
  unfold startChan
  split
  · exact reply_reach _ _ _
  · exact (loadChannel_reach _ _).trans (reply_reach _ _ _)

theorem leaveBusOff_reach (race : SlotRace) (s : State) : TxChan s (leaveBusOff race s) := by
  unfold leaveBusOff
  split
  · exact TxChan.trans (by constructor <;> rfl) (queueStep_reach _ _)
  · exact TxChan.refl s

/-! ## Every command -/

theorem execStoreCompletion_events (r : ReadBack) (s : State) :
    ∃ t, execStoreCompletion r s = .next t ∧ Events V s t := by
  refine ⟨_, rfl, ?_⟩
  split
  · exact completeStore_events _ _ s
  · exact .refl

theorem execVehicleCondition_events (len : Nat) (load motion : Byte) (ambient : BitVec 16) (lift g : Byte) (s : State) :
    ∃ t, execVehicleCondition len load motion ambient lift g s = .next t ∧ Events V s t := by
  refine ⟨_, rfl, ?_⟩
  split
  · exact (Event.vehicle _ _ _ _ _).chain
  · exact .refl

theorem execUnknownRequest_events (kind : Byte) (s : State) :
    ∃ t, execUnknownRequest kind s = .next t ∧ Events V s t := by
  refine ⟨_, rfl, ?_⟩
  split
  · exact .refl
  · split <;> exact reply_events _ _ s

/-- Every command is a chain of events. -/
theorem exec_events (i : Instr) (s : State) : ∃ t, exec i s = .next t ∧ Events (DupLaw s) s t := by
  cases i with
  | characterTaken port c => exact ⟨_, rfl, takeChar_events port c id⟩
  | framingFault port => exact ⟨_, rfl, takeFramingFault_events port s⟩
  | idleTimerExpiry port => exact ⟨_, rfl, expireIdle_events port s⟩
  | duplicateWindowExpiry => exact ⟨_, rfl, expireDupHead_events id⟩
  | strangerAgeOut => exact ⟨_, rfl, ageOutHead_events s⟩
  | vehicleCondition len load motion ambient lift g => exact execVehicleCondition_events len load motion ambient lift g s
  | stalenessExpiry => exact ⟨_, rfl, expireStaleness_events s⟩
  | silenceExpiry p => exact ⟨_, rfl, expireSilence_events p s⟩
  | intervalExpiry p => exact ⟨_, rfl, endIntervalAt_events p s⟩
  | repeatTimerExpiry p => exact ⟨_, rfl, expireRepeat_events p s⟩
  | ack len position item => exact execAck_events len position item s
  | walkWindowExpiry h => exact ⟨_, rfl, expireWindow_events h s⟩
  | periodTimerExpiry c => exact ⟨_, rfl, (expirePeriod_reach c s).events⟩
  | channelGrant => exact ⟨_, rfl, (grantSlot_reach s).events⟩
  | queueTakesHead race => exact ⟨_, rfl, (queueStep_reach race s).events⟩
  | frameSent race => exact ⟨_, rfl, sendFrame_events race s⟩
  | busOff => exact ⟨_, rfl, TxChan.events (by constructor <;> rfl)⟩
  | busOffRecovery race => exact ⟨_, rfl, (leaveBusOff_reach race s).events⟩
  | nodeNumberInForce => exact ⟨_, rfl, settleNode_events s⟩
  | restartStartUp => exact ⟨_, rfl, startIfDue_events s⟩
  | storeCompletion r => exact execStoreCompletion_events r s
  | powerOn => exact ⟨_, rfl, Event.startUp.chain⟩
  | discardedFrame f => exact ⟨_, rfl, .refl⟩
  | unknownRequest kind => exact execUnknownRequest_events kind s
  | writeSensorEntry =>
    refine ⟨_, rfl, serve_events fun a named => ?_⟩
    obtain ⟨valid, ok⟩ := sensorArg_some (both_some (ofLength_some named)).2
    exact writeSensor_events valid ok s
  | clearSensorEntry => exact ⟨_, rfl, serve_events fun a _ => clearSensor_events a s⟩
  | readSensorEntry => exact ⟨_, rfl, serve_events fun _ _ => placeService_events _ s⟩
  | writePosition => exact ⟨_, rfl, serve_events fun p _ => writePos_events p _ s⟩
  | writeAxle =>
    refine ⟨_, rfl, serve_events fun a named => ?_⟩
    exact writeAxleRec_events (axleRecArg_some (both_some (ofLength_some named)).2) s
  | readPosition => exact ⟨_, rfl, serve_events fun _ _ => (placeAll_reach _ s).events⟩
  | clearPosition => exact ⟨_, rfl, serve_events fun p _ => (Event.cleared p).chain.trans (reply_events _ _ _)⟩
  | readHistory => exact ⟨_, rfl, serve_events fun _ _ => (placeAll_reach _ s).events⟩
  | writeProfileA len load cls nominal low crit high =>
    refine ⟨_, rfl, serve_events fun l named => ?_⟩
    have named := ofLength_some named
    split at named
    · next ok => exact (profileA_events ok s).trans (reply_events _ _ _)
    · cases named
  | writeProfileB len load cls hot twin leak =>
    refine ⟨_, rfl, serve_events fun l named => ?_⟩
    have named := ofLength_some named
    split at named
    · next ok => exact (profileB_events ok s).trans (reply_events _ _ _)
    · cases named
  | openWalk => exact ⟨_, rfl, serve_events fun a named => beginWalk_events (ofLength_some named) s⟩
  | endWalk => exact ⟨_, rfl, serve_events fun h _ => stopWalk_events h s⟩
  | walkStatus => exact ⟨_, rfl, serve_events fun _ _ => placeService_events _ s⟩
  | configureChannelA =>
    exact ⟨_, rfl, serve_events fun a named => configure_events (configAArg_some (both_some (ofLength_some named)).2) s⟩
  | configureChannelB =>
    refine ⟨_, rfl, serve_events fun c named => configure_events (fun k ok => ?_) s⟩
    have named := ofLength_some named
    split at named
    · cases named
    · next positive => exact chanOk_configB positive _ _ _ ok
  | startChannel => exact ⟨_, rfl, serve_events fun c _ => (startChan_reach c s).events⟩
  | stopChannel => exact ⟨_, rfl, serve_events fun c _ => ((modChan_reach c _ s).trans (reply_reach _ _ _)).events⟩
  | triggerChannel => exact ⟨_, rfl, serve_events fun c _ => ((reply_reach _ _ s).trans (trigger_reach c _)).events⟩
  | channelStatus => exact ⟨_, rfl, serve_events fun _ _ => placeService_events _ s⟩
  | writeSettingTref =>
    refine ⟨_, rfl, serve_events fun v named => setAndReply_events (fun _ => by rfl) (fun c h => ?_) s⟩
    rw [settingsOk_iff] at h ⊢
    exact ⟨trefArg_some (ofLength_some named), h.2⟩
  | writeSettingSilenceTimeout =>
    exact ⟨_, rfl, serve_events fun v named => writeSilence_events (rangeArg_some (ofLength_some named)) s⟩
  | writeSettingRepeatPeriod =>
    refine ⟨_, rfl, serve_events fun v named => setAndReply_events (fun _ => by rfl) (fun c h => ?_) s⟩
    have range := rangeArg_some (ofLength_some named)
    rw [settingsOk_iff] at h ⊢
    exact ⟨h.1, h.2.1, range, h.2.2.2⟩
  | writeSettingIntervalLength =>
    refine ⟨_, rfl, serve_events fun v named => setAndReply_events (fun _ => by rfl) (fun c h => ?_) s⟩
    have range := rangeArg_some (ofLength_some named)
    rw [settingsOk_iff] at h ⊢
    exact ⟨h.1, h.2.1, h.2.2.1, range, h.2.2.2.2⟩
  | writeSettingReportLifetime =>
    refine ⟨_, rfl, serve_events fun v named => setAndReply_events (fun _ => by rfl) (fun c h => ?_) s⟩
    have range := rangeArg_some (ofLength_some named)
    rw [settingsOk_iff] at h ⊢
    exact ⟨h.1, h.2.1, h.2.2.1, h.2.2.2.1, range, h.2.2.2.2.2⟩
  | writeSettingWalkWindow =>
    refine ⟨_, rfl, serve_events fun v named => setAndReply_events (fun _ => by rfl) (fun c h => ?_) s⟩
    have range := rangeArg_some (ofLength_some named)
    rw [settingsOk_iff] at h ⊢
    exact ⟨h.1, h.2.1, h.2.2.1, h.2.2.2.1, h.2.2.2.2.1, range, h.2.2.2.2.2.2⟩
  | writeSettingNodeNumber =>
    exact ⟨_, rfl, serve_events fun v named => writeNode_events (rangeArg_some (ofLength_some named)).2 s⟩
  | writeSettingProtectLevel =>
    exact ⟨_, rfl, serve_events fun v named => writeProtect_events (rangeArg_some (ofLength_some named)).2 s⟩
  | readSettings => exact ⟨_, rfl, serve_events fun _ _ => (placeAll_reach _ s).events⟩
  | clearDiagnostics => exact ⟨_, rfl, serve_events fun _ _ => (clearCounts_events s).trans (reply_events _ _ _)⟩
  | readCounters => exact ⟨_, rfl, serve_events fun _ _ => (placeAll_reach _ s).events⟩
  | status => exact ⟨_, rfl, serve_events fun _ _ => placeService_events _ s⟩
  | store => exact ⟨_, rfl, serve_events fun _ _ => (beginStore_events s).trans (reply_events _ _ _)⟩
  | restart => exact ⟨_, rfl, serve_events fun _ _ => beginRestart_events s⟩

/-- A law that reads neither queue nor channels nor waiting commands is kept by every step if a millisecond keeps it, and
every event, under a fact V that holds at each command's start. -/
theorem step_keeps_of_events {P : State → Prop} (waiting : ∀ s x, P s → P { s with pending := x })
    (tick_ : ∀ s, dueEvents s = [] → P s → P (tick s))
    (event : ∀ u, P u → ∀ s t, Event (DupLaw u) s t → P s → P t) {s t : State} (h : P s) (e : step s = .next t) : P t :=
  step_keeps waiting (fun s _ => tick_ s) (fun i u v start run => by
    obtain ⟨w, next, chain⟩ := exec_events i u
    rw [next] at run
    cases run
    exact chain.keeps (event u start) start) h e

end Sys2Proof.Machine
end

section
/-! PROOF. What each event leaves of the parts around the position table, and the laws of the vehicle state and of the
stranger list. Settles O54 and O53. -/

namespace Sys2Proof.Machine

open Sys2Proof

/-! ## The frame of each event -/

theorem PosOnly.reach {s t : State} (h : PosOnly s t) : PosTxChan s t := by
  rw [show t = { s with pos := t.pos } from h]
  constructor <;> rfl

theorem acceptTelegram_readReach (e : EntryNo) (seq : Fin 16) (tel : Telegram) (s : State) :
    ReadReach (recordAcceptance e seq s) (acceptTelegram e seq tel s) := by
  rw [acceptTelegram_eq]
  exact (applyReading_reach _ _ _).trans (finishEvent_reach _ _ _ _).toReadReach

theorem bound_readReach (b : TableBinding) (p : Pos) (ev : Evidence) (before : State) (touched : List Pos)
    (sample : Option Pos) : ReadReach b.state (finishEvent before touched sample (bindAndRead b p ev)) :=
  (bindAndRead_readReach b p ev).trans (finishEvent_reach _ _ _ _).toReadReach

/-- The vehicle state of a frame, announced to the position table. -/
def announced (load motion : Byte) (ambient : BitVec 16) (lift g : Byte) (s : State) : State :=
  announceLift s.vehicle (announceLoad s.vehicle
    (stopSilence s { s with vehicle := frameValues load motion ambient lift g s }))

theorem announced_posOnly (load motion : Byte) (ambient : BitVec 16) (lift g : Byte) (s : State) :
    PosOnly { s with vehicle := frameValues load motion ambient lift g s } (announced load motion ambient lift g s) :=
  ((stopSilence_posOnly _ _).trans (announceLoad_posOnly _ _)).trans (announceLift_posOnly _ _)

/-- A frame either leaves the attached set as it is, or re-derives the trailer half and ends a TRAILER walk. -/
theorem takeVehicleFrame_cases (load motion : Byte) (ambient : BitVec 16) (lift g : Byte) (s : State) :
    (s.vehicle.set = heldSet g s.vehicle.set ∧
      takeVehicleFrame load motion ambient lift g s = announced load motion ambient lift g s) ∨
    (s.vehicle.set ≠ heldSet g s.vehicle.set ∧
      takeVehicleFrame load motion ambient lift g s = endWalkIfOpen .trailer .setChanged
        (finishEvent s trailerPositions none (rederiveTrailer (announced load motion ambient lift g s)))) := by
  have set : (announced load motion ambient lift g s).vehicle.set = heldSet g s.vehicle.set :=
    congrArg Vehicle.set (announced_posOnly load motion ambient lift g s).vehicle
  unfold takeVehicleFrame announceSet
  by_cases h : s.vehicle.set = heldSet g s.vehicle.set
  · exact .inl ⟨h, if_pos (h.trans set.symm)⟩
  · exact .inr ⟨h, if_neg fun e => h (e.trans set)⟩

theorem endWalkIfOpen_walkOnly (h : Half) (r : WalkResult) (s : State) : WalkOnly h s (endWalkIfOpen h r s) := by
  unfold endWalkIfOpen
  split
  · exact finishWalk_walkOnly h r s
  · exact (TxChan.refl s).walkOnly h

theorem rederivedTrailer_reach (load motion : Byte) (ambient : BitVec 16) (lift g : Byte) (s : State) :
    PosTxChan { s with vehicle := frameValues load motion ambient lift g s }
      (finishEvent s trailerPositions none (rederiveTrailer (announced load motion ambient lift g s))) :=
  ((announced_posOnly load motion ambient lift g s).reach.trans (rederiveTrailer_reach _)).trans (finishEvent_reach _ _ _ _)

theorem takeVehicleFrame_vehicle (load motion : Byte) (ambient : BitVec 16) (lift g : Byte) (s : State) :
    (takeVehicleFrame load motion ambient lift g s).vehicle = frameValues load motion ambient lift g s := by
  obtain ⟨-, e⟩ | ⟨-, e⟩ := takeVehicleFrame_cases load motion ambient lift g s <;> rw [e]
  · exact (announced_posOnly load motion ambient lift g s).vehicle
  · exact (endWalkIfOpen_walkOnly _ _ _).vehicle.trans (rederivedTrailer_reach load motion ambient lift g s).vehicle

/-- The rest of a frame's effect is on positions, the TRAILER walk, the queue and the channels. -/
theorem takeVehicleFrame_keeps (load motion : Byte) (ambient : BitVec 16) (lift g : Byte) (s : State) :
    let t := takeVehicleFrame load motion ambient lift g s
    t.time = s.time ∧ t.content = s.content ∧ t.frontPort = s.frontPort ∧ t.rearPort = s.rearPort ∧ t.dup = s.dup ∧
      t.strangers = s.strangers ∧ t.mgmt = s.mgmt ∧ t.store = s.store ∧ t.truckWalk = s.truckWalk := by
  intro t
  obtain ⟨-, e⟩ | ⟨-, e⟩ := takeVehicleFrame_cases load motion ambient lift g s <;> rw [show t = _ from e]
  · have k := (announced_posOnly load motion ambient lift g s).reach
    exact ⟨k.time, k.content, k.frontPort, k.rearPort, k.dup, k.strangers, k.mgmt, k.store, k.truckWalk⟩
  · have k := rederivedTrailer_reach load motion ambient lift g s
    have w := endWalkIfOpen_walkOnly .trailer .setChanged
      (finishEvent s trailerPositions none (rederiveTrailer (announced load motion ambient lift g s)))
    exact ⟨w.time.trans k.time, w.content.trans k.content, w.frontPort.trans k.frontPort, w.rearPort.trans k.rearPort,
      w.dup.trans k.dup, w.strangers.trans k.strangers, w.mgmt.trans k.mgmt, w.store.trans k.store,
      (w.other .truck (by decide)).trans k.truckWalk⟩

/-- The axle record written, before the lift mask follows. -/
def axlePut (a : AxleNo) (x : AxleRec) (s : State) : State := markChanged (putAxle a x s)

theorem replaceAxle_cases (a : AxleNo) (x : AxleRec) (s : State) :
    ((pick s.content.axles a).liftable = true ∧ x.liftable = false ∧ s.vehicle.lift.getLsbD a.val = true ∧
      replaceAxle a x s = dropLift a (axlePut a x s)) ∨
    (¬((pick s.content.axles a).liftable = true ∧ x.liftable = false ∧ s.vehicle.lift.getLsbD a.val = true) ∧
      replaceAxle a x s = axlePut a x s) := by
  unfold replaceAxle axlePut
  dsimp only
  split
  · next h =>
    simp only [Bool.and_eq_true, Bool.not_eq_true', and_assoc] at h
    exact .inl ⟨h.1, h.2.1, h.2.2, rfl⟩
  · next h =>
    simp only [Bool.and_eq_true, Bool.not_eq_true', and_assoc] at h
    exact .inr ⟨h, rfl⟩

/-- The lift mask without an axle. -/
def liftWithout (a : AxleNo) (lift : BitVec 8) : BitVec 8 := lift &&& ~~~(1#8 <<< a.val)

theorem dropLift_posOnly (a : AxleNo) (s : State) :
    PosOnly { s with vehicle := { s.vehicle with lift := liftWithout a s.vehicle.lift } } (dropLift a s) :=
  announceLift_posOnly _ _

theorem liftWithout_getLsbD (a i : AxleNo) (lift : BitVec 8) :
    (liftWithout a lift).getLsbD i.val = (lift.getLsbD i.val && decide (i ≠ a)) := by
  have := i.isLt
  have ne : (i.val - a.val = 0 → a.val ≤ i.val → i = a) := fun h k => Fin.ext (by omega)
  by_cases h : i = a
  · subst h
    simp [liftWithout]
  · have : ¬(a.val ≤ i.val ∧ i.val - a.val = 0) := fun k => h (ne k.2 k.1)
    simp [liftWithout, h]
    omega

theorem replaceAxle_keeps (a : AxleNo) (x : AxleRec) (s : State) :
    let t := replaceAxle a x s
    t.time = s.time ∧ t.content = { s.content with axles := put s.content.axles a x } ∧ t.frontPort = s.frontPort ∧
      t.rearPort = s.rearPort ∧ t.dup = s.dup ∧ t.strangers = s.strangers ∧ t.mgmt = s.mgmt ∧
      t.store = { s.store with changed := true } ∧ t.truckWalk = s.truckWalk ∧ t.trailerWalk = s.trailerWalk ∧
      t.vehicle.set = s.vehicle.set := by
  intro t
  obtain ⟨-, -, -, e⟩ | ⟨-, e⟩ := replaceAxle_cases a x s <;> rw [show t = _ from e]
  · have k := (dropLift_posOnly a (axlePut a x s)).reach
    exact ⟨k.time, k.content, k.frontPort, k.rearPort, k.dup, k.strangers, k.mgmt, k.store, k.truckWalk, k.trailerWalk,
      Eq.trans (congrArg Vehicle.set k.vehicle) rfl⟩
  · exact ⟨rfl, rfl, rfl, rfl, rfl, rfl, rfl, rfl, rfl, rfl, rfl⟩

theorem replaceEntry_reach (e : EntryNo) (new : Entry) (s : State) :
    PosTxChan (dropStranger new.sid (writeEntry e new s)) (replaceEntry e new s) :=
  (applyNotices_posOnly _ _ _).reach.trans (finishEvent_reach _ _ _ _)

theorem freed_reach (e : EntryNo) (s : State) (n : Notices) (touched : List Pos) :
    PosTxChan (freeEntry e s) (finishEvent s touched none (applyNotices n e (freeEntry e s))) :=
  (applyNotices_posOnly _ _ _).reach.trans (finishEvent_reach _ _ _ _)

/-- The geometry record written, before the position follows. -/
def geometryPut (p : Pos) (new : Geometry) (s : State) : State := markChanged (putGeometry p new s)

theorem fitted_reach (p : Pos) (new : Geometry) (touched : List Pos) (s : State) :
    PosTxChan (geometryPut p new s) (finishEvent s touched none (regeometry p new s)) :=
  (regeometry_posOnly p new s).reach.trans (finishEvent_reach _ _ _ _)

/-- The profile written, before the caches follow. -/
def profilePut (load : LoadState) (cls : Fin 8) (f : Profile → Profile) (s : State) : State :=
  let i := profileNo load cls
  markChanged { s with content := { s.content with profiles := put s.content.profiles i (f (pick s.content.profiles i)) } }

theorem replaceProfile_posOnly (load : LoadState) (cls : Fin 8) (f : Profile → Profile) (s : State) :
    PosOnly (profilePut load cls f s) (replaceProfile load cls f s) := rederiveCaches_posOnly _ _

theorem cleared_reach (p : Pos) (s : State) : PosTxChan s (finishEvent s [p] none (clearPos p s)) :=
  (clearPos_reach p s).trans (finishEvent_reach _ _ _ _)

theorem startUp_truckWalk (s : State) : (startUp s).truckWalk = WalkSlot.closed := by
  rw [startUp_blocks]
  rfl

theorem startUp_trailerWalk (s : State) : (startUp s).trailerWalk = WalkSlot.closed := by
  rw [startUp_blocks]
  rfl

theorem startUp_dup (s : State) : (startUp s).dup.entries = [] := by
  rw [startUp_blocks]
  rfl

theorem startUp_strangers (s : State) : (startUp s).strangers.entries = [] := by
  rw [startUp_blocks]
  rfl

theorem startUp_ports (s : State) :
    (startUp s).frontPort.framing = .hunting ∧ (startUp s).rearPort.framing = .hunting := by
  rw [startUp_blocks]
  exact ⟨rfl, rfl⟩

theorem startUp_job (s : State) : (startUp s).store.job = none := by
  rw [startUp_blocks]
  rfl

/-! ## The law of the vehicle state (R42 to R44) -/

/-- The law reads the vehicle state and the axle records. -/
theorem VehicleLaw.congr {s t : State} (h : VehicleLaw s) (vehicle : t.vehicle = s.vehicle)
    (axles : t.content.axles = s.content.axles) : VehicleLaw t := by
  unfold VehicleLaw at h ⊢
  rw [vehicle, axles]
  exact h

theorem getLsbD_foldl_bits (f : AxleNo → Bool) (l : List AxleNo) (m : BitVec 8) (i : AxleNo) :
    (l.foldl (fun m a => if f a then m ||| (1#8 <<< a.val) else m) m).getLsbD i.val =
      (m.getLsbD i.val || l.any (fun a => f a && a == i)) := by
  induction l generalizing m with
  | nil => simp
  | cons a l ih =>
    have bit : (1#8 <<< a.val).getLsbD i.val = (a == i) := by
      have := i.isLt
      have eq : (a = i) ↔ (a.val = i.val) := Fin.ext_iff
      rw [Bool.eq_iff_iff, beq_iff_eq, eq]
      simp
      omega
    rw [List.foldl_cons, ih, List.any_cons]
    cases f a
    · simp
    · simp only [if_true, BitVec.getLsbD_or, bit, Bool.or_assoc, Bool.true_and]

theorem liftableMask_getLsbD (s : State) (a : AxleNo) :
    (liftableMask s).getLsbD a.val = (pick s.content.axles a).liftable := by
  unfold liftableMask
  rw [getLsbD_foldl_bits (fun a => (pick s.content.axles a).liftable), Bool.eq_iff_iff]
  simp

theorem vehicleLaw_frame (load motion : Byte) (ambient : BitVec 16) (lift g : Byte) (s : State) :
    VehicleLaw (takeVehicleFrame load motion ambient lift g s) := by
  obtain ⟨-, content, -⟩ := takeVehicleFrame_keeps load motion ambient lift g s
  unfold VehicleLaw
  rw [takeVehicleFrame_vehicle, content]
  refine ⟨?_, fun a up => ?_, ⟨nofun, nofun⟩, nofun⟩
  · show 100 ≤ clampAmbient _ ∧ clampAmbient _ ≤ 220
    unfold clampAmbient
    omega
  · have up : (lift &&& liftableMask s).getLsbD a.val = true := up
    rw [BitVec.getLsbD_and, Bool.and_eq_true, liftableMask_getLsbD] at up
    exact up.2

/-- An axle record written over: an axle that is not liftable is not in the mask afterwards. -/
theorem vehicleLaw_axle {s : State} (law : VehicleLaw s) (a : AxleNo) (x : AxleRec) : VehicleLaw (replaceAxle a x s) := by
  obtain ⟨ambient, mask, timer, moving⟩ := law
  obtain ⟨-, content, -⟩ := replaceAxle_keeps a x s
  have axle : ∀ i, pick (put s.content.axles a x) i = if i = a then x else pick s.content.axles i :=
    fun i => pick_put _ _ _ _
  unfold VehicleLaw
  rw [content]
  obtain ⟨-, -, -, e⟩ | ⟨keeps, e⟩ := replaceAxle_cases a x s <;> rw [e]
  · rw [(dropLift_posOnly a (axlePut a x s)).vehicle]
    refine ⟨ambient, fun i up => ?_, timer, moving⟩
    have up : (liftWithout a s.vehicle.lift).getLsbD i.val = true := up
    rw [liftWithout_getLsbD, Bool.and_eq_true, decide_eq_true_eq] at up
    show (pick (put s.content.axles a x) i).liftable = true
    rw [axle, if_neg up.2]
    exact mask i up.1
  · refine ⟨ambient, fun i up => ?_, timer, moving⟩
    show (pick (put s.content.axles a x) i).liftable = true
    rw [axle]
    split
    · next h =>
      subst h
      by_contra no
      exact keeps ⟨mask i up, by simpa using no, up⟩
    · exact mask i up

theorem vehicleLaw_of_reset {s : State} (h : s.vehicle = Vehicle.reset) : VehicleLaw s := by
  unfold VehicleLaw
  rw [h]
  refine ⟨by decide, fun a up => ?_, by decide, by decide⟩
  simp [Vehicle.reset] at up

theorem Event.keeps_vehicleLaw {V : Prop} {s t : State} (e : Event V s t) (law : VehicleLaw s) : VehicleLaw t := by
  cases e with
  | same h => exact law.congr h.vehicle (congrArg Content.axles h.content)
  | port port f => exact law.congr (modPort_vehicle _ _ _) (congrArg Content.axles (modPort_content _ _ _))
  | dup d => exact law
  | records kept => exact law.congr kept.vehicle (congrArg Content.axles kept.content)
  | read e _ _ _ seq tel =>
    have k := acceptTelegram_reach e seq tel s
    exact law.congr k.vehicle k.axles
  | heard ev =>
    have k := hearStranger_reach ev s
    exact law.congr k.vehicle k.axles
  | agedOut => exact law
  | walk h kept => exact law.congr kept.vehicle (congrArg Content.axles kept.content)
  | bound h w b ev _ _ table =>
    have k := bound_readReach b w.current ev s (w.current :: b.vacated.toList) (some w.current)
    have w := bindTable_tableOnly table
    refine law.congr (k.vehicle.trans w.vehicle) ((congrArg Content.axles k.content).trans ?_)
    rw [w.content]
  | vehicle load motion ambient lift g => exact vehicleLaw_frame load motion ambient lift g s
  | stale =>
    obtain ⟨ambient, mask, -, -⟩ := law
    exact ⟨ambient, mask, ⟨fun _ => rfl, fun _ => rfl⟩, fun _ => rfl⟩
  | axle a x => exact vehicleLaw_axle law a x
  | silent p =>
    have k := silenceEvent_keeps p s
    exact law.congr k.vehicle (congrArg Content.axles k.content)
  | cleared p =>
    have k := cleared_reach p s
    exact law.congr k.vehicle (congrArg Content.axles k.content)
  | written e new =>
    have k := replaceEntry_reach e new s
    exact VehicleLaw.congr (s := dropStranger new.sid (writeEntry e new s)) law k.vehicle (congrArg Content.axles k.content)
  | freed e =>
    have k := freed_reach e s { unbind := activePlace s (entryAt s e), bind := none } (activePlace s (entryAt s e)).toList
    exact VehicleLaw.congr (s := freeEntry e s) law k.vehicle (congrArg Content.axles k.content)
  | fitted p new =>
    have k := fitted_reach p new (unfitted p (geometry s p) new) s
    exact VehicleLaw.congr (s := geometryPut p new s) law k.vehicle (congrArg Content.axles k.content)
  | profile load cls f =>
    have k := replaceProfile_posOnly load cls f s
    exact VehicleLaw.congr (s := profilePut load cls f s) law k.vehicle (congrArg Content.axles k.content)
  | setting => exact law
  | channel => exact law
  | node => exact law
  | store => exact law
  | startUp => exact vehicleLaw_of_reset (startUp_vehicle s)

/-- Settles O54: a frame, the staleness timer, an axle record and start-up are the events that touch the vehicle state or
what the law reads beside it. -/
theorem stepKeepsVehicleLaw : Obligations.StepKeepsVehicleLaw := fun _ _ law step =>
  step_keeps_of_events (P := VehicleLaw) (fun _ _ h => h) (fun _ _ h => h) (fun _ _ _ _ e h => e.keeps_vehicleLaw h) law step

/-! ## The stranger list (R32 to R36) -/

theorem findId_eq_none_iff (s : State) (sid : SensorId) :
    findId s sid = none ↔ ∀ e, (entryAt s e).valid = true → (entryAt s e).sid ≠ sid := by
  simp [findId]

/-- A list that lost entries, later, with no ID of theirs newly held by a sensor entry. -/
theorem StrangerLaw.shrink {s t : State} (law : StrangerLaw s)
    (sub : t.strangers.entries.Sublist s.strangers.entries) (time : s.time ≤ t.time)
    (ids : ∀ x ∈ t.strangers.entries, findId s x.sid = none → findId t x.sid = none) : StrangerLaw t := by
  obtain ⟨length, apart, each⟩ := law
  refine ⟨sub.length_le.trans length, apart.sublist sub, fun x hx => ?_⟩
  obtain ⟨one, cap, moving, last, unknown⟩ := each x (sub.subset hx)
  exact ⟨one, cap, moving, last.trans time, ids x hx unknown⟩

theorem StrangerLaw.congr {s t : State} (law : StrangerLaw s) (entries : t.strangers.entries = s.strangers.entries)
    (time : t.time = s.time) (sensors : t.content.sensors = s.content.sensors) : StrangerLaw t :=
  law.shrink (by rw [entries]) time.ge fun x _ unknown => by rw [findId_congr sensors, unknown]

/-- An entry heard now joins a list with room at its tail. -/
theorem StrangerLaw.join {s : State} (law : StrangerLaw s) {l : List Stranger} (sub : l.Sublist s.strangers.entries)
    (room : l.length < Config.strangerCap) {y : Stranger} (apart : ∀ a ∈ l, a.sid ≠ y.sid)
    (counts : 1 ≤ y.heard ∧ y.heard ≤ 255 ∧ y.moving ≤ y.heard) (now : y.last = s.time) (unknown : findId s y.sid = none)
    {x : StrangerList} (entries : x.entries = l ++ [y]) : StrangerLaw { s with strangers := x } := by
  obtain ⟨-, pairs, each⟩ := law
  refine ⟨?_, ?_, fun z hz => ?_⟩
  · show x.entries.length ≤ _
    rw [entries, List.length_append]
    exact Nat.succ_le_of_lt room
  · show x.entries.Pairwise _
    rw [entries]
    refine List.pairwise_append.mpr ⟨pairs.sublist sub, List.pairwise_singleton _ _, fun a ha b hb => ?_⟩
    rw [List.mem_singleton.mp hb, now]
    exact ⟨apart a ha, (each a (sub.subset ha)).2.2.2.1⟩
  · have hz : z ∈ x.entries := hz
    rw [entries] at hz
    obtain hz | hz := List.mem_append.mp hz
    · exact each z (sub.subset hz)
    · rw [List.mem_singleton.mp hz]
      exact ⟨counts.1, counts.2.1, counts.2.2, now.le, unknown⟩

theorem leastHeard_mem {xs : List Stranger} (h : xs ≠ []) : ∃ x ∈ xs, x.heard = leastHeard xs := by
  induction xs with
  | nil => exact absurd rfl h
  | cons x rest ih =>
    cases rest with
    | nil => exact ⟨x, List.mem_singleton_self x, rfl⟩
    | cons y rest =>
      have least : leastHeard (x :: y :: rest) = min x.heard (leastHeard (y :: rest)) := rfl
      by_cases le : x.heard ≤ leastHeard (y :: rest)
      · exact ⟨x, List.mem_cons_self, by omega⟩
      · obtain ⟨z, hz, e⟩ := ih (List.cons_ne_nil y rest)
        exact ⟨z, List.mem_cons_of_mem x hz, by omega⟩

theorem dropLeastHeard_length {xs : List Stranger} (h : xs ≠ []) : (dropLeastHeard xs).length + 1 = xs.length := by
  obtain ⟨x, hx, e⟩ := leastHeard_mem h
  unfold dropLeastHeard
  rw [List.length_eraseP_of_mem hx (by simp [e])]
  have := List.length_pos_of_mem hx
  omega

theorem dropLeastHeard_sublist (xs : List Stranger) : (dropLeastHeard xs).Sublist xs := List.eraseP_sublist

/-- An entry updated by evidence keeps its counts in their ranges (R33). -/
theorem heardAgain_counts (now : Nat) (moving : Bool) (ev : Evidence) {x : Stranger}
    (h : 1 ≤ x.heard ∧ x.heard ≤ 255 ∧ x.moving ≤ x.heard) :
    1 ≤ (heardAgain now moving ev x).heard ∧ (heardAgain now moving ev x).heard ≤ 255 ∧
      (heardAgain now moving ev x).moving ≤ (heardAgain now moving ev x).heard := by
  obtain ⟨one, cap, le⟩ := h
  unfold heardAgain satSucc
  cases moving
  · simp only [Bool.false_eq_true, if_false]
    omega
  · simp only [if_true]
    omega

theorem newStranger_counts (now : Nat) (moving : Bool) (ev : Evidence) :
    1 ≤ (newStranger now moving ev).heard ∧ (newStranger now moving ev).heard ≤ 255 ∧
      (newStranger now moving ev).moving ≤ (newStranger now moving ev).heard := by
  have one : 1 ≤ 255 := by decide
  cases moving
  · exact ⟨Nat.le_refl _, one, Nat.zero_le _⟩
  · exact ⟨Nat.le_refl _, one, Nat.le_refl _⟩

theorem strangerLaw_update {s : State} (law : StrangerLaw s) {x : Stranger} {ev : Evidence}
    (on : x ∈ s.strangers.entries) (same : x.sid = ev.sid) (unknown : findId s ev.sid = none) :
    StrangerLaw (updateStranger x ev s) := by
  obtain ⟨length, -, each⟩ := id law
  obtain ⟨one, cap, moving, -⟩ := each x on
  have joined : ∀ b : Bool, StrangerLaw { s with strangers := { s.strangers with
      entries := s.strangers.entries.filter (fun z => z.sid != ev.sid) ++
        [{ heardAgain s.time (isMoving s) ev x with reported := b }] } } := fun b => by
    have unknown' : findId s ({ heardAgain s.time (isMoving s) ev x with reported := b } : Stranger).sid = none := by
      rw [show ({ heardAgain s.time (isMoving s) ev x with reported := b } : Stranger).sid = ev.sid from same, unknown]
    refine law.join (y := { heardAgain s.time (isMoving s) ev x with reported := b }) List.filter_sublist ?_
      (fun a ha => ?_) (heardAgain_counts s.time (isMoving s) ev ⟨one, cap, moving⟩) rfl unknown' rfl
    · refine Nat.lt_of_lt_of_le ?_ length
      rw [List.length_filter_lt_length_iff_exists]
      exact ⟨x, on, by simp [same]⟩
    · have := (List.mem_filter.mp ha).2
      rw [show ({ heardAgain s.time (isMoving s) ev x with reported := b } : Stranger).sid = ev.sid from same]
      simpa using this
  unfold updateStranger
  dsimp only
  split
  · exact (joined _).congr rfl rfl rfl
  · exact joined _

theorem strangerLaw_add {s : State} (law : StrangerLaw s) {ev : Evidence}
    (new : ∀ x ∈ s.strangers.entries, x.sid ≠ ev.sid) (unknown : findId s ev.sid = none) :
    StrangerLaw (addStranger ev s) := by
  obtain ⟨length, -⟩ := id law
  unfold addStranger
  dsimp only
  split
  · next room => exact law.join (List.Sublist.refl _) room new (newStranger_counts _ _ _) rfl unknown rfl
  · next full =>
    have sub := dropLeastHeard_sublist s.strangers.entries
    refine law.join sub ?_ (fun a ha => new a (sub.subset ha)) (newStranger_counts _ _ _) rfl unknown rfl
    have nonempty : s.strangers.entries ≠ [] := fun e => full (by rw [e]; decide)
    have := dropLeastHeard_length nonempty
    omega

theorem strangerLaw_heard {s : State} (law : StrangerLaw s) {ev : Evidence} (unknown : findId s ev.sid = none) :
    StrangerLaw (hearStranger ev s) := by
  unfold hearStranger
  split
  · next x found =>
    exact strangerLaw_update law (List.mem_of_find?_eq_some found) (by simpa using List.find?_some found) unknown
  · next none =>
    refine strangerLaw_add law (fun x hx => ?_) unknown
    simpa using List.find?_eq_none.mp none x hx

/-- The write of an entry makes no ID known but its own, and that not where the entry held it already. -/
theorem findId_writeEntry_none {s : State} {e : EntryNo} {new : Entry} {sid : SensorId} (unknown : findId s sid = none)
    (other : new.valid = true → new.sid ≠ sid) : findId (writeEntry e new s) sid = none := by
  rw [findId_eq_none_iff] at unknown ⊢
  intro i
  rw [entryAt_writeEntry]
  split
  · exact other
  · exact unknown i

theorem findId_displace_none {s : State} {sid : SensorId} (unknown : findId s sid = none) (g : SetNo) (p : Pos) :
    findId (displace g p s) sid = none := by
  unfold displace
  split
  · exact findId_writeEntry_none unknown nofun
  · exact unknown

theorem mem_dropStranger {sid : SensorId} {s : State} {x : Stranger} (h : x ∈ (dropStranger sid s).strangers.entries) :
    x.sid ≠ sid := by
  simpa using (List.mem_filter.mp h).2

theorem dropStranger_sublist (sid : SensorId) (s : State) :
    (dropStranger sid s).strangers.entries.Sublist s.strangers.entries := List.filter_sublist ..

/-- A binding of the sensor table takes the ID it makes known off the list (R31, R36). -/
theorem strangerLaw_bindTable {s : State} (law : StrangerLaw s) {sid : SensorId} {g : SetNo} {p : Pos} {b : TableBinding}
    (table : bindTable sid g p s = some b) : StrangerLaw b.state := by
  have displaced : StrangerLaw (displace g p s) := by
    refine law.shrink ?_ (displace_tableOnly g p s).time.ge fun x _ unknown => findId_displace_none unknown g p
    unfold displace
    split <;> exact List.Sublist.refl _
  obtain ⟨e, -, -, -, rfl⟩ | ⟨e, found, -, rfl⟩ | ⟨e, -, -, rfl⟩ := bindTable_cases table
  · exact law
  · refine law.shrink ?_ (displace_tableOnly g p s).time.ge fun x _ unknown => ?_
    · unfold displace
      split <;> exact List.Sublist.refl _
    · refine findId_writeEntry_none (findId_displace_none unknown g p) fun valid => ?_
      exact (findId_eq_none_iff s _).mp unknown e valid
  · refine displaced.shrink (dropStranger_sublist _ _) (Nat.le_refl _) fun x hx unknown => ?_
    exact findId_writeEntry_none unknown fun _ => (mem_dropStranger hx).symm

theorem Event.keeps_strangerLaw {V : Prop} {s t : State} (e : Event V s t) (law : StrangerLaw s) : StrangerLaw t := by
  cases e with
  | same h => exact law.congr h.strangers h.time (congrArg Content.sensors h.content)
  | port port f =>
    exact law.congr (congrArg (·.entries) (modPort_strangers _ _ _)) (modPort_time _ _ _)
      (congrArg Content.sensors (modPort_content _ _ _))
  | dup d => exact law
  | records kept => exact law.congr (congrArg (·.entries) kept.strangers) kept.time (congrArg Content.sensors kept.content)
  | read e _ _ _ seq tel =>
    have k := acceptTelegram_readReach e seq tel s
    exact StrangerLaw.congr (s := recordAcceptance e seq s) law (congrArg (·.entries) k.strangers) k.time
      (congrArg Content.sensors k.content)
  | heard ev unknown => exact strangerLaw_heard law unknown
  | agedOut entries =>
    refine law.shrink ?_ (Nat.le_refl _) fun _ _ h => h
    rw [entries]
    exact List.sublist_cons_self _ _
  | walk h kept => exact law.congr (congrArg (·.entries) kept.strangers) kept.time (congrArg Content.sensors kept.content)
  | bound h w b ev _ _ table =>
    have k := bound_readReach b w.current ev s (w.current :: b.vacated.toList) (some w.current)
    exact (strangerLaw_bindTable law table).congr (congrArg (·.entries) k.strangers) k.time
      (congrArg Content.sensors k.content)
  | vehicle load motion ambient lift g =>
    obtain ⟨time, content, -, -, -, strangers, -⟩ := takeVehicleFrame_keeps load motion ambient lift g s
    exact law.congr (congrArg (·.entries) strangers) time (congrArg Content.sensors content)
  | stale => exact law
  | axle a x =>
    obtain ⟨time, content, -, -, -, strangers, -⟩ := replaceAxle_keeps a x s
    exact law.congr (congrArg (·.entries) strangers) time ((congrArg Content.sensors content).trans rfl)
  | silent p =>
    have k := silenceEvent_keeps p s
    exact law.congr (congrArg (·.entries) k.strangers) k.time (congrArg Content.sensors k.content)
  | cleared p =>
    have k := cleared_reach p s
    exact law.congr (congrArg (·.entries) k.strangers) k.time (congrArg Content.sensors k.content)
  | written e new =>
    have k := replaceEntry_reach e new s
    refine StrangerLaw.congr (s := dropStranger new.sid (writeEntry e new s)) ?_ (congrArg (·.entries) k.strangers) k.time
      (congrArg Content.sensors k.content)
    refine law.shrink (dropStranger_sublist _ _) (Nat.le_refl _) fun x hx unknown => ?_
    exact findId_writeEntry_none unknown fun _ => (mem_dropStranger hx).symm
  | freed e =>
    have k := freed_reach e s { unbind := activePlace s (entryAt s e), bind := none } (activePlace s (entryAt s e)).toList
    refine StrangerLaw.congr (s := freeEntry e s) ?_ (congrArg (·.entries) k.strangers) k.time
      (congrArg Content.sensors k.content)
    exact law.shrink (List.Sublist.refl _) (Nat.le_refl _) fun x _ unknown => findId_writeEntry_none unknown nofun
  | fitted p new =>
    have k := fitted_reach p new (unfitted p (geometry s p) new) s
    exact StrangerLaw.congr (s := geometryPut p new s) law (congrArg (·.entries) k.strangers) k.time
      (congrArg Content.sensors k.content)
  | profile load cls f =>
    have k := replaceProfile_posOnly load cls f s
    exact StrangerLaw.congr (s := profilePut load cls f s) law (congrArg (·.entries) k.strangers) k.time
      (congrArg Content.sensors k.content)
  | setting => exact law
  | channel => exact law
  | node => exact law
  | store => exact law
  | startUp =>
    refine ⟨?_, ?_, ?_⟩ <;> rw [startUp_strangers]
    · exact Nat.zero_le _
    · exact List.Pairwise.nil
    · exact nofun

/-- Settles O53. -/
theorem stepKeepsStrangerLaw : Obligations.StepKeepsStrangerLaw := fun _ _ law step =>
  step_keeps_of_events (P := StrangerLaw) (fun _ _ h => h)
    (fun _ _ h => h.shrink (List.Sublist.refl _) (Nat.le_succ _) fun _ _ unknown => unknown)
    (fun _ _ _ _ e h => e.keeps_strangerLaw h) law step

end Sys2Proof.Machine
end

section
/-! PROOF. The law of the stored content with walks, ports, duplicate list and store. Settles O55. -/

namespace Sys2Proof.Machine

open Sys2Proof

/-! ## The load test by its parts (R171) -/

/-- `loadTest` with a name for each part. -/
structure ContentFacts (c : Content) : Prop where
  settings : settingsOk c.settings = true
  axles : ∀ a, (pick c.axles a).margin ≤ 40
  profiles : ∀ i, profileOk (pick c.profiles i) = true
  entries : ∀ e, (pick c.sensors e).valid = true → entryOk (pick c.sensors e) = true
  apart : ∀ i j, i ≠ j → entriesClash c i j = false
  channels : ∀ k, chanOk (pick c.channels k) = true

theorem loadTest_iff (c : Content) : loadTest c = true ↔ ContentFacts c := by
  simp only [loadTest, Bool.and_eq_true, List.all_eq_true, List.mem_finRange, true_implies, decide_eq_true_eq, Bool.or_eq_true,
    Bool.not_eq_true', beq_iff_eq]
  constructor
  · rintro ⟨⟨⟨⟨⟨settings, axles⟩, profiles⟩, entries⟩, apart⟩, channels⟩
    exact ⟨settings, axles, profiles, fun e valid => (entries e).resolve_left (by simp [valid]),
      fun i j ne => (apart i j).resolve_left ne, channels⟩
  · rintro ⟨settings, axles, profiles, entries, apart, channels⟩
    refine ⟨⟨⟨⟨⟨settings, axles⟩, profiles⟩, fun e => ?_⟩, fun i j => ?_⟩, channels⟩
    · cases valid : (pick c.sensors e).valid
      · exact .inl rfl
      · exact .inr (entries e valid)
    · by_cases h : i = j
      · exact .inl h
      · exact .inr (apart i j h)

/-- Two valid entries that clash: they hold one ID, or name one place (R20). -/
def Clash (x y : Entry) : Prop := x.sid = y.sid ∨ (x.set = y.set ∧ x.pos = y.pos)

theorem entriesClash_eq_false (c : Content) (i j : EntryNo) :
    entriesClash c i j = false ↔
      ((pick c.sensors i).valid = true → (pick c.sensors j).valid = true → ¬Clash (pick c.sensors i) (pick c.sensors j)) := by
  rw [Bool.eq_false_iff, ne_eq]
  simp [entriesClash, Clash]

theorem Clash.symm {x y : Entry} (h : Clash x y) : Clash y x := by
  obtain h | ⟨h, k⟩ := h
  · exact .inl h.symm
  · exact .inr ⟨h.symm, k.symm⟩

/-- No two valid entries of a lawful content clash. -/
theorem ContentLaw.apart {s : State} (law : ContentLaw s) {i j : EntryNo} (ne : i ≠ j) (vi : (entryAt s i).valid = true)
    (vj : (entryAt s j).valid = true) : ¬Clash (entryAt s i) (entryAt s j) :=
  (entriesClash_eq_false _ i j).mp (((loadTest_iff _).mp law).apart i j ne) vi vj

theorem ContentLaw.entryOk {s : State} (law : ContentLaw s) {e : EntryNo} (valid : (entryAt s e).valid = true) :
    entryOk (entryAt s e) = true := ((loadTest_iff _).mp law).entries e valid

/-- A lawful content with an entry written that is in its ranges and clashes with no other. -/
theorem ContentLaw.writeEntry {s : State} (law : ContentLaw s) {e : EntryNo} {new : Entry}
    (ok : new.valid = true → Machine.entryOk new = true)
    (apart : new.valid = true → ∀ i, i ≠ e → (entryAt s i).valid = true → ¬Clash (entryAt s i) new) :
    ContentLaw (writeEntry e new s) := by
  have facts := (loadTest_iff _).mp law
  have at_ : ∀ i, pick (Machine.writeEntry e new s).content.sensors i = if i = e then new else entryAt s i :=
    fun i => entryAt_writeEntry e i new s
  refine (loadTest_iff _).mpr ⟨facts.settings, facts.axles, facts.profiles, fun i valid => ?_, fun i j ne => ?_,
    facts.channels⟩
  · rw [at_] at valid ⊢
    split at valid
    · next h =>
      rw [if_pos h]
      exact ok valid
    · next h =>
      rw [if_neg h]
      exact law.entryOk valid
  · rw [entriesClash_eq_false, at_, at_]
    by_cases hi : i = e
    · have hj : j ≠ e := fun h => ne (hi.trans h.symm)
      rw [if_pos hi, if_neg hj]
      exact fun vi vj clash => apart vi j hj vj clash.symm
    · rw [if_neg hi]
      by_cases hj : j = e
      · rw [if_pos hj]
        exact fun vi vj => apart vj i hi vi
      · rw [if_neg hj]
        exact law.apart ne

theorem ContentLaw.freeEntry {s : State} (law : ContentLaw s) (e : EntryNo) : ContentLaw (freeEntry e s) :=
  law.writeEntry nofun nofun

theorem ContentLaw.displace {s : State} (law : ContentLaw s) (g : SetNo) (p : Pos) : ContentLaw (displace g p s) := by
  unfold Machine.displace
  split
  · exact law.freeEntry _
  · exact law

theorem entryAt_displace {s : State} {g : SetNo} {p : Pos} {i : EntryNo} (valid : (entryAt (displace g p s) i).valid = true) :
    entryAt (displace g p s) i = entryAt s i := by
  unfold displace at valid ⊢
  split at valid
  · next d found =>
    rw [freeEntry, entryAt_writeEntry] at valid ⊢
    split at valid
    · cases valid
    · next h => rw [if_neg h]
  · rfl

/-- After the displacement no valid entry names the place (R31 step 1). -/
theorem displace_frees {s : State} (law : ContentLaw s) {g : SetNo} {p : Pos} {i : EntryNo}
    (valid : (entryAt (displace g p s) i).valid = true) : ¬((entryAt s i).set = g ∧ (entryAt s i).pos = p) := by
  intro named
  have same := entryAt_displace valid
  have held : (entryAt s i).valid = true := by rw [← same]; exact valid
  cases found : findPlace s g p with
  | none => exact findPlace_none found i ⟨held, named⟩
  | some d =>
    obtain ⟨vd, set, pos⟩ := findPlace_some found
    have ne : i ≠ d := fun h => by
      subst h
      simp [displace, found, freeEntry, Entry.free] at valid
    exact law.apart ne held vd (.inr ⟨named.1.trans set.symm, named.2.trans pos.symm⟩)

/-- An entry for a place from which another is displaced, of an ID that no other entry holds (R31). -/
theorem ContentLaw.place {s : State} (law : ContentLaw s) {e : EntryNo} {new : Entry} (ok : Machine.entryOk new = true)
    (alone : ∀ i, i ≠ e → (entryAt s i).valid = true → (entryAt s i).sid ≠ new.sid) :
    ContentLaw (Machine.writeEntry e new (Machine.displace new.set new.pos s)) := by
  refine (law.displace _ _).writeEntry (fun _ => ok) fun _ i ne valid clash => ?_
  have same := entryAt_displace valid
  have free := displace_frees law valid
  rw [same] at valid clash
  obtain sid | place := clash
  · exact alone i ne valid sid
  · exact free place

theorem placeOk_of_walk {s : State} {h : Half} {w : OpenWalk} (law : openWalkLaw s h (walkSlot s h) w) :
    placeOk w.target w.current.val = true := by
  obtain ⟨target, -, -, -, -, -, -, half, -⟩ := law
  cases h with
  | truck =>
    have zero : w.target = 0 := target
    unfold halfOf at half
    split at half
    · next low => simp [placeOk, zero, low]
    · cases half
  | trailer =>
    obtain ⟨-, other⟩ := target
    unfold halfOf at half
    split at half
    · cases half
    · next high => simpa [placeOk, other] using high

/-- A binding of a walk keeps the content lawful (R31, R20). -/
theorem contentLaw_bindTable {s : State} (law : ContentLaw s) {sid : SensorId} (sound : soundId sid) {g : SetNo} {p : Pos}
    (inSet : placeOk g p.val = true) {b : TableBinding} (table : bindTable sid g p s = some b) : ContentLaw b.state := by
  obtain ⟨e, -, -, -, rfl⟩ | ⟨e, found, -, rfl⟩ | ⟨e, unknown, -, rfl⟩ := bindTable_cases table
  · exact law
  · obtain ⟨valid, -⟩ := findId_some found
    have ok := law.entryOk valid
    refine law.place (new := { entryAt s e with set := g, pos := p }) ?_ fun i ne vi same => ?_
    · simp only [entryOk, Bool.and_eq_true] at ok ⊢
      exact ⟨⟨⟨ok.1.1.1, inSet⟩, ok.1.2⟩, ok.2⟩
    · exact law.apart ne vi valid (.inl same)
  · refine law.place (new := { valid := true, sid := sid, set := g, pos := p, offset := 0 }) ?_ fun i _ vi =>
      (findId_eq_none_iff s sid).mp unknown i vi
    simp only [entryOk, Bool.and_eq_true, bne_iff_ne, decide_eq_true_eq]
    exact ⟨⟨⟨⟨sound.1, sound.2⟩, inSet⟩, by decide⟩, by decide⟩

/-! ## Walk slots, ports, duplicate list and store under a change elsewhere -/

theorem slotLaw_congr {s t : State} {h : Half} (law : slotLaw s h) (slot : walkSlot t h = walkSlot s h)
    (set : h = .trailer → (walkSlot s h).walk ≠ none → t.vehicle.set = s.vehicle.set)
    (geo : ∀ w, (walkSlot s h).walk = some w → (geometry t w.current).fitted = (geometry s w.current).fitted) :
    slotLaw t h := by
  unfold slotLaw at law ⊢
  rw [slot]
  cases e : (walkSlot s h).walk with
  | none =>
    rw [e] at law
    exact law
  | some w =>
    rw [e] at law set
    obtain ⟨target, rest⟩ := law
    refine ⟨?_, ?_⟩
    · cases h with
      | truck => exact target
      | trailer => exact (targetLaw_congr (set rfl nofun) .trailer _).mpr target
    · rw [geo w e]
      exact rest

theorem WalkLaw.slot {s : State} (law : WalkLaw s) (h : Half) : slotLaw s h := by
  cases h
  · exact law.1
  · exact law.2

theorem WalkLaw.congr {s t : State} (law : WalkLaw s) (truck : t.truckWalk = s.truckWalk)
    (trailer : t.trailerWalk = s.trailerWalk) (set : t.vehicle.set = s.vehicle.set)
    (geo : t.content.geometry = s.content.geometry) : WalkLaw t :=
  ⟨slotLaw_congr law.1 truck (fun _ _ => set) fun _ _ => by rw [geometry_congr geo],
   slotLaw_congr law.2 trailer (fun _ _ => set) fun _ _ => by rw [geometry_congr geo]⟩

theorem DupLaw.congr {s t : State} (law : DupLaw s) (entries : t.dup.entries = s.dup.entries) (time : s.time ≤ t.time) :
    DupLaw t := by
  unfold DupLaw at law ⊢
  rw [entries]
  obtain ⟨length, apart, each⟩ := law
  refine ⟨length, apart, fun e he => ?_⟩
  obtain ⟨zero, ones, arrived, ports⟩ := each e he
  exact ⟨zero, ones, arrived.trans time, ports⟩

theorem StoreLaw.congr {s t : State} (law : StoreLaw s) (time : t.time = s.time)
    (node : t.content.settings.node = s.content.settings.node) (image : t.store.image = s.store.image)
    (job : t.store.job = s.store.job) (inForce : t.mgmt.nodeInForce = s.mgmt.nodeInForce)
    (pending : t.mgmt.nodePending = s.mgmt.nodePending) : StoreLaw t := by
  unfold StoreLaw at law ⊢
  rw [time, node, image, job, inForce, pending]
  exact law

theorem PortLaw.congr {s t : State} (law : PortLaw s) (time : s.time ≤ t.time)
    (front : t.frontPort.framing = s.frontPort.framing) (rear : t.rearPort.framing = s.rearPort.framing) : PortLaw t := by
  have later : ∀ {x y : PortState}, y.framing = x.framing → portLaw s.time x → portLaw t.time y := fun {x y} e h => by
    unfold portLaw at h ⊢
    rw [e]
    cases hf : x.framing with
    | hunting => trivial
    | collecting bytes escape due =>
      rw [hf] at h
      exact ⟨h.1, h.2.trans (Nat.add_le_add_right time 5)⟩
  exact ⟨later front law.1, later rear law.2⟩

theorem ConfiguredLaw.same {s t : State} (law : ConfiguredLaw s) (h : Same s t) : ConfiguredLaw t := by
  obtain ⟨content, walks, dup, store, ports⟩ := law
  refine ⟨?_, walks.congr h.truckWalk h.trailerWalk (by rw [h.vehicle]) (by rw [h.content]), dup.congr h.dup h.time.ge,
    store.congr h.time (by rw [h.content]) h.image h.job h.node h.nodePending, ports.congr h.time.ge h.front h.rear⟩
  unfold ContentLaw
  rw [h.content]
  exact content

/-- What a reading and its frames reach is no part of the law. -/
theorem ConfiguredLaw.read {s t : State} (law : ConfiguredLaw s) (h : ReadReach s t) : ConfiguredLaw t := by
  obtain ⟨content, walks, dup, store, ports⟩ := law
  refine ⟨?_, walks.congr h.truckWalk h.trailerWalk (by rw [h.vehicle]) (by rw [h.content]),
    dup.congr (congrArg (·.entries) h.dup) h.time.ge,
    store.congr h.time (by rw [h.content]) (congrArg (·.image) h.store) (congrArg (·.job) h.store) h.nodeInForce h.nodePending,
    ports.congr h.time.ge (congrArg (·.framing) h.frontPort) (congrArg (·.framing) h.rearPort)⟩
  unfold ContentLaw
  rw [h.content]
  exact content

theorem ConfiguredLaw.reach {s t : State} (law : ConfiguredLaw s) (h : PosTxChan s t) : ConfiguredLaw t :=
  law.read h.toReadReach

/-- A change of sensor entries that leaves the content lawful. -/
theorem ConfiguredLaw.table {s t : State} (law : ConfiguredLaw s) (h : TableOnly s t) (content : ContentLaw t) :
    ConfiguredLaw t := by
  obtain ⟨-, walks, dup, store, ports⟩ := law
  refine ⟨content, walks.congr h.truckWalk h.trailerWalk (by rw [h.vehicle]) (by rw [h.content]),
    dup.congr (congrArg (·.entries) h.dup) h.time.ge,
    store.congr h.time (by rw [h.content]) (by rw [h.store]) (by rw [h.store]) (by rw [h.mgmt]) (by rw [h.mgmt]),
    ports.congr h.time.ge (congrArg (·.framing) h.frontPort) (congrArg (·.framing) h.rearPort)⟩

/-! ## The events that change it -/

theorem clashes_eq_false {s : State} {e : EntryNo} {new : Entry} (h : clashes s e new = false) {i : EntryNo} (ne : i ≠ e)
    (valid : (entryAt s i).valid = true) : ¬Clash (entryAt s i) new := by
  intro clash
  have : clashes s e new = true := by
    rw [clashes, List.any_eq_true]
    refine ⟨i, List.mem_finRange i, ?_⟩
    obtain sid | ⟨set, pos⟩ := clash
    · simp [ne, valid, sid]
    · simp [ne, valid, set, pos]
  rw [h] at this
  cases this

theorem configuredLaw_written {s : State} (law : ConfiguredLaw s) {e : EntryNo} {new : Entry} (ok : entryOk new = true)
    (free : clashes s e new = false) : ConfiguredLaw (replaceEntry e new s) := by
  refine ConfiguredLaw.reach (law.table ((writeEntry_tableOnly e new s).trans (dropStranger_tableOnly _ _)) ?_)
    (replaceEntry_reach e new s)
  exact law.1.writeEntry (fun _ => ok) fun _ i ne valid => clashes_eq_false free ne valid

theorem configuredLaw_bound {s : State} (law : ConfiguredLaw s) {h : Half} {w : OpenWalk} {b : TableBinding} {ev : Evidence}
    (sound : soundId ev.sid) (walk : (walkSlot s h).walk = some w)
    (table : bindTable ev.sid w.target w.current s = some b) (before : State) (touched : List Pos) (sample : Option Pos) :
    ConfiguredLaw (finishEvent before touched sample (bindAndRead b w.current ev)) := by
  have open_ := openWalkLaw_of_slotLaw walk (law.slot h)
  refine (law.table (bindTable_tableOnly table) ?_).read (bound_readReach b w.current ev before touched sample)
  exact contentLaw_bindTable law.1 sound (placeOk_of_walk open_) table

/-- A position written in a half without a walk: the walk of the other half stands elsewhere (R52). -/
theorem configuredLaw_fitted {s : State} (law : ConfiguredLaw s) {p : Pos} {new : Geometry}
    (closed : walkOpen s (halfOf p) = false) (touched : List Pos) :
    ConfiguredLaw (finishEvent s touched none (regeometry p new s)) := by
  refine ConfiguredLaw.reach ?_ (fitted_reach p new touched s)
  obtain ⟨content, walks, dup, store, ports⟩ := law
  have slot : ∀ h, slotLaw (geometryPut p new s) h := fun h => by
    refine slotLaw_congr (walks.slot h) (by cases h <;> rfl) (fun _ _ => rfl) fun w walk => ?_
    have ne : w.current ≠ p := fun e => by
      obtain ⟨-, -, -, -, -, -, -, half, -⟩ := openWalkLaw_of_slotLaw walk (walks.slot h)
      rw [e] at half
      rw [half, walkOpen, walk] at closed
      cases closed
    exact congrArg Geometry.fitted (pick_put_ne _ _ ne)
  exact ⟨content, ⟨slot .truck, slot .trailer⟩, dup, store, ports⟩

/-- A frame keeps the walk of the truck, and ends that of the trailer where the attached set changes (R144). -/
theorem configuredLaw_vehicle {s : State} (law : ConfiguredLaw s) (load motion : Byte) (ambient : BitVec 16) (lift g : Byte) :
    ConfiguredLaw (takeVehicleFrame load motion ambient lift g s) := by
  obtain ⟨content, walks, dup, store, ports⟩ := law
  obtain ⟨time, same, front, rear, dups, -, mgmt, stores, truck⟩ := takeVehicleFrame_keeps load motion ambient lift g s
  have vehicle := takeVehicleFrame_vehicle load motion ambient lift g s
  refine ⟨?_, ⟨?_, ?_⟩, dup.congr (congrArg (·.entries) dups) time.ge,
    store.congr time (by rw [same]) (by rw [stores]) (by rw [stores]) (by rw [mgmt]) (by rw [mgmt]),
    ports.congr time.ge (congrArg (·.framing) front) (congrArg (·.framing) rear)⟩
  · unfold ContentLaw
    rw [same]
    exact content
  · exact slotLaw_congr walks.1 truck nofun fun _ _ => by rw [geometry_congr (congrArg Content.geometry same)]
  · obtain ⟨set, e⟩ | ⟨-, e⟩ := takeVehicleFrame_cases load motion ambient lift g s
    · refine slotLaw_congr walks.2 ?_ (fun _ _ => ?_) fun _ _ => by rw [geometry_congr (congrArg Content.geometry same)]
      · rw [e]
        exact (announced_posOnly load motion ambient lift g s).trailerWalk
      · rw [vehicle]
        exact set.symm
    · have k := rederivedTrailer_reach load motion ambient lift g s
      rw [e]
      generalize finishEvent s trailerPositions none (rederiveTrailer (announced load motion ambient lift g s)) = u at k
      have slot : walkSlot u .trailer = walkSlot s .trailer := k.trailerWalk
      unfold endWalkIfOpen
      split
      · next isOpen =>
        obtain ⟨w, walk⟩ := walkOpen_some isOpen
        rw [slot] at walk
        have open_ := openWalkLaw_of_slotLaw walk walks.2
        have counted := open_.counted
        have length := open_.block.length_le
        refine slotLaw_of_closed (by rw [walkSlot_finishWalk]) ?_
        rw [walkSlot_finishWalk, slot]
        show (walkSlot s .trailer).bound ≤ 16
        omega
      · next shut =>
        have none : (walkSlot s .trailer).walk = none := by
          rw [← slot]
          simpa [walkOpen] using shut
        have bound := walks.2
        rw [slotLaw, none] at bound
        refine slotLaw_of_closed ?_ ?_ <;> rw [slot]
        · exact none
        · exact bound

theorem imageValid_loadTest {i : Image} (h : imageValid i = true) : loadTest i.content = true := by
  simp only [imageValid, Bool.and_eq_true] at h
  exact h.2

theorem loadTest_loadedContent (i : Image) : loadTest (loadedContent i) = true := by
  unfold loadedContent
  split
  · next valid => exact imageValid_loadTest valid
  · exact loadTest_unconfigured

/-- Lawful content with nothing open, listed, stored or pending. -/
theorem configuredLaw_of_start {t : State} (content : ContentLaw t) (truck : t.truckWalk = WalkSlot.closed)
    (trailer : t.trailerWalk = WalkSlot.closed) (dup : t.dup.entries = []) (job : t.store.job = none)
    (pending : t.mgmt.nodePending = none) (inForce : t.mgmt.nodeInForce = t.content.settings.node)
    (ports : t.frontPort.framing = .hunting ∧ t.rearPort.framing = .hunting) : ConfiguredLaw t := by
  have slot : ∀ h, walkSlot t h = WalkSlot.closed := fun h => by
    cases h
    · exact truck
    · exact trailer
  have each : ∀ h, slotLaw t h := fun h =>
    slotLaw_of_closed (by rw [slot]; rfl) (by rw [slot]; exact Nat.zero_le _)
  refine ⟨content, ⟨each .truck, each .trailer⟩, ?_, ?_, ?_⟩
  · unfold DupLaw
    rw [dup]
    exact ⟨Nat.zero_le _, List.Pairwise.nil, nofun⟩
  · unfold StoreLaw
    rw [job, pending, inForce]
    exact ⟨nofun, nofun, nofun, content.node⟩
  · unfold PortLaw portLaw
    rw [ports.1, ports.2]
    exact ⟨trivial, trivial⟩

theorem configuredLaw_startUp (s : State) : ConfiguredLaw (startUp s) := by
  have content : ContentLaw (startUp s) := by
    unfold ContentLaw
    rw [startUp_content]
    exact loadTest_loadedContent _
  have pending : (startUp s).mgmt.nodePending = none := by rw [startUp_mgmt]
  have inForce : (startUp s).mgmt.nodeInForce = (startUp s).content.settings.node := by rw [startUp_mgmt]
  exact configuredLaw_of_start content (startUp_truckWalk s) (startUp_trailerWalk s) (startUp_dup s) (startUp_job s) pending
    inForce (startUp_ports s)

/-- Evidence writes the stranger list, and may place a notice. -/
theorem hearStranger_txChan (ev : Evidence) (s : State) : ∃ x, TxChan { s with strangers := x } (hearStranger ev s) := by
  unfold hearStranger
  split
  · unfold updateStranger
    dsimp only
    split
    · exact ⟨_, placeService_reach _ _⟩
    · exact ⟨_, TxChan.refl _⟩
  · unfold addStranger
    dsimp only
    split <;> exact ⟨_, TxChan.refl _⟩

theorem Event.keeps_configuredLaw {V : Prop} (v : V) {s t : State} (e : Event V s t) (law : ConfiguredLaw s) :
    ConfiguredLaw t := by
  obtain ⟨content, walks, dup, store, ports⟩ := id law
  have facts := (loadTest_iff _).mp content
  cases e with
  | same h => exact law.same h
  | port port f ok =>
    cases port with
    | front => exact ⟨content, walks, dup, store, ok ports.1, ports.2⟩
    | rear => exact ⟨content, walks, dup, store, ports.1, ok ports.2⟩
  | dup d ok => exact ⟨content, walks, ok v dup, store, ports⟩
  | records kept => exact law.reach kept
  | read e _ _ _ seq tel =>
    exact ConfiguredLaw.read (s := recordAcceptance e seq s) law (acceptTelegram_readReach e seq tel s)
  | heard ev =>
    obtain ⟨x, k⟩ := hearStranger_txChan ev s
    exact ConfiguredLaw.reach (s := { s with strangers := x }) law k.toPosTxChan
  | agedOut => exact law
  | walk h kept ok =>
    refine ⟨?_, ?_, dup.congr (by rw [kept.dup]) kept.time.ge,
      store.congr kept.time (by rw [kept.content]) (by rw [kept.store]) (by rw [kept.store]) (by rw [kept.mgmt])
        (by rw [kept.mgmt]),
      ports.congr kept.time.ge (by rw [kept.frontPort]) (by rw [kept.rearPort])⟩
    · unfold ContentLaw
      rw [kept.content]
      exact content
    · have each : ∀ k, slotLaw t k := fun k => by
        by_cases hk : k = h
        · rw [hk]
          exact ok law
        · exact slotLaw_congr (walks.slot k) (kept.other k hk) (fun _ _ => by rw [kept.vehicle]) fun _ _ => by
            rw [geometry_congr (congrArg Content.geometry kept.content)]
      exact ⟨each .truck, each .trailer⟩
  | bound h w b ev sound walk table => exact configuredLaw_bound law (sound v) walk table s _ _
  | vehicle load motion ambient lift g => exact configuredLaw_vehicle law load motion ambient lift g
  | stale => exact law
  | axle a x ok =>
    obtain ⟨time, same, front, rear, dups, -, mgmt, stores, truck, trailer, set⟩ := replaceAxle_keeps a x s
    refine ⟨?_, walks.congr truck trailer set (by rw [same]), dup.congr (by rw [dups]) time.ge,
      store.congr time (by rw [same]) (by rw [stores]) (by rw [stores]) (by rw [mgmt]) (by rw [mgmt]),
      ports.congr time.ge (by rw [front]) (by rw [rear])⟩
    unfold ContentLaw
    rw [same]
    refine (loadTest_iff _).mpr { facts with axles := fun i => ?_ }
    rw [pick_put]
    split
    · exact ok
    · exact facts.axles i
  | silent p => exact law.reach (silenceEvent_keeps p s)
  | cleared p => exact law.reach (cleared_reach p s)
  | written e new _ ok free => exact configuredLaw_written law ok free
  | freed e =>
    exact ConfiguredLaw.reach (law.table (writeEntry_tableOnly e _ s) (content.freeEntry e)) (freed_reach e s _ _)
  | fitted p new closed => exact configuredLaw_fitted law closed _
  | profile load cls f ok =>
    refine ConfiguredLaw.reach (s := profilePut load cls f s) ⟨?_, walks, dup, store, ports⟩
      (replaceProfile_posOnly load cls f s).reach
    refine (loadTest_iff _).mpr { facts with profiles := fun i => ?_ }
    show profileOk (pick (put s.content.profiles _ _) i) = true
    rw [pick_put]
    split
    · exact ok _ (facts.profiles _)
    · exact facts.profiles i
  | setting f node ok =>
    refine ⟨(loadTest_iff _).mpr { facts with settings := ok _ facts.settings }, walks, dup, ?_, ports⟩
    exact store.congr rfl (node _) rfl rfl rfl rfl
  | channel c f ok =>
    refine ⟨(loadTest_iff _).mpr { facts with channels := fun k => ?_ }, walks, dup, store, ports⟩
    show chanOk (pick (put s.content.channels c (f (chanConfig s c))) k) = true
    rw [pick_put]
    split
    · exact ok _ (facts.channels c)
    · exact facts.channels k
  | node n m ok =>
    obtain ⟨low, pending, inForce⟩ := ok law
    have settings := (settingsOk_iff _).mp facts.settings
    refine ⟨(loadTest_iff _).mpr { facts with settings := (settingsOk_iff _).mpr ?_ }, walks, dup,
      ⟨store.1, store.2.1, pending, inForce⟩, ports⟩
    obtain ⟨a, b, c, d, e, f, -, g⟩ := settings
    exact ⟨a, b, c, d, e, f, low, g⟩
  | store x ok => exact ⟨content, walks, dup, ⟨ok.1, ok.2, store.2.2⟩, ports⟩
  | startUp => exact configuredLaw_startUp s

/-- No millisecond passes over a store that has taken its longest time (R172). -/
theorem configuredLaw_tick {s : State} (quiet : dueEvents s = []) (law : ConfiguredLaw s) : ConfiguredLaw (tick s) := by
  obtain ⟨content, walks, dup, ⟨marked, latest, pending, inForce⟩, ports⟩ := law
  refine ⟨content, walks, dup.congr rfl (Nat.le_succ _), ⟨marked, fun job running => ?_, pending, inForce⟩,
    ports.congr (Nat.le_succ _) rfl rfl⟩
  have running : s.store.job = some job := running
  obtain ⟨reached, bounded⟩ := latest job running
  have early : ¬job.latest ≤ s.time := fun due => by
    have := (storeDue_iff s .matches).mpr ⟨job, running, due⟩
    rw [storeDue_of_idle_tick quiet] at this
    cases this
  show s.time + 1 ≤ job.latest ∧ job.latest ≤ s.time + 1 + 600
  omega

/-- Settles O55. -/
theorem stepKeepsConfiguredLaw : Obligations.StepKeepsConfiguredLaw := fun _ _ law step =>
  step_keeps_of_events (P := ConfiguredLaw) (fun _ _ h => h) (fun _ => configuredLaw_tick)
    (fun _ start _ _ e h => e.keeps_configuredLaw start.2.2.1 h) law step

end Sys2Proof.Machine
end

section
/-! PROOF. The law of bindings: a position holds exactly the valid active entry that names it. Settles O56. -/

namespace Sys2Proof.Machine

open Sys2Proof

/-! ## Entries of active sets and the positions they name -/

/-- Whether entry e is valid, of an active set, and names position p (R21, R53). -/
def Names (s : State) (e : EntryNo) (p : Pos) : Prop :=
  (entryAt s e).valid = true ∧ isActive s (entryAt s e).set = true ∧ (entryAt s e).pos = p

theorem entryFor_congr_names {s t : State} {p : Pos} (h : ∀ e, Names t e p ↔ Names s e p) : entryFor t p = entryFor s p := by
  unfold entryFor
  refine congrArg (fun f => (List.finRange 48).find? f) (funext fun e => ?_)
  rw [Bool.eq_iff_iff]
  simpa [Names, and_assoc] using h e

theorem entryFor_none_of {s : State} {p : Pos} (h : ∀ e, ¬Names s e p) : entryFor s p = none :=
  List.find?_eq_none.mpr fun e _ => by simpa [Names, and_assoc] using h e

/-- A set that allows a position: 0 in the truck half, another in the trailer half (R19). -/
theorem ContentLaw.set_zero_iff {s : State} (law : ContentLaw s) {e : EntryNo} (valid : (entryAt s e).valid = true) :
    (entryAt s e).set = 0 ↔ (entryAt s e).pos.val < 16 := by
  have ok := law.entryOk valid
  simp only [Machine.entryOk, Bool.and_eq_true] at ok
  have place := ok.1.1.2
  unfold placeOk at place
  split at place
  · next zero => exact ⟨fun _ => of_decide_eq_true place, fun _ => zero⟩
  · next other =>
    have high := (of_decide_eq_true place).1
    exact ⟨fun zero => absurd zero other, fun low => absurd low (by omega)⟩

/-- No two entries of active sets name one position (R20, R21). -/
theorem Names.unique {s : State} (law : ContentLaw s) {i j : EntryNo} {p : Pos} (hi : Names s i p) (hj : Names s j p) :
    i = j := by
  obtain ⟨vi, ai, pi⟩ := hi
  obtain ⟨vj, aj, pj⟩ := hj
  by_contra ne
  refine law.apart ne vi vj (.inr ⟨?_, pi.trans pj.symm⟩)
  have zi := law.set_zero_iff vi
  have zj := law.set_zero_iff vj
  rw [pi] at zi
  rw [pj] at zj
  by_cases low : p.val < 16
  · rw [zi.mpr low, zj.mpr low]
  · simp only [isActive, Bool.or_eq_true, beq_iff_eq] at ai aj
    exact (ai.resolve_left fun z => low (zi.mp z)).trans (aj.resolve_left fun z => low (zj.mp z)).symm

theorem entryFor_of_names {s : State} (law : ContentLaw s) {e : EntryNo} {p : Pos} (h : Names s e p) : entryFor s p = some e := by
  cases found : entryFor s p with
  | none => exact absurd h (entryFor_none found e)
  | some d => rw [Names.unique law h (entryFor_some found)]

/-! ## Seats: the state and the bound entry of a record -/

/-- The two records hold one state and one bound entry. -/
def SameSeat (r t : PosRec) : Prop := t.state = r.state ∧ t.bound = r.bound

theorem SameSeat.refl (r : PosRec) : SameSeat r r := ⟨rfl, rfl⟩

theorem SameSeat.trans {r t u : PosRec} (h : SameSeat r t) (k : SameSeat t u) : SameSeat r u :=
  ⟨k.1.trans h.1, k.2.trans h.2⟩

theorem Mild.seat {r t : PosRec} (h : Mild r t) : SameSeat r t := ⟨h.state, h.bound⟩

theorem besideLeavers_seat (s : State) (left : List Pos) (q : Pos) : SameSeat (posRec s q) (besideLeavers s left q) := by
  obtain h | h := besideLeavers_cases s left q <;> rw [h] <;> exact ⟨rfl, rfl⟩

theorem unbindPos_seat_other {p q : Pos} (s : State) (h : q ≠ p) : SameSeat (posRec s q) (posRec (unbindPos p s) q) := by
  cases bound : hasBinding (posRec s p).state with
  | true =>
    rw [unbindPos_beside bound h]
    exact besideLeavers_seat s [p] q
  | false =>
    rw [unbindPos_of_unbound bound]
    exact SameSeat.refl _

theorem bindPos_seat_other {p q : Pos} (e : EntryNo) (s : State) (h : q ≠ p) :
    SameSeat (posRec s q) (posRec (bindPos p e s) q) := by
  cases bound : hasBinding (posRec s p).state with
  | true =>
    rw [bindPos_beside bound e h]
    exact besideLeavers_seat s [p] q
  | false =>
    cases state : (posRec s p).state with
    | vacant =>
      rw [bindPos_of_vacant state]
      exact SameSeat.refl _
    | unbound =>
      rw [bindPos_of_unbound state, setBinding, posRec_modPos_ne _ _ h]
      exact SameSeat.refl _
    | waiting | live | silent => simp [state, hasBinding] at bound

theorem setBinding_seat_other {p q : Pos} (st : PosState) (e : Option EntryNo) (s : State) (h : q ≠ p) :
    SameSeat (posRec s q) (posRec (setBinding p st e s) q) := by
  rw [setBinding, posRec_modPos_ne _ _ h]
  exact SameSeat.refl _

theorem judgeTwin_seat (p q : Pos) (s : State) : SameSeat (posRec s q) (posRec (judgeTwin p s) q) := by
  obtain h | ⟨-, h | h⟩ := judgeTwin_posRec p q s <;> rw [h] <;> exact ⟨rfl, rfl⟩

/-! ## The law at one position -/

/-- A record fits a position that is fitted or not, under the entry that names it. -/
def seated (fitted : Bool) (e : Option EntryNo) (r : PosRec) : Prop :=
  (r.state = .vacant ↔ fitted = false) ∧ r.bound = (if fitted then e else none) ∧ hasBinding r.state = r.bound.isSome

theorem bindingLawAt_iff (s : State) (p : Pos) :
    bindingLawAt s p ↔ seated (geometry s p).fitted (entryFor s p) (posRec s p) := Iff.rfl

section Seated

variable {fitted : Bool} {e : Option EntryNo} {r t : PosRec}

theorem seated.congr (h : seated fitted e r) (same : SameSeat r t) : seated fitted e t := by
  unfold seated at h ⊢
  rw [same.1, same.2]
  exact h

/-- A record that holds a binding stands at a fitted position that an entry names. -/
theorem seated.bound (h : seated fitted e r) (bound : hasBinding r.state = true) :
    fitted = true ∧ ∃ i, e = some i ∧ r.bound = some i := by
  obtain ⟨vacant, entry, held⟩ := h
  rw [bound] at held
  cases fitted with
  | false =>
    rw [vacant.mpr rfl] at bound
    cases bound
  | true =>
    obtain ⟨i, hi⟩ := Option.isSome_iff_exists.mp held.symm
    exact ⟨rfl, i, by rw [← hi]; exact entry.symm, hi⟩

/-- A fitted position that an entry names holds the binding. -/
theorem seated.named {i : EntryNo} (h : seated fitted (some i) r) (placed : r.state ≠ .vacant) :
    fitted = true ∧ hasBinding r.state = true ∧ r.bound = some i := by
  obtain ⟨vacant, entry, held⟩ := h
  cases fitted with
  | false => exact absurd (vacant.mpr rfl) placed
  | true => exact ⟨rfl, by rw [held, entry]; rfl, entry⟩

theorem seated_unbound (placed : fitted = true) (state : t.state = .unbound) (bound : t.bound = none) :
    seated fitted none t := by
  subst placed
  refine ⟨by simp [state], by simp [bound], by simp [state, bound, hasBinding]⟩

theorem seated_bound {i : EntryNo} (placed : fitted = true) (state : hasBinding t.state = true) (bound : t.bound = some i) :
    seated fitted (some i) t := by
  subst placed
  refine ⟨⟨fun h => ?_, nofun⟩, bound, by rw [state, bound]; rfl⟩
  rw [h] at state
  cases state

theorem seated_vacant (h : fitted = false) (state : t.state = .vacant) (bound : t.bound = none) : seated fitted e t := by
  subst h
  exact ⟨by simp [state], by simp [bound], by simp [state, bound, hasBinding]⟩

end Seated

/-- An unbind notice takes the entry off a position (R59). -/
theorem seated_unbindPos {s : State} {q : Pos} {fitted : Bool} {e : Option EntryNo} (h : seated fitted e (posRec s q)) :
    seated fitted none (posRec (unbindPos q s) q) := by
  cases bound : hasBinding (posRec s q).state with
  | true =>
    obtain ⟨placed, -⟩ := h.bound bound
    rw [unbindPos_bound_self bound]
    exact seated_unbound placed rfl rfl
  | false =>
    rw [unbindPos_of_unbound bound]
    obtain ⟨vacant, entry, held⟩ := h
    rw [bound] at held
    have none : (posRec s q).bound = none := by simpa using held.symm
    exact ⟨vacant, by rw [none]; split <;> rfl, by rw [bound, none]; rfl⟩

/-- A bind notice puts the entry on a position (R58). -/
theorem seated_bindPos {s : State} {q : Pos} {fitted : Bool} {e : Option EntryNo} (h : seated fitted e (posRec s q))
    (i : EntryNo) : seated fitted (some i) (posRec (bindPos q i s) q) := by
  by_cases state : (posRec s q).state = .vacant
  · obtain ⟨vacant, entry, -⟩ := h
    have unfit := vacant.mp state
    rw [bindPos_of_vacant state]
    refine seated_vacant unfit state ?_
    rw [entry, unfit]
    rfl
  · have placed : fitted = true := by
      cases fitted with
      | true => rfl
      | false => exact absurd (h.1.mpr rfl) state
    have self := bindPos_self (e := i) state
    exact seated_bound placed (by rw [self]; rfl) (by rw [self])

/-! ## Entries written, with their notices (R28, R58, R59) -/

theorem activePlace_eq_some {s : State} {x : Entry} {p : Pos} :
    activePlace s x = some p ↔ x.valid = true ∧ isActive s x.set = true ∧ x.pos = p := by
  unfold activePlace
  split
  · next h =>
    rw [Bool.and_eq_true] at h
    simp [h.1, h.2]
  · next h =>
    rw [Bool.and_eq_true] at h
    simp only [reduceCtorEq, false_iff]
    exact fun k => h ⟨k.1, k.2.1⟩

/-- What entries name after one is written: the written one what it says, the others what they did. -/
theorem names_written {s t : State} {e : EntryNo} {new : Entry}
    (sensors : t.content.sensors = put s.content.sensors e new) (set : t.vehicle.set = s.vehicle.set) (i : EntryNo) (p : Pos) :
    Names t i p ↔ if i = e then activePlace s new = some p else Names s i p := by
  have at_ : entryAt t i = if i = e then new else entryAt s i := by
    rw [entryAt, sensors, pick_put]
    rfl
  unfold Names
  rw [at_, isActive_congr set]
  split
  · exact activePlace_eq_some.symm
  · rfl

/-- The entry that names a position after one is written: the written one, none where it left it, or as before. -/
theorem entryFor_written {s t : State} (law : ContentLaw s) (lawful : ContentLaw t) {e : EntryNo} {new : Entry}
    (sensors : t.content.sensors = put s.content.sensors e new) (set : t.vehicle.set = s.vehicle.set) (p : Pos) :
    (activePlace s new = some p → entryFor t p = some e) ∧
    (activePlace s new ≠ some p → activePlace s (entryAt s e) = some p → entryFor t p = none) ∧
    (activePlace s new ≠ some p → activePlace s (entryAt s e) ≠ some p → entryFor t p = entryFor s p) := by
  have names := fun i => names_written sensors set i p
  refine ⟨fun here => ?_, fun away was => ?_, fun away never => ?_⟩
  · exact entryFor_of_names lawful ((names e).mpr (by rw [if_pos rfl]; exact here))
  · refine entryFor_none_of fun i h => ?_
    have h := (names i).mp h
    split at h
    · exact away h
    · next ne => exact ne (Names.unique law h (activePlace_eq_some.mp was))
  · refine entryFor_congr_names fun i => ?_
    rw [names]
    split
    · next h =>
      subst h
      exact ⟨fun k => absurd k away, fun k => absurd (activePlace_eq_some.mpr k) never⟩
    · rfl

/-- The notices of a write of entry e (R28), by position. -/
theorem seated_applyNotices {s : State} (n : Notices) (e : EntryNo) {p : Pos} {fitted : Bool} {before after : Option EntryNo}
    (h : seated fitted before (posRec s p)) (bind : n.bind = some p → after = some e)
    (unbind : n.bind ≠ some p → n.unbind = some p → after = none)
    (keep : n.bind ≠ some p → n.unbind ≠ some p → after = before) :
    seated fitted after (posRec (applyNotices n e s) p) := by
  have unbound : ∃ x, seated fitted x (posRec (match n.unbind with | some q => unbindPos q s | none => s) p) ∧
      (n.unbind = some p → x = none) ∧ (n.unbind ≠ some p → x = before) := by
    cases hu : n.unbind with
    | none => exact ⟨before, h, nofun, fun _ => rfl⟩
    | some q =>
      by_cases hq : p = q
      · subst hq
        exact ⟨none, seated_unbindPos h, fun _ => rfl, fun k => absurd rfl k⟩
      · exact ⟨before, h.congr (unbindPos_seat_other s hq), fun k => absurd (Option.some.inj k).symm hq, fun _ => rfl⟩
  obtain ⟨x, hx, gone, kept⟩ := unbound
  unfold applyNotices
  dsimp only
  have outcome : n.bind ≠ some p → after = x := fun hb => by
    by_cases hu : n.unbind = some p
    · rw [gone hu, unbind hb hu]
    · rw [kept hu, keep hb hu]
  cases hb : n.bind with
  | none =>
    rw [outcome (by rw [hb]; nofun)]
    exact hx
  | some q =>
    by_cases hq : p = q
    · subst hq
      rw [bind hb]
      exact seated_bindPos hx e
    · rw [outcome (by rw [hb]; exact fun k => hq (Option.some.inj k).symm)]
      exact hx.congr (bindPos_seat_other e _ hq)

theorem noticesOf_cases (s : State) (old new : Entry) :
    (activePlace s old = activePlace s new ∧ noticesOf s old new = { unbind := none, bind := none }) ∨
    (activePlace s old = activePlace s new ∧ noticesOf s old new = { unbind := none, bind := activePlace s new }) ∨
    noticesOf s old new = { unbind := activePlace s old, bind := activePlace s new } := by
  unfold noticesOf
  split
  · next h =>
    simp only [Bool.and_eq_true, beq_iff_eq] at h
    obtain ⟨⟨⟨vo, vn⟩, set⟩, pos⟩ := h
    have place : activePlace s old = activePlace s new := by
      unfold activePlace
      rw [vo, vn, set, pos]
    split
    · exact .inl ⟨place, rfl⟩
    · exact .inr (.inl ⟨place, rfl⟩)
  · exact .inr (.inr rfl)

/-- A write of an entry with its notices keeps the law at every position. -/
theorem bindingLaw_write {s u : State} (content : ContentLaw s) (law : BindingLaw s) {e : EntryNo} {new : Entry}
    (written : u.content.sensors = put s.content.sensors e new) (set : u.vehicle.set = s.vehicle.set) (pos : u.pos = s.pos)
    (lawful : ContentLaw u) (p : Pos) :
    seated (geometry s p).fitted (entryFor u p) (posRec (applyNotices (noticesOf s (entryAt s e) new) e u) p) := by
  have before : seated (geometry s p).fitted (entryFor s p) (posRec u p) := by
    rw [posRec_of_pos pos]
    exact law p
  obtain ⟨here, left, same⟩ := entryFor_written content lawful written set p
  obtain ⟨place, h⟩ | ⟨place, h⟩ | h := noticesOf_cases s (entryAt s e) new <;> rw [h]
  · refine seated_applyNotices _ e before nofun nofun fun _ _ => ?_
    by_cases k : activePlace s new = some p
    · rw [here k]
      exact (entryFor_of_names content (activePlace_eq_some.mp (place.trans k))).symm
    · exact same k (by rw [place]; exact k)
  · exact seated_applyNotices _ e before here nofun fun k _ => same k (by rw [place]; exact k)
  · exact seated_applyNotices _ e before here left same

end Sys2Proof.Machine
end

section
/-! PROOF. What each event leaves of the bindings (R58 to R60, R56). Settles O56. -/

namespace Sys2Proof.Machine

open Sys2Proof

/-! ## Seats under readings, silence, announcements and the close of an event -/

theorem finishEvent_seat (before : State) (touched : List Pos) (sample : Option Pos) (s : State) (q : Pos) :
    SameSeat (posRec s q) (posRec (finishEvent before touched sample s) q) :=
  (finishEvent_mild before touched sample s q).seat

/-- A reading leaves its position LIVE with the binding it held. -/
theorem readRec_seat (s : State) (rd : Reading) (r : PosRec) :
    (readRec s rd r).out.state = .live ∧ (readRec s rd r).out.bound = r.bound := by
  unfold readRec compensate
  dsimp only
  split <;> exact ⟨rfl, rfl⟩

/-- A reading applied before TWIN is judged (R61 steps 1 to 5). -/
def readAt (p : Pos) (rd : Reading) (s : State) : State :=
  let c := readRec s rd (posRec s p)
  let s1 := modPos p (fun _ => c.out) s
  { s1 with mgmt := { s1.mgmt with summary := s1.mgmt.summary || c.clamped } }

theorem applyReading_eq_judgeTwin (p : Pos) (rd : Reading) (s : State) :
    applyReading p rd s = judgeTwin p (readAt p rd s) := rfl

theorem posRec_readAt (p q : Pos) (rd : Reading) (s : State) :
    posRec (readAt p rd s) q = if q = p then (readRec s rd (posRec s p)).out else posRec s q :=
  posRec_modPos p q (fun _ => (readRec s rd (posRec s p)).out) s

theorem applyReading_seat_self (p : Pos) (rd : Reading) (s : State) :
    (posRec (applyReading p rd s) p).state = .live ∧ (posRec (applyReading p rd s) p).bound = (posRec s p).bound := by
  have judged := judgeTwin_seat p p (readAt p rd s)
  rw [posRec_readAt, if_pos rfl] at judged
  have seat := readRec_seat s rd (posRec s p)
  exact ⟨judged.1.trans seat.1, judged.2.trans seat.2⟩

theorem applyReading_seat_other {p q : Pos} (rd : Reading) (s : State) (h : q ≠ p) :
    SameSeat (posRec s q) (posRec (applyReading p rd s) q) := by
  have judged := judgeTwin_seat p q (readAt p rd s)
  rwa [posRec_readAt, if_neg h] at judged

/-- A reading at a fitted position that an entry names keeps the law at every position. -/
theorem seated_applyReading {p : Pos} (rd : Reading) {s : State} {q : Pos} {fitted : Bool} {e : Option EntryNo}
    (h : seated fitted e (posRec s q)) (held : q = p → hasBinding (posRec s p).state = true) :
    seated fitted e (posRec (applyReading p rd s) q) := by
  by_cases hq : q = p
  · subst hq
    obtain ⟨live, bound⟩ := applyReading_seat_self q rd s
    obtain ⟨placed, i, named, entry⟩ := h.bound (held rfl)
    rw [named]
    exact seated_bound placed (by rw [live]; rfl) (bound.trans entry)
  · exact h.congr (applyReading_seat_other rd s hq)

theorem goSilent_seated {p q : Pos} {s : State} {fitted : Bool} {e : Option EntryNo}
    (h : seated fitted e (posRec s q)) (placed : hasBinding (posRec s p).state = true) :
    seated fitted e (posRec (goSilent p s) q) := by
  by_cases hq : q = p
  · subst hq
    obtain ⟨fit, i, named, entry⟩ := h.bound placed
    rw [named, goSilent_self]
    refine seated_bound fit rfl ?_
    dsimp only
    split
    · exact entry
    · exact entry
  · rw [goSilent_beside s hq]
    exact h.congr (besideLeavers_seat s [p] q)

theorem clearPos_seated {p q : Pos} {s : State} {fitted : Bool} {e : Option EntryNo} (h : seated fitted e (posRec s q)) :
    seated fitted e (posRec (clearPos p s) q) := by
  cases placed : hasBinding (posRec s p).state with
  | false =>
    rw [clearPos_of_unbound placed]
    exact h
  | true =>
    by_cases hq : q = p
    · subst hq
      obtain ⟨fit, i, named, entry⟩ := h.bound placed
      rw [named, clearPos_bound_self placed]
      exact seated_bound fit rfl entry
    · rw [clearPos_beside placed hq]
      exact h.congr (besideLeavers_seat s [p] q)

theorem announced_seat (load motion : Byte) (ambient : BitVec 16) (lift g : Byte) (s : State) (q : Pos) :
    SameSeat (posRec s q) (posRec (announced load motion ambient lift g s) q) := by
  have stopped : ∀ old u, SameSeat (posRec u q) (posRec (stopSilence old u) q) := fun old u => by
    rw [show posRec (stopSilence old u) q = stoppedRec old u q from stopSilence_posRec old u q]
    unfold stoppedRec
    dsimp only
    split <;> exact ⟨rfl, rfl⟩
  unfold announced announceLift announceLoad
  refine SameSeat.trans ?_ (rederiveCaches_mild _ _ q).seat
  refine SameSeat.trans (stopped s { s with vehicle := frameValues load motion ambient lift g s }) ?_
  split
  · exact SameSeat.refl _
  · exact (rederiveCaches_mild _ _ q).seat

/-! ## The trailer half re-derived (R60) -/

theorem rederivePos_seat_other {p q : Pos} (s : State) (h : q ≠ p) : SameSeat (posRec s q) (posRec (rederivePos s p) q) := by
  unfold rederivePos
  dsimp only
  split
  · exact SameSeat.refl _
  · split <;> exact (unbindPos_seat_other s h).trans (setBinding_seat_other _ _ _ h)

theorem rederivePos_seated {s : State} {p : Pos} {fitted : Bool} {e : Option EntryNo} (h : seated fitted e (posRec s p)) :
    seated fitted (entryFor s p) (posRec (rederivePos s p) p) := by
  have kept := unbindPos_posOnly p s
  have entry : entryFor (unbindPos p s) p = entryFor s p :=
    entryFor_congr (congrArg Content.sensors kept.content) (congrArg Vehicle.set kept.vehicle) p
  by_cases vacant : (posRec s p).state = .vacant
  · have unfit := h.1.mp vacant
    have none : (posRec s p).bound = none := by
      rw [h.2.1, unfit]
      rfl
    rw [show rederivePos s p = s by rw [rederivePos, vacant]]
    exact seated_vacant unfit vacant none
  · have fit : fitted = true := by
      cases fitted with
      | true => rfl
      | false => exact absurd (h.1.mpr rfl) vacant
    have run : rederivePos s p = match entryFor s p with
        | some e => setBinding p .waiting (some e) (unbindPos p s)
        | none => setBinding p .unbound none (unbindPos p s) := by
      unfold rederivePos
      dsimp only
      rw [entry]
      split
      · next v => exact absurd v vacant
      · rfl
    rw [run]
    cases entryFor s p with
    | none =>
      dsimp only [setBinding]
      rw [posRec_modPos_self]
      exact seated_unbound fit rfl rfl
    | some i =>
      dsimp only [setBinding]
      rw [posRec_modPos_self]
      exact seated_bound fit rfl rfl

theorem rederiveFold_seated (l : List Pos) (s : State) (q : Pos) {fitted : Bool} {e : Option EntryNo}
    (h : seated fitted e (posRec s q)) :
    seated fitted (if q ∈ l then entryFor s q else e) (posRec (l.foldl rederivePos s) q) := by
  induction l generalizing s e with
  | nil => exact h
  | cons p l ih =>
    have kept := rederivePos_posOnly s p
    have entry : entryFor (rederivePos s p) q = entryFor s q :=
      entryFor_congr (congrArg Content.sensors kept.content) (congrArg Vehicle.set kept.vehicle) q
    rw [List.foldl_cons]
    by_cases hq : q = p
    · subst hq
      have := ih (rederivePos s q) (rederivePos_seated h)
      rw [entry, ite_self] at this
      rw [if_pos List.mem_cons_self]
      exact this
    · have := ih (rederivePos s p) (h.congr (rederivePos_seat_other s hq))
      rw [entry] at this
      simpa [hq] using this

theorem mem_trailerPositions (q : Pos) : q ∈ trailerPositions ↔ 16 ≤ q.val := by
  simp [trailerPositions]

/-- The truck half is named by the entries of set 0, whatever trailer is attached (R21). -/
theorem entryFor_truck {s t : State} (content : ContentLaw s) (sensors : t.content.sensors = s.content.sensors) {q : Pos}
    (truck : q.val < 16) : entryFor t q = entryFor s q := by
  refine entryFor_congr_names fun i => ?_
  unfold Names
  rw [entryAt_congr sensors]
  refine and_congr_right fun valid => and_congr_left fun place => ?_
  have zero := (content.set_zero_iff valid).mpr (by rw [place]; exact truck)
  rw [zero]
  exact ⟨fun _ => rfl, fun _ => rfl⟩

theorem bindingLaw_vehicle {s : State} (content : ContentLaw s) (law : BindingLaw s) (load motion : Byte)
    (ambient : BitVec 16) (lift g : Byte) : BindingLaw (takeVehicleFrame load motion ambient lift g s) := by
  intro q
  obtain ⟨-, same, -⟩ := takeVehicleFrame_keeps load motion ambient lift g s
  have vehicle := takeVehicleFrame_vehicle load motion ambient lift g s
  have base := seated.congr (law q) (announced_seat load motion ambient lift g s q)
  have kept := announced_posOnly load motion ambient lift g s
  rw [bindingLawAt_iff, geometry_congr (congrArg Content.geometry same)]
  obtain ⟨set, e⟩ | ⟨-, e⟩ := takeVehicleFrame_cases load motion ambient lift g s
  · have entry : entryFor (takeVehicleFrame load motion ambient lift g s) q = entryFor s q :=
      entryFor_congr (congrArg Content.sensors same) (by rw [vehicle]; exact set.symm) q
    rw [entry, e]
    exact base
  · have walk := endWalkIfOpen_walkOnly .trailer .setChanged
      (finishEvent s trailerPositions none (rederiveTrailer (announced load motion ambient lift g s)))
    have close := (rederiveFold_seated trailerPositions _ q base).congr (finishEvent_seat s trailerPositions none _ q)
    have entry : (if q ∈ trailerPositions then entryFor (announced load motion ambient lift g s) q else entryFor s q) =
        entryFor (takeVehicleFrame load motion ambient lift g s) q := by
      split
      · exact entryFor_congr ((congrArg Content.sensors kept.content).trans (congrArg Content.sensors same).symm)
          ((congrArg Vehicle.set kept.vehicle).trans (congrArg Vehicle.set vehicle).symm) q
      · next truck =>
        rw [mem_trailerPositions] at truck
        exact (entryFor_truck content (congrArg Content.sensors same) (by omega)).symm
    rw [← entry, e, posRec_of_pos walk.pos]
    exact close

/-! ## A binding of a walk (R31, R139) -/

theorem isActive_of_walk {s : State} {h : Half} {w : OpenWalk} (law : openWalkLaw s h (walkSlot s h) w) :
    isActive s w.target = true := by
  obtain ⟨target, -⟩ := law
  cases h with
  | truck =>
    rw [show w.target = 0 from target]
    rfl
  | trailer =>
    rw [show w.target = s.vehicle.set from target.1]
    simp [isActive]

theorem names_writeEntry (e : EntryNo) (new : Entry) (s : State) (i : EntryNo) (p : Pos) :
    Names (writeEntry e new s) i p ↔ if i = e then activePlace s new = some p else Names s i p :=
  names_written (s := s) (t := writeEntry e new s) rfl rfl i p

/-- What a binding leaves of the names: the place is its entry's, which names no other, and nothing else changes; the
position vacated is the one the entry named. -/
theorem bindTable_names {s : State} {sid : SensorId} {g : SetNo} (active : isActive s g = true)
    {p : Pos} {b : TableBinding} (table : bindTable sid g p s = some b) :
    Names b.state b.entry p ∧
      ∀ q, q ≠ p → (∀ i, Names b.state i q ↔ i ≠ b.entry ∧ Names s i q) ∧ (b.vacated = some q ↔ Names s b.entry q) := by
  have displaced : ∀ {i q}, q ≠ p → (Names (displace g p s) i q ↔ Names s i q) := fun {i q} ne => by
    have set : (displace g p s).vehicle.set = s.vehicle.set := by rw [(displace_tableOnly g p s).vehicle]
    unfold Names
    rw [isActive_congr set]
    constructor
    · rintro ⟨valid, rest⟩
      have same := entryAt_displace valid
      rw [same] at valid rest
      exact ⟨valid, rest⟩
    · rintro ⟨valid, act, place⟩
      have kept : entryAt (displace g p s) i = entryAt s i := by
        unfold displace
        split
        · next d found =>
          have ne : i ≠ d := fun h => ne (by rw [← place, h, (findPlace_some found).2.2])
          rw [freeEntry, entryAt_writeEntry, if_neg ne]
        · rfl
      rw [kept]
      exact ⟨valid, act, place⟩
  have written : ∀ (e : EntryNo) (new : Entry), new.pos = p → ∀ q, q ≠ p → ∀ i,
      Names (writeEntry e new (displace g p s)) i q ↔ i ≠ e ∧ Names s i q := fun e new place q ne i => by
    rw [names_writeEntry]
    split
    · next h =>
      subst h
      rw [activePlace_eq_some]
      exact ⟨fun k => absurd (k.2.2.symm.trans place) ne, fun k => absurd rfl k.1⟩
    · next h => rw [displaced ne, and_iff_right h]
  have set : (displace g p s).vehicle.set = s.vehicle.set := by rw [(displace_tableOnly g p s).vehicle]
  obtain ⟨e, found, hset, hpos, rfl⟩ | ⟨e, found, -, rfl⟩ | ⟨e, unknown, free, rfl⟩ := bindTable_cases table
  · obtain ⟨valid, -⟩ := findId_some found
    refine ⟨⟨valid, by rw [hset]; exact active, hpos⟩, fun q ne => ⟨fun i => ?_, ?_⟩⟩
    · exact ⟨fun k => ⟨fun h => ne (by rw [← k.2.2, h]; exact hpos), k⟩, fun k => k.2⟩
    · exact ⟨nofun, fun k => absurd (k.2.2.symm.trans hpos) ne⟩
  · obtain ⟨valid, -⟩ := findId_some found
    refine ⟨?place, fun q ne => ⟨written e _ rfl q ne, ?_⟩⟩
    case place =>
      refine (names_writeEntry e { entryAt s e with set := g, pos := p } (displace g p s) e p).mpr ?_
      rw [if_pos rfl, activePlace_eq_some]
      exact ⟨valid, by rw [isActive_congr set]; exact active, rfl⟩
    · dsimp only
      constructor
      · intro h
        split at h
        · next act => exact ⟨valid, act, Option.some.inj h⟩
        · cases h
      · rintro ⟨-, act, place⟩
        rw [if_pos act, place]
  · refine ⟨?place, fun q ne => ⟨written e _ rfl q ne, nofun, fun k => ?_⟩⟩
    case place =>
      refine (names_writeEntry e { valid := true, sid := sid, set := g, pos := p, offset := 0 } (displace g p s) e p).mpr ?_
      rw [if_pos rfl, activePlace_eq_some]
      exact ⟨rfl, by rw [isActive_congr set]; exact active, rfl⟩
    · have := ((displaced ne).mpr k).1
      rw [findFree_some free] at this
      cases this

theorem bindingLaw_bound {s : State} (law : ConfiguredLaw s) (places : BindingLaw s) {h : Half} {w : OpenWalk}
    {b : TableBinding} {ev : Evidence} (sound : soundId ev.sid) (walk : (walkSlot s h).walk = some w)
    (table : bindTable ev.sid w.target w.current s = some b) (before : State) (touched : List Pos) (sample : Option Pos) :
    BindingLaw (finishEvent before touched sample (bindAndRead b w.current ev)) := by
  intro q
  have open_ := openWalkLaw_of_slotLaw walk (law.slot h)
  have content := contentLaw_bindTable law.1 sound (placeOk_of_walk open_) table
  have frame := bindTable_tableOnly table
  have reach := bound_readReach b w.current ev before touched sample
  have fit : (geometry s w.current).fitted = true := open_.2.2.2.2.2.2.2.2.1
  have geo : geometry (finishEvent before touched sample (bindAndRead b w.current ev)) q = geometry s q := by
    refine geometry_congr ((congrArg Content.geometry reach.content).trans ?_) q
    rw [frame.content]
  have entry : entryFor (finishEvent before touched sample (bindAndRead b w.current ev)) q = entryFor b.state q :=
    entryFor_congr (congrArg Content.sensors reach.content) (congrArg Vehicle.set reach.vehicle) q
  obtain ⟨named, others⟩ := bindTable_names (isActive_of_walk open_) table
  have here : entryFor b.state w.current = some b.entry := entryFor_of_names content named
  have start : ∀ q, seated (geometry s q).fitted (entryFor s q) (posRec b.state q) := fun q => by
    rw [posRec_of_pos frame.pos]
    exact places q
  have told : ∀ q, seated (geometry s q).fitted (entryFor b.state q) (posRec (notified b w.current) q) := fun q => by
    refine seated_applyNotices { unbind := b.vacated, bind := some w.current } b.entry (start q) (fun k => ?_)
      (fun k vacated => ?_) fun k kept => ?_
    · rw [← Option.some.inj k]
      exact here
    · have ne : q ≠ w.current := fun e => k (by rw [e])
      have was := (others q ne).2.mp vacated
      refine entryFor_none_of fun i ki => ?_
      obtain ⟨other, ki⟩ := ((others q ne).1 i).mp ki
      exact other (Names.unique law.1 ki was)
    · have ne : q ≠ w.current := fun e => k (by rw [e])
      refine entryFor_congr_names fun i => ?_
      rw [(others q ne).1]
      refine and_iff_right_of_imp fun ki e => ?_
      subst e
      exact kept ((others q ne).2.mpr ki)
  rw [bindingLawAt_iff, geo, entry]
  refine seated.congr ?_ (finishEvent_seat before touched sample _ q)
  rw [bindAndRead_eq]
  refine seated_applyReading _ (told q) fun _ => ?_
  have seat := told w.current
  rw [here] at seat
  exact (seat.named fun vacant => by rw [seat.1.mp vacant] at fit; cases fit).2.1

/-- An entry written, with its notices and their frames. -/
theorem bindingLaw_entry {s u : State} (content : ContentLaw s) (law : BindingLaw s) {e : EntryNo} {new : Entry}
    (written : u.content.sensors = put s.content.sensors e new) (set : u.vehicle.set = s.vehicle.set) (pos : u.pos = s.pos)
    (geo : u.content.geometry = s.content.geometry) (lawful : ContentLaw u) (touched : List Pos) :
    BindingLaw (finishEvent s touched none (applyNotices (noticesOf s (entryAt s e) new) e u)) := by
  have told := bindingLaw_write content law written set pos lawful
  generalize noticesOf s (entryAt s e) new = n at told ⊢
  have k := (applyNotices_posOnly n e u).reach.trans (finishEvent_reach s touched none _)
  intro q
  rw [bindingLawAt_iff, geometry_congr ((congrArg Content.geometry k.content).trans geo),
    entryFor_congr (congrArg Content.sensors k.content) (congrArg Vehicle.set k.vehicle)]
  exact (told q).congr (finishEvent_seat s touched none _ q)

/-! ## A position written (R53) -/

theorem bindingLaw_fitted {s : State} (law : BindingLaw s) (p : Pos) (new : Geometry) (touched : List Pos) :
    BindingLaw (finishEvent s touched none (regeometry p new s)) := by
  intro q
  have reach := fitted_reach p new touched s
  have geo : geometry (finishEvent s touched none (regeometry p new s)) q = if q = p then new else geometry s q := by
    rw [geometry_congr (congrArg Content.geometry reach.content)]
    exact pick_put _ _ _ _
  have entry : entryFor (finishEvent s touched none (regeometry p new s)) q = entryFor s q :=
    entryFor_congr (congrArg Content.sensors reach.content) (congrArg Vehicle.set reach.vehicle) q
  rw [bindingLawAt_iff, geo, entry]
  refine seated.congr ?_ (finishEvent_seat s touched none _ q)
  have refitted : seated (if q = p then new else geometry s q).fitted (entryFor s q)
      (posRec (refit p (geometry s p) new (partnerOf s p) (geometryPut p new s)) q) := by
    have start : seated (geometry s q).fitted (entryFor s q) (posRec (geometryPut p new s) q) := law q
    unfold refit
    by_cases hq : q = p
    · subst hq
      rw [if_pos rfl]
      split
      · next unfit =>
        simp only [Bool.and_eq_true, Bool.not_eq_true'] at unfit
        rw [setBinding, posRec_modPos_self]
        exact seated_vacant unfit.2 rfl rfl
      · split
        · next keeps fit =>
          simp only [Bool.and_eq_true, Bool.not_eq_true'] at fit
          have same : entryFor (geometryPut q new s) q = entryFor s q := rfl
          rw [same]
          cases entryFor s q with
          | none =>
            dsimp only [setBinding]
            rw [posRec_modPos_self]
            exact seated_unbound fit.2 rfl rfl
          | some i =>
            dsimp only [setBinding]
            rw [posRec_modPos_self]
            exact seated_bound fit.2 rfl rfl
        · next keeps fit =>
          have same : new.fitted = (geometry s q).fitted := by
            cases h : (geometry s q).fitted <;> cases k : new.fitted <;> simp [h, k] at keeps fit ⊢
          rw [same]
          exact start
    · rw [if_neg hq]
      refine start.congr ?_
      split
      · refine SameSeat.trans ?_ (setBinding_seat_other _ _ _ hq)
        split
        · obtain h | h := clearRuntime_partner (partnerOf s p) (geometryPut p new s) hq <;> rw [h] <;> exact ⟨rfl, rfl⟩
        · exact SameSeat.refl _
      · split
        · split <;> exact setBinding_seat_other _ _ _ hq
        · exact SameSeat.refl _
  by_cases cls : (geometry s p).cls = new.cls
  · rw [show regeometry p new s = refit p (geometry s p) new (partnerOf s p) (geometryPut p new s) from if_pos cls]
    exact refitted
  · rw [show regeometry p new s = rederiveCache (refit p (geometry s p) new (partnerOf s p) (geometryPut p new s)) p from
      if_neg cls]
    refine refitted.congr ?_
    rw [rederiveCache_posRec]
    split
    · next h =>
      subst h
      exact ⟨rfl, rfl⟩
    · exact SameSeat.refl _

/-! ## Every event -/

theorem BindingLaw.seats {s t : State} (law : BindingLaw s) (geo : t.content.geometry = s.content.geometry)
    (sensors : t.content.sensors = s.content.sensors) (set : t.vehicle.set = s.vehicle.set)
    (seat : ∀ q, SameSeat (posRec s q) (posRec t q)) : BindingLaw t := fun q => by
  rw [bindingLawAt_iff, geometry_congr geo, entryFor_congr sensors set]
  exact seated.congr (law q) (seat q)

theorem BindingLaw.congr {s t : State} (law : BindingLaw s) (content : t.content = s.content) (vehicle : t.vehicle = s.vehicle)
    (pos : t.pos = s.pos) : BindingLaw t :=
  law.seats (by rw [content]) (by rw [content]) (by rw [vehicle]) fun q => by
    rw [posRec_of_pos pos]
    exact SameSeat.refl _

/-- The same under a work at each position that keeps what stands there seated. -/
theorem BindingLaw.reach {s t : State} (law : BindingLaw s) (kept : PosTxChan s t)
    (each : ∀ q, seated (geometry s q).fitted (entryFor s q) (posRec s q) →
      seated (geometry s q).fitted (entryFor s q) (posRec t q)) : BindingLaw t := fun q => by
  rw [bindingLawAt_iff, geometry_congr (congrArg Content.geometry kept.content),
    entryFor_congr (congrArg Content.sensors kept.content) (congrArg Vehicle.set kept.vehicle)]
  exact each q (law q)

theorem bindingLaw_startUp (s : State) : BindingLaw (startUp s) := fun q => by
  rw [bindingLawAt_iff, startUp_posRec]
  unfold startRec
  generalize startUp s = t
  cases fit : (geometry t q).fitted with
  | false => exact seated_vacant rfl rfl rfl
  | true =>
    cases entry : entryFor t q with
    | none => exact seated_unbound rfl rfl rfl
    | some i => exact seated_bound rfl rfl rfl

theorem Event.keeps_bindingLaw {V : Prop} (v : V) {s t : State} (e : Event V s t) (law : ConfiguredLaw s)
    (places : BindingLaw s) : BindingLaw t := by
  cases e with
  | same h => exact places.congr h.content h.vehicle h.pos
  | port port f => exact places.congr (modPort_content _ _ _) (modPort_vehicle _ _ _) (modPort_pos _ _ _)
  | dup d => exact places
  | records kept mild => exact places.reach kept fun q h => h.congr (mild q).seat
  | read e valid active placed seq tel =>
    have k := acceptTelegram_readReach e seq tel s
    intro q
    rw [bindingLawAt_iff, geometry_congr (s := recordAcceptance e seq s) (congrArg Content.geometry k.content),
      entryFor_congr (s := recordAcceptance e seq s) (congrArg Content.sensors k.content) (congrArg Vehicle.set k.vehicle),
      acceptTelegram_eq]
    refine seated.congr ?_ (finishEvent_seat _ _ _ _ q)
    refine seated_applyReading _ (places q) fun _ => ?_
    have seat := places (entryAt s e).pos
    rw [bindingLawAt_iff, entryFor_of_names law.1 ⟨valid, active, rfl⟩] at seat
    exact (seat.named placed).2.1
  | heard ev =>
    obtain ⟨x, k⟩ := hearStranger_txChan ev s
    exact BindingLaw.congr (s := { s with strangers := x }) places k.content k.vehicle k.pos
  | agedOut => exact places
  | walk h kept => exact places.congr kept.content kept.vehicle kept.pos
  | bound h w b ev sound walk table => exact bindingLaw_bound law places (sound v) walk table s _ _
  | vehicle load motion ambient lift g => exact bindingLaw_vehicle law.1 places load motion ambient lift g
  | stale => exact places.seats rfl rfl rfl fun q => SameSeat.refl _
  | axle a x =>
    obtain ⟨-, same, -, -, -, -, -, -, -, -, set⟩ := replaceAxle_keeps a x s
    refine places.seats (by rw [same]) (by rw [same]) set fun q => ?_
    obtain ⟨-, -, -, h⟩ | ⟨-, h⟩ := replaceAxle_cases a x s <;> rw [h]
    · exact (rederiveCaches_mild _ _ q).seat
    · exact SameSeat.refl _
  | silent p placed =>
    refine places.reach (silenceEvent_keeps p s) fun q h => ?_
    refine (goSilent_seated h ?_).congr (finishEvent_seat s [] none _ q)
    obtain h | h := placed <;> rw [h] <;> rfl
  | cleared p => exact places.reach (cleared_reach p s) fun q h => (clearPos_seated h).congr (finishEvent_seat s _ none _ q)
  | written e new valid ok free =>
    exact bindingLaw_entry law.1 places (u := dropStranger new.sid (writeEntry e new s)) rfl rfl rfl rfl
      (law.1.writeEntry (fun _ => ok) fun _ i ne valid => clashes_eq_false free ne valid) _
  | freed e valid =>
    have notices : noticesOf s (entryAt s e) Entry.free = { unbind := activePlace s (entryAt s e), bind := none } := by
      simp [noticesOf, Entry.free, activePlace]
    rw [← notices]
    exact bindingLaw_entry law.1 places (u := freeEntry e s) rfl rfl rfl rfl (law.1.freeEntry e) _
  | fitted p new => exact bindingLaw_fitted places p new _
  | profile load cls f =>
    have k := (replaceProfile_posOnly load cls f s).reach
    refine BindingLaw.reach (s := profilePut load cls f s) places k fun q h => ?_
    exact h.congr (rederiveCaches_mild _ _ q).seat
  | setting f => exact places
  | channel c f => exact places
  | node n m => exact places
  | store x => exact places
  | startUp => exact bindingLaw_startUp s

theorem bindingLaw_tick {s : State} (places : BindingLaw s) : BindingLaw (tick s) :=
  places.seats rfl rfl rfl fun q => by
    rw [tick_posRec]
    exact (countSilence_mild s q).seat

/-- Settles O56. -/
theorem stepKeepsBindingLaw : Obligations.StepKeepsBindingLaw := fun _ _ law places step =>
  (step_keeps_of_events (P := fun s => ConfiguredLaw s ∧ BindingLaw s) (fun _ _ h => h)
    (fun _ quiet h => ⟨configuredLaw_tick quiet h.1, bindingLaw_tick h.2⟩)
    (fun _ start _ _ e h => ⟨e.keeps_configuredLaw start.1.2.2.1 h.1, e.keeps_bindingLaw start.1.2.2.1 h.1 h.2⟩)
    ⟨law, places⟩ step).2

end Sys2Proof.Machine
end

section
/-! PROOF. The changes of position records that events are chains of, and what each keeps of TWIN and of the law of
records. Settles O57 and O58. -/

namespace Sys2Proof.Machine

open Sys2Proof

/-! ## Changes of the records -/

section Changes

variable {g : Pos → Bool} {r t : Pos → PosRec} {p : Pos}

/-- TWIN ends with p leaving LIVE, of records r under the fitted positions g (R117). -/
def EndsTwin (g : Pos → Bool) (r : Pos → PosRec) (p : Pos) : Prop :=
  (r p).state = .live ∧ (r p).cond.active.twin = true ∧ g p = true ∧ g (mateOf p) = true

/-- What stands beside a position that leaves the state it is in (R117). -/
structure Beside (g : Pos → Bool) (r t : Pos → PosRec) (p : Pos) : Prop where
  ends : EndsTwin g r p → t (mateOf p) = withoutTwin (r (mateOf p))
  stays : ¬EndsTwin g r p → t (mateOf p) = r (mateOf p)
  others : ∀ q, q ≠ p → q ≠ mateOf p → t q = r q

/-- A record made SILENT (R118). -/
def silentRec (r : PosRec) : PosRec := { r with state := .silent, cond := raiseCond .silent r.cond }

/-- The changes of the records that events are chains of, under the fitted positions g. -/
inductive Change (g : Pos → Bool) : (Pos → PosRec) → (Pos → PosRec) → Prop
  /-- Frames, ticks, caches, acknowledgements, intervals. -/
  | mild {r t : Pos → PosRec} (h : ∀ q, Mild (r q) (t q)) : Change g r t
  /-- A runtime cleared (R57). -/
  | cleared {r t : Pos → PosRec} (p : Pos) (st : PosState) (e : Option EntryNo) (live : st ≠ .live) (silent : st ≠ .silent)
      (own : t p = freshRec st e (r p)) (beside : Beside g r t p) : Change g r t
  /-- A binding set at a position that holds none (R53, R58, R60). -/
  | placed {r t : Pos → PosRec} (p : Pos) (st : PosState) (e : Option EntryNo) (live : st ≠ .live) (silent : st ≠ .silent)
      (was : hasBinding (r p).state = false) (own : t p = { r p with state := st, bound := e })
      (others : ∀ q, q ≠ p → t q = r q) : Change g r t
  /-- A position becomes SILENT (R64). -/
  | silenced {r t : Pos → PosRec} (p : Pos) (ends : EndsTwin g r p → t p = silentRec (withoutTwin (r p)))
      (stays : ¬EndsTwin g r p → t p = silentRec (r p)) (beside : Beside g r t p) : Change g r t
  /-- A reading before TWIN is judged (R61). -/
  | read {r t : Pos → PosRec} (p : Pos) (s : State) (rd : Reading) (own : t p = (readRec s rd (r p)).out)
      (others : ∀ q, q ≠ p → t q = r q) : Change g r t
  /-- TWIN judged at two LIVE partners (R116). -/
  | twin {r t : Pos → PosRec} (p : Pos) (f : Cond → Cond) (verdict : f = raiseCond .twin ∨ f = clearCond .twin)
      (fit : g p = true ∧ g (mateOf p) = true) (live : (r p).state = .live ∧ (r (mateOf p)).state = .live)
      (both : ∀ q, t q = if q = p ∨ q = mateOf p then { r q with cond := f (r q).cond } else r q) : Change g r t

/-- A chain of changes. -/
abbrev Changes (g : Pos → Bool) : (Pos → PosRec) → (Pos → PosRec) → Prop := Relation.ReflTransGen (Change g)

theorem Change.chain (h : Change g r t) : Changes g r t := .single h

/-! ## TWIN (R116, R117) -/

/-- TWIN stands at two fitted LIVE partners or at none. -/
def TwinFit (g : Pos → Bool) (r : Pos → PosRec) : Prop :=
  ∀ p, (r p).cond.active.twin = true →
    ((r p).state = .live ∧ g p = true) ∧ (r (mateOf p)).state = .live ∧ (r (mateOf p)).cond.active.twin = true

theorem TwinFit.endsTwin (h : TwinFit g r) (twin : (r p).cond.active.twin = true) : EndsTwin g r p := by
  obtain ⟨⟨live, fit⟩, -, mate⟩ := h p twin
  exact ⟨live, twin, fit, (h (mateOf p) mate).1.2⟩

/-- Where TWIN is not active, it is not active at the partner. -/
theorem TwinFit.mate_off (h : TwinFit g r) (off : (r p).cond.active.twin = false) :
    (r (mateOf p)).cond.active.twin = false := by
  cases mate : (r (mateOf p)).cond.active.twin with
  | false => rfl
  | true =>
    have back := (h (mateOf p) mate).2.2
    rw [mateOf_mateOf, off] at back
    cases back

/-- A position that leaves the state it is in, and its partner, lose TWIN together. -/
theorem TwinFit.leave (h : TwinFit g r) (own : (t p).cond.active.twin = false) (beside : Beside g r t p) : TwinFit g t := by
  have mate : (t (mateOf p)).cond.active.twin = false := by
    by_cases ends : EndsTwin g r p
    · rw [beside.ends ends]
      rfl
    · rw [beside.stays ends]
      refine h.mate_off ?_
      by_contra twin
      exact ends (h.endsTwin (by simpa using twin))
  intro q twin
  have hp : q ≠ p := fun e => by rw [e, own] at twin; cases twin
  have hm : q ≠ mateOf p := fun e => by rw [e, mate] at twin; cases twin
  have hp' : mateOf q ≠ p := fun e => hm (eq_mateOf_iff.mpr e)
  have hm' : mateOf q ≠ mateOf p := fun e => hp (by rw [← mateOf_mateOf q, e, mateOf_mateOf])
  rw [beside.others q hp hm] at twin ⊢
  rw [beside.others (mateOf q) hp' hm']
  exact h q twin

theorem TwinFit.off_of_not_live (h : TwinFit g r) (state : (r p).state ≠ .live) : (r p).cond.active.twin = false := by
  cases twin : (r p).cond.active.twin with
  | false => rfl
  | true => exact absurd (h p twin).1.1 state

theorem not_live_of_no_binding {st : PosState} (h : hasBinding st = false) : st ≠ .live := fun e => by
  rw [e] at h
  cases h

theorem judgeLevel_conditions (k : Cache) (kind : TelKind) (f : Nat) (c : Cond) :
    (judgeLevel k kind f c).active = c.active ∧ (judgeLevel k kind f c).acked = c.acked ∧
      (judgeLevel k kind f c).owed = c.owed ∧ (judgeLevel k kind f c).repeatDue = c.repeatDue := by
  unfold judgeLevel
  split
  · obtain e | ⟨pending, e⟩ := takeCandidate_cases kind (candidate k c.level f) c <;> rw [e] <;> exact ⟨rfl, rfl, rfl, rfl⟩
  · exact ⟨rfl, rfl, rfl, rfl⟩

/-- The level part of a reading's judgement (R111). -/
def levelJudged (rd : Reading) (r : PosRec) : Cond :=
  match r.filtered with
  | some f => if bearsPressure rd.telegram then judgeLevel r.cache rd.telegram.kind f r.cond else r.cond
  | none => r.cond

theorem levelJudged_cases (rd : Reading) (r : PosRec) :
    levelJudged rd r = r.cond ∨ ∃ f, levelJudged rd r = judgeLevel r.cache rd.telegram.kind f r.cond := by
  unfold levelJudged
  split
  · split
    · exact .inr ⟨_, rfl⟩
    · exact .inl rfl
  · exact .inl rfl

theorem judgeReading_eq (rd : Reading) (judging : Option Nat) (r : PosRec) :
    judgeReading rd judging r =
      { r with cond := judgeBattery r.battery (judgeFault r.fault (judgeHot r.cache.hotLimit judging (levelJudged rd r))) } :=
  rfl

/-- A BATTERY judgement is a raise, a clear or nothing, and counts. -/
theorem judgeBattery_cases (b : Bool) (c : Cond) :
    ∃ d, (d = c ∨ d = raiseCond .battery c ∨ d = clearCond .battery c) ∧
      judgeBattery b c = { d with batteryClear := (judgeBattery b c).batteryClear } := by
  cases b with
  | true => exact ⟨_, .inr (.inl rfl), rfl⟩
  | false =>
    by_cases on : c.active.battery = true
    · by_cases few : c.batteryClear < 2
      · exact ⟨_, .inl rfl, by rw [judgeBattery_of_few on few]⟩
      · refine ⟨_, .inr (.inr rfl), ?_⟩
        simp [judgeBattery, on, few]
    · exact ⟨_, .inl rfl, by rw [judgeBattery_of_off (by simpa using on)]⟩

theorem judgeFault_cases (b : Bool) (c : Cond) : judgeFault b c = raiseCond .fault c ∨ judgeFault b c = clearCond .fault c := by
  cases b
  · exact .inr rfl
  · exact .inl rfl

theorem twin_of_clear {k : Condition} (h : k ≠ .twin) (c : Cond) : (clearCond k c).active.twin = c.active.twin := by
  cases k <;> first | exact absurd rfl h | rfl

theorem twin_of_raise {k : Condition} (h : k ≠ .twin) (c : Cond) : (raiseCond k c).active.twin = c.active.twin := by
  cases k <;> first | exact absurd rfl h | rfl

theorem judgeHot_twin (limit : Nat) (judging : Option Nat) (c : Cond) :
    (judgeHot limit judging c).active.twin = c.active.twin := by
  obtain e | ⟨-, e⟩ | ⟨-, e⟩ := judgeHot_cases limit judging c <;> rw [e]
  · exact twin_of_raise (by decide) c
  · exact twin_of_clear (by decide) c

theorem judgeFault_twin (b : Bool) (c : Cond) : (judgeFault b c).active.twin = c.active.twin := by
  obtain e | e := judgeFault_cases b c <;> rw [e]
  · exact twin_of_raise (by decide) c
  · exact twin_of_clear (by decide) c

theorem judgeBattery_twin (b : Bool) (c : Cond) : (judgeBattery b c).active.twin = c.active.twin := by
  obtain ⟨d, h, e⟩ := judgeBattery_cases b c
  rw [e]
  obtain h | h | h := h <;> rw [h]
  · exact twin_of_raise (by decide) c
  · exact twin_of_clear (by decide) c

theorem levelJudged_twin (rd : Reading) (r : PosRec) : (levelJudged rd r).active.twin = r.cond.active.twin := by
  obtain e | ⟨f, e⟩ := levelJudged_cases rd r <;> rw [e]
  rw [(judgeLevel_conditions _ _ _ _).1]

theorem compensate_cond (tref : Int) (ambient : Nat) (rd : Reading) (r : PosRec) :
    let out := (compensate tref ambient rd r).out
    out.cond = r.cond ∧ out.state = r.state ∧ out.lastTime = r.lastTime ∧ out.history = r.history ∧ out.silence = r.silence := by
  unfold compensate
  dsimp only
  split <;> exact ⟨rfl, rfl, rfl, rfl, rfl⟩

theorem hearReading_twin (rd : Reading) (r : PosRec) : (hearReading rd r).cond.active.twin = r.cond.active.twin := by
  unfold hearReading
  dsimp only
  split <;> rfl

/-- A reading leaves TWIN as it is until it is judged. -/
theorem readRec_twin (s : State) (rd : Reading) (r : PosRec) :
    (readRec s rd r).out.cond.active.twin = r.cond.active.twin := by
  unfold readRec
  dsimp only
  rw [judgeReading_eq]
  dsimp only
  rw [judgeBattery_twin, judgeFault_twin, judgeHot_twin, levelJudged_twin]
  refine Eq.trans ?_ (hearReading_twin rd r)
  rw [← (compensate_cond s.content.settings.tref s.vehicle.ambient rd (hearReading rd r)).1]
  rfl

theorem Change.keeps_twin (c : Change g r t) (h : TwinFit g r) : TwinFit g t := by
  cases c with
  | mild mild =>
    intro q twin
    rw [(mild q).twin] at twin
    obtain ⟨⟨live, fit⟩, mateLive, mate⟩ := h q twin
    exact ⟨⟨(mild q).state.trans live, fit⟩, (mild _).state.trans mateLive, (mild _).twin.trans mate⟩
  | cleared p st e live silent own beside => exact h.leave (by rw [own]; rfl) beside
  | silenced p ends stays beside =>
    refine h.leave ?_ beside
    by_cases ended : EndsTwin g r p
    · rw [ends ended]
      rfl
    · rw [stays ended]
      by_contra twin
      exact ended (h.endsTwin (by simpa [silentRec, raiseCond, condSet] using twin))
  | placed p st e live silent was own others =>
    have off := h.off_of_not_live (not_live_of_no_binding was)
    have mate := h.mate_off off
    intro q twin
    have hp : q ≠ p := fun e => by
      rw [e, own] at twin
      rw [twin] at off
      cases off
    rw [others q hp] at twin ⊢
    have hm : mateOf q ≠ p := fun e => by
      rw [← eq_mateOf_iff] at e
      rw [e, mate] at twin
      cases twin
    rw [others _ hm]
    exact h q twin
  | read p s rd own others =>
    have twins : ∀ q, (t q).cond.active.twin = (r q).cond.active.twin := fun q => by
      by_cases hq : q = p
      · rw [hq, own, readRec_twin]
      · rw [others q hq]
    have lives : ∀ q, (r q).state = .live → (t q).state = .live := fun q live => by
      by_cases hq : q = p
      · rw [hq, own]
        exact (readRec_seat s rd (r p)).1
      · rw [others q hq]
        exact live
    intro q twin
    rw [twins] at twin
    obtain ⟨⟨live, fit⟩, mateLive, mate⟩ := h q twin
    exact ⟨⟨lives q live, fit⟩, lives _ mateLive, (twins _).trans mate⟩
  | twin p f verdict fit live both =>
    have states : ∀ q, (t q).state = (r q).state := fun q => by
      rw [both]
      split <;> rfl
    have mine : ∀ q, q = p ∨ q = mateOf p → (t q).cond.active.twin = (f (r q).cond).active.twin := fun q hq => by
      rw [both, if_pos hq]
    have other : ∀ q, ¬(q = p ∨ q = mateOf p) → (t q).cond.active.twin = (r q).cond.active.twin := fun q hq => by
      rw [both, if_neg hq]
    have pair : ∀ q, (mateOf q = p ∨ mateOf q = mateOf p) ↔ (q = p ∨ q = mateOf p) := fun q => by
      rw [eq_mateOf_iff (q := q), ← eq_mateOf_iff (p := mateOf p), mateOf_mateOf, or_comm]
    intro q twin
    by_cases hq : q = p ∨ q = mateOf p
    · have alive : (r q).state = .live ∧ g q = true ∧ (r (mateOf q)).state = .live := by
        obtain rfl | rfl := hq
        · exact ⟨live.1, fit.1, live.2⟩
        · rw [mateOf_mateOf]
          exact ⟨live.2, fit.2, live.1⟩
      obtain ⟨here, fitted, there⟩ := alive
      refine ⟨⟨(states q).trans here, fitted⟩, (states _).trans there, ?_⟩
      rw [mine q hq] at twin
      rw [mine _ ((pair q).mpr hq)]
      obtain rfl | rfl := verdict
      · rfl
      · cases twin
    · rw [other q hq] at twin
      rw [states, states, other _ fun k => hq ((pair q).mp k)]
      exact h q twin

theorem Changes.keeps_twin (c : Changes g r t) (h : TwinFit g r) : TwinFit g t := by
  induction c with
  | refl => exact h
  | tail _ c ih => exact c.keeps_twin ih

/-! ## The law of records -/

theorem RecordFacts.heardReading {x : PosRec} (h : RecordFacts x) (rd : Reading) : RecordFacts (hearReading rd x) := by
  unfold hearReading
  refine
    { filtered := h.filtered
      live := fun _ => rfl
      silent := ?isSilent
      unheard := fun no => absurd rfl no
      ackLevel := ?level
      acked := ?acks
      owed := ?owes
      ring := h.ring
      fresh := h.fresh
      silence := Nat.zero_le _ }
  all_goals dsimp only
  case isSilent =>
    refine ⟨nofun, fun active => ?_⟩
    split at active
    · cases active
    · next state => exact absurd (h.silent.mpr active) state
  case level => split <;> exact h.ackLevel
  case acks =>
    split
    · intro j hj
      simp only [clearCond, condGet_condSet] at hj ⊢
      split at hj
      · cases hj
      · next ne =>
        rw [if_neg ne]
        exact h.acked j hj
    · exact h.acked
  case owes => split <;> exact h.owed

theorem RecordFacts.compensated {x : PosRec} (h : RecordFacts x) (heard : isHeard x) (tref : Int) (ambient : Nat) (rd : Reading) :
    RecordFacts (compensate tref ambient rd x).out := by
  unfold compensate
  dsimp only
  split
  · exact { h with
      filtered := rfl
      unheard := fun no => absurd heard no }
  · exact { h with }

theorem RecordFacts.historyTaken {x : PosRec} (h : RecordFacts x) (heard : isHeard x) (minutes : Nat) (rd : Reading) :
    RecordFacts (recordHistory minutes rd x) := by
  have opened : ∀ y, (takeCold y (openInterval minutes rd.time x.history)).expiry.isSome = true ∧
      (takeCold y (openInterval minutes rd.time x.history)).ring = x.history.ring := fun y => by
    have opened : (openInterval minutes rd.time x.history).expiry.isSome = true ∧
        (openInterval minutes rd.time x.history).ring = x.history.ring := by
      unfold openInterval
      split
      · next d run => exact ⟨by rw [run]; rfl, rfl⟩
      · exact ⟨rfl, rfl⟩
    unfold takeCold
    split
    · exact opened
    · split <;> exact opened
  obtain ⟨runs, ring⟩ := opened (if bearsPressure rd.telegram then x.cold else none)
  unfold recordHistory
  refine { h with
    unheard := fun no => absurd heard no
    ring := by rw [ring]; exact h.ring
    fresh := fun none => ?_ }
  rw [none] at runs
  cases runs

/-- The condition record of a heard position judged by level. -/
theorem RecordFacts.levelJudged {x : PosRec} (h : RecordFacts x) (heard : isHeard x) (rd : Reading) :
    RecordFacts { x with cond := Machine.levelJudged rd x } := by
  obtain e | ⟨f, e⟩ := levelJudged_cases rd x
  · rw [e]
    exact h
  · rw [e]
    obtain ⟨active, acked, owed, due⟩ := judgeLevel_conditions x.cache rd.telegram.kind f x.cond
    have ackLevel : (judgeLevel x.cache rd.telegram.kind f x.cond).ackLevel = true →
        (judgeLevel x.cache rd.telegram.kind f x.cond).level ≠ .normal := by
      have set : ∀ new, (setLevel new x.cond).ackLevel = true → new ≠ .normal := fun new acks normal => by
        obtain ⟨acks, same | ⟨-, low⟩⟩ := (setLevel_ackLevel_iff new x.cond).mp acks
        · exact h.ackLevel acks (same ▸ normal)
        · rw [normal] at low
          cases low
      unfold judgeLevel
      split
      · obtain k | ⟨pending, k⟩ := takeCandidate_cases rd.telegram.kind (candidate x.cache x.cond.level f) x.cond <;> rw [k]
        · exact set _
        · exact h.ackLevel
      · exact set _
    exact { h with
      silent := by
        rw [h.silent]
        exact iff_of_eq (congrArg (fun a : CondSet => a.silent = true) active.symm)
      unheard := fun no => absurd heard no
      ackLevel := ackLevel
      acked := fun k hk => by
        rw [show condGet (judgeLevel x.cache rd.telegram.kind f x.cond).active k = _ from congrArg (condGet · k) active]
        exact h.acked k ((congrArg (condGet · k) acked).symm.trans hk)
      owed := fun hk => by
        rw [show (judgeLevel x.cache rd.telegram.kind f x.cond).repeatDue = _ from due]
        exact h.owed (owed.symm.trans hk) }

/-- A reading leaves a lawful record lawful (R61). -/
theorem RecordFacts.read {x : PosRec} (h : RecordFacts x) (s : State) (rd : Reading) : RecordFacts (readRec s rd x).out := by
  have heard := h.heardReading rd
  have isHeard0 : isHeard (hearReading rd x) := rfl
  have compensated := heard.compensated isHeard0 s.content.settings.tref s.vehicle.ambient rd
  have isHeard1 : isHeard (compensate s.content.settings.tref s.vehicle.ambient rd (hearReading rd x)).out := by
    unfold isHeard
    rw [(compensate_cond _ _ _ _).2.2.1]
    exact isHeard0
  have taken := compensated.historyTaken isHeard1 s.content.settings.intervalLength rd
  unfold readRec
  dsimp only
  generalize (compensate s.content.settings.tref s.vehicle.ambient rd (hearReading rd x)).judging = judging
  have isHeard2 : isHeard (recordHistory s.content.settings.intervalLength rd
    (compensate s.content.settings.tref s.vehicle.ambient rd (hearReading rd x)).out) := isHeard1
  generalize recordHistory s.content.settings.intervalLength rd
    (compensate s.content.settings.tref s.vehicle.ambient rd (hearReading rd x)).out = y at taken isHeard2
  rw [judgeReading_eq]
  have level := taken.levelJudged isHeard2 rd
  generalize Machine.levelJudged rd y = c at level
  have hot : RecordFacts { y with cond := judgeHot y.cache.hotLimit judging c } := by
    obtain e | ⟨-, e⟩ | ⟨-, e⟩ := judgeHot_cases y.cache.hotLimit judging c <;> rw [e]
    · exact level
    · exact level.raise (by decide) isHeard2
    · exact level.clear (by decide)
  generalize judgeHot y.cache.hotLimit judging c = d at hot
  have fault : RecordFacts { y with cond := judgeFault y.fault d } := by
    obtain e | e := judgeFault_cases y.fault d <;> rw [e]
    · exact hot.raise (by decide) isHeard2
    · exact hot.clear (by decide)
  generalize judgeFault y.fault d = k at fault
  obtain ⟨b, h, e⟩ := judgeBattery_cases y.battery k
  rw [e]
  have battery : RecordFacts { y with cond := b } := by
    obtain rfl | rfl | rfl := h
    · exact fault
    · exact fault.raise (by decide) isHeard2
    · exact fault.clear (by decide)
  exact { battery with }

theorem recordFacts_silent {x : PosRec} (h : RecordFacts x) : RecordFacts (silentRec x) :=
  { h with
    live := nofun
    silent := ⟨fun _ => rfl, fun _ => rfl⟩
    unheard := fun no => by
      obtain ⟨filtered, expiry, level, active⟩ := h.unheard no
      refine ⟨filtered, expiry, level, ?_⟩
      simp only [silentRec, raiseCond]
      rw [active]
      rfl
    acked := fun j hj => by
      simp only [silentRec, raiseCond, condGet_condSet]
      split
      · rfl
      · exact h.acked j hj }

theorem Beside.records (b : Beside g r t p) (h : ∀ q, RecordFacts (r q)) {q : Pos} (hq : q ≠ p) :
    RecordFacts (t q) := by
  by_cases hm : q = mateOf p
  · subst hm
    by_cases ends : EndsTwin g r p
    · rw [b.ends ends]
      exact (h _).withoutTwin
    · rw [b.stays ends]
      exact h _
  · rw [b.others q hq hm]
    exact h q

theorem Change.keeps_records (c : Change g r t) (h : ∀ q, RecordFacts (r q)) (q : Pos) : RecordFacts (t q) := by
  cases c with
  | mild mild => exact (recordLaw_iff _).mp ((mild q).law ((recordLaw_iff _).mpr (h q)))
  | cleared p st e live silent own beside =>
    by_cases hq : q = p
    · rw [hq, own]
      exact recordFacts_fresh live silent e _
    · exact beside.records h hq
  | silenced p ends stays beside =>
    by_cases hq : q = p
    · rw [hq]
      by_cases ended : EndsTwin g r p
      · rw [ends ended]
        exact recordFacts_silent (h p).withoutTwin
      · rw [stays ended]
        exact recordFacts_silent (h p)
    · exact beside.records h hq
  | placed p st e live silent was own others =>
    by_cases hq : q = p
    · rw [hq, own]
      have off : (r p).cond.active.silent ≠ true := fun on => by
        rw [(h p).silent.mpr on] at was
        cases was
      exact { h p with
        live := fun e => absurd e live
        silent := ⟨fun e => absurd e silent, fun on => absurd on off⟩ }
    · rw [others q hq]
      exact h q
  | read p s rd own others =>
    by_cases hq : q = p
    · rw [hq, own]
      exact (h p).read s rd
    · rw [others q hq]
      exact h q
  | twin p f verdict fit live both =>
    rw [both]
    split
    · next hq =>
      obtain rfl | rfl := verdict
      · refine (h q).raise (by decide) ((h q).live ?_)
        obtain rfl | rfl := hq
        · exact live.1
        · exact live.2
      · exact (h q).clear (by decide)
    · exact h q

theorem Changes.keeps_records (c : Changes g r t) (h : ∀ q, RecordFacts (r q)) (q : Pos) : RecordFacts (t q) := by
  induction c generalizing q with
  | refl => exact h q
  | tail _ c ih => exact c.keeps_records ih q

end Changes

end Sys2Proof.Machine
end

section
/-! PROOF. Every event but start-up as a chain of changes of the position records. Settles O57 and O58. -/

namespace Sys2Proof.Machine

open Sys2Proof

/-- The fitted positions. -/
def fittedAt (s : State) : Pos → Bool := fun p => (geometry s p).fitted

theorem fittedAt_congr {s t : State} (h : t.content.geometry = s.content.geometry) : fittedAt t = fittedAt s := by
  funext p
  exact congrArg Geometry.fitted (geometry_congr h p)

theorem twinEnds_iff_endsTwin (s : State) (p : Pos) : twinEnds s p = true ↔ EndsTwin (fittedAt s) (posRec s) p := by
  unfold twinEnds
  rw [decide_eq_true_eq]
  rfl

/-- What stands beside a leaver, as the records have it. -/
theorem beside_of_leavers {s : State} {t : Pos → PosRec} {p : Pos} (h : ∀ q, q ≠ p → t q = besideLeavers s [p] q) :
    Beside (fittedAt s) (posRec s) t p where
  ends e := by
    rw [h _ (mateOf_ne p), besideLeavers, mateOf_mateOf, if_pos ⟨List.mem_singleton_self p, (twinEnds_iff_endsTwin s p).mpr e⟩]
  stays e := by
    rw [h _ (mateOf_ne p), besideLeavers, mateOf_mateOf, if_neg fun k => e ((twinEnds_iff_endsTwin s p).mp k.2)]
  others q hq hm := by rw [h q hq, besideLeavers_other hm]

theorem changes_of_pos {g : Pos → Bool} {s t : State} (h : t.pos = s.pos) : Changes g (posRec s) (posRec t) := by
  rewrite [show posRec t = posRec s from funext (posRec_of_pos h)]
  exact .refl

/-! ## The notices -/

variable {s : State} {p : Pos}

theorem unbindPos_changes (p : Pos) (s : State) : Changes (fittedAt s) (posRec s) (posRec (unbindPos p s)) := by
  cases bound : hasBinding (posRec s p).state with
  | false =>
    rewrite [unbindPos_of_unbound bound]
    exact .refl
  | true =>
    exact (Change.cleared p .unbound none (by decide) (by decide) (unbindPos_bound_self bound)
      (beside_of_leavers fun q hq => unbindPos_beside bound hq)).chain

theorem bindPos_changes (p : Pos) (e : EntryNo) (s : State) : Changes (fittedAt s) (posRec s) (posRec (bindPos p e s)) := by
  cases bound : hasBinding (posRec s p).state with
  | true =>
    exact (Change.cleared p .waiting (some e) (by decide) (by decide) (bindPos_bound_self bound e)
      (beside_of_leavers fun q hq => bindPos_beside bound e hq)).chain
  | false =>
    cases state : (posRec s p).state with
    | vacant =>
      rewrite [bindPos_of_vacant state]
      exact .refl
    | unbound =>
      rw [bindPos_of_unbound state]
      exact (Change.placed p .waiting (some e) (by decide) (by decide) bound (posRec_modPos_self p _ s) fun q hq =>
        posRec_modPos_ne _ _ hq).chain
    | waiting | live | silent => simp [state, hasBinding] at bound

theorem clearPos_changes (p : Pos) (s : State) : Changes (fittedAt s) (posRec s) (posRec (clearPos p s)) := by
  cases bound : hasBinding (posRec s p).state with
  | false =>
    rewrite [clearPos_of_unbound bound]
    exact .refl
  | true =>
    exact (Change.cleared p .waiting _ (by decide) (by decide) (clearPos_bound_self bound)
      (beside_of_leavers fun q hq => clearPos_beside bound hq)).chain

theorem goSilent_changes (p : Pos) (s : State) : Changes (fittedAt s) (posRec s) (posRec (goSilent p s)) := by
  have self := goSilent_self p s
  refine (Change.silenced p (fun e => ?_) (fun e => ?_) (beside_of_leavers fun q hq => goSilent_beside s hq)).chain
  · dsimp only at self
    rw [self, if_pos ((twinEnds_iff_endsTwin s p).mpr e)]
    rfl
  · dsimp only at self
    rw [self, if_neg fun k => e ((twinEnds_iff_endsTwin s p).mp k)]
    rfl

theorem applyNotices_changes (n : Notices) (e : EntryNo) (s : State) :
    Changes (fittedAt s) (posRec s) (posRec (applyNotices n e s)) := by
  obtain ⟨unbind, bind⟩ := n
  have second : ∀ u, Changes (fittedAt u) (posRec u) (posRec (applyNotices { unbind := none, bind := bind } e u)) := fun u => by
    cases bind with
    | none => exact .refl
    | some p => exact bindPos_changes p e u
  cases unbind with
  | none => exact second s
  | some q =>
    have rest := second (unbindPos q s)
    rw [fittedAt_congr (congrArg Content.geometry (unbindPos_posOnly q s).content)] at rest
    exact (unbindPos_changes q s).trans rest

theorem finishEvent_changes {g : Pos → Bool} (before : State) (touched : List Pos) (sample : Option Pos) (s : State) :
    Changes g (posRec s) (posRec (finishEvent before touched sample s)) :=
  (Change.mild (finishEvent_mild before touched sample s)).chain

/-! ## Readings -/

theorem judgeTwin_changes (p : Pos) (live : (posRec s p).state = .live) :
    Changes (fittedAt s) (posRec s) (posRec (judgeTwin p s)) := by
  by_cases judged : TwinJudged s p
  · obtain ⟨fit, fit', live', hp, hq⟩ := id judged
    obtain ⟨fp, hp⟩ := Option.isSome_iff_exists.mp hp
    obtain ⟨fq, hq⟩ := Option.isSome_iff_exists.mp hq
    rw [judgeTwin_of_judged judged hp hq]
    cases twinVerdict (posRec s p) (posRec s (mateOf p)) fp fq with
    | keep => exact .refl
    | raise =>
      exact (Change.twin p _ (.inl rfl) ⟨fit, fit'⟩ ⟨live, live'⟩ fun q =>
        posRec_modCond_both (f := raiseCond .twin) (fun _ => rfl) s).chain
    | clear =>
      exact (Change.twin p _ (.inr rfl) ⟨fit, fit'⟩ ⟨live, live'⟩ fun q =>
        posRec_modCond_both (f := clearCond .twin) (fun _ => rfl) s).chain
  · rewrite [judgeTwin_of_not_judged judged]
    exact .refl

theorem applyReading_changes (p : Pos) (rd : Reading) (s : State) :
    Changes (fittedAt s) (posRec s) (posRec (applyReading p rd s)) := by
  have own : posRec (readAt p rd s) p = (readRec s rd (posRec s p)).out := by rw [posRec_readAt, if_pos rfl]
  have first : Changes (fittedAt s) (posRec s) (posRec (readAt p rd s)) :=
    (Change.read p s rd own fun q hq => by rw [posRec_readAt, if_neg hq]).chain
  rw [applyReading_eq_judgeTwin]
  refine first.trans (judgeTwin_changes (s := readAt p rd s) p ?_)
  rw [own]
  exact (readRec_seat s rd _).1

/-! ## The trailer half, a position written, announcements -/

theorem setBinding_changes {g : Pos → Bool} {st : PosState} (e : Option EntryNo) (live : st ≠ .live) (silent : st ≠ .silent)
    (was : hasBinding (posRec s p).state = false) : Changes g (posRec s) (posRec (setBinding p st e s)) :=
  (Change.placed p st e live silent was (posRec_modPos_self p _ s) fun _ hq => posRec_modPos_ne _ _ hq).chain

theorem hasBinding_unbindPos (p : Pos) (s : State) : hasBinding (posRec (unbindPos p s) p).state = false := by
  cases bound : hasBinding (posRec s p).state with
  | false =>
    rw [unbindPos_of_unbound bound]
    exact bound
  | true =>
    rw [unbindPos_bound_self bound]
    rfl

theorem rederivePos_changes (s : State) (p : Pos) : Changes (fittedAt s) (posRec s) (posRec (rederivePos s p)) := by
  unfold rederivePos
  dsimp only
  split
  · exact .refl
  · refine (unbindPos_changes p s).trans ?_
    split <;> exact setBinding_changes _ (by decide) (by decide) (hasBinding_unbindPos p s)

theorem rederiveTrailer_changes (s : State) : Changes (fittedAt s) (posRec s) (posRec (rederiveTrailer s)) := by
  unfold rederiveTrailer
  generalize trailerPositions = l
  induction l generalizing s with
  | nil => exact .refl
  | cons p l ih =>
    have kept := fittedAt_congr (congrArg Content.geometry (rederivePos_posOnly s p).content)
    refine (rederivePos_changes s p).trans ?_
    have rest := ih (rederivePos s p)
    rw [kept] at rest
    exact rest

theorem rederiveCaches_changes {g : Pos → Bool} (which : Pos → Bool) (s : State) :
    Changes g (posRec s) (posRec (rederiveCaches which s)) :=
  (Change.mild (rederiveCaches_mild which s)).chain

theorem dropLift_changes {g : Pos → Bool} (a : AxleNo) (s : State) : Changes g (posRec s) (posRec (dropLift a s)) :=
  rederiveCaches_changes _
    { s with vehicle := { s.vehicle with lift := s.vehicle.lift &&& ~~~(1#8 <<< a.val) } }

theorem replaceProfile_changes {g : Pos → Bool} (load : LoadState) (cls : Fin 8) (f : Profile → Profile) (s : State) :
    Changes g (posRec s) (posRec (replaceProfile load cls f s)) :=
  rederiveCaches_changes _ (profilePut load cls f s)

theorem announced_changes {g : Pos → Bool} (load motion : Byte) (ambient : BitVec 16) (lift set : Byte) (s : State) :
    Changes g (posRec s) (posRec (announced load motion ambient lift set s)) := by
  unfold announced announceLift announceLoad
  refine Relation.ReflTransGen.trans ?_ (rederiveCaches_changes _ _)
  have stopped : Changes g (posRec s)
      (posRec (stopSilence s { s with vehicle := frameValues load motion ambient lift set s })) := by
    refine (Change.mild fun q => ?_).chain
    rw [stopSilence_posRec]
    exact stoppedRec_mild (old := s) (s := { s with vehicle := frameValues load motion ambient lift set s }) rfl rfl q
  refine stopped.trans ?_
  split
  · exact .refl
  · exact rederiveCaches_changes _ _

theorem vehicle_changes (load motion : Byte) (ambient : BitVec 16) (lift set : Byte) (s : State) :
    Changes (fittedAt s) (posRec s) (posRec (takeVehicleFrame load motion ambient lift set s)) := by
  have first : Changes (fittedAt s) (posRec s) (posRec (announced load motion ambient lift set s)) :=
    announced_changes load motion ambient lift set s
  have kept : fittedAt (announced load motion ambient lift set s) = fittedAt s :=
    fittedAt_congr (s := s) (congrArg Content.geometry (announced_posOnly load motion ambient lift set s).content)
  obtain ⟨-, e⟩ | ⟨-, e⟩ := takeVehicleFrame_cases load motion ambient lift set s <;> rw [e]
  · exact first
  · generalize announced load motion ambient lift set s = u at first kept
    have second := rederiveTrailer_changes u
    rw [kept] at second
    refine ((first.trans second).trans (finishEvent_changes s trailerPositions none _)).trans ?_
    exact changes_of_pos (endWalkIfOpen_walkOnly _ _ _).pos

/-- A position written: made VACANT, or bound where it was VACANT (R53). -/
theorem refit_changes (law : BindingLaw s) (p : Pos) (new : Geometry) :
    Changes (fittedAt s) (posRec s) (posRec (refit p (geometry s p) new (partnerOf s p) (geometryPut p new s))) := by
  have same : ∀ q, posRec (geometryPut p new s) q = posRec s q := fun _ => rfl
  unfold refit
  split
  · next unfit =>
    cases bound : hasBinding (posRec s p).state with
    | false =>
      have bound' : hasBinding (posRec (geometryPut p new s) p).state = false := bound
      rw [bound']
      exact (setBinding_changes (s := geometryPut p new s) none (by decide) (by decide) bound')
    | true =>
      have bound' : hasBinding (posRec (geometryPut p new s) p).state = true := bound
      rw [bound']
      refine (Change.cleared p .vacant none (by decide) (by decide) ?_ (beside_of_leavers fun q hq => ?_)).chain
      · rw [if_pos rfl, setBinding, posRec_modPos_self, clearRuntime_self, same]
        rfl
      · rw [if_pos rfl, setBinding, posRec_modPos_ne _ _ hq, clearRuntime, posRec_modPos_ne _ _ hq, noticeIfLive_eq,
          ← noticeIfLive_beside s hq, noticeIfLive_eq, same, same]
  · split
    · next keeps fit =>
      simp only [Bool.and_eq_true, Bool.not_eq_true'] at fit
      have vacant : (posRec s p).state = .vacant := (law p).1.mpr fit.1
      have was : hasBinding (posRec (geometryPut p new s) p).state = false := by
        rw [same, vacant]
        rfl
      split <;> exact setBinding_changes (s := geometryPut p new s) _ (by decide) (by decide) was
    · exact .refl

theorem regeometry_changes (law : BindingLaw s) (p : Pos) (new : Geometry) :
    Changes (fittedAt s) (posRec s) (posRec (regeometry p new s)) := by
  have fit := refit_changes law p new
  by_cases cls : (geometry s p).cls = new.cls
  · rw [show regeometry p new s = refit p (geometry s p) new (partnerOf s p) (geometryPut p new s) from if_pos cls]
    exact fit
  · rw [show regeometry p new s = rederiveCache (refit p (geometry s p) new (partnerOf s p) (geometryPut p new s)) p from
      if_neg cls]
    generalize refit p (geometry s p) new (partnerOf s p) (geometryPut p new s) = u at fit
    refine fit.trans (Change.mild fun q => ?_).chain
    rw [rederiveCache_posRec]
    split
    · next h =>
      subst h
      exact mild_rederived _ _
    · exact Mild.refl _

/-! ## Every event -/

theorem bound_changes {sid : SensorId} {g : SetNo} {b : TableBinding} (table : bindTable sid g p s = some b) (ev : Evidence)
    (before : State) (touched : List Pos) (sample : Option Pos) :
    Changes (fittedAt s) (posRec s) (posRec (finishEvent before touched sample (bindAndRead b p ev))) := by
  have frame := bindTable_tableOnly table
  have fit : fittedAt b.state = fittedAt s := fittedAt_congr (by rw [frame.content])
  have kept : fittedAt (notified b p) = fittedAt s :=
    (fittedAt_congr (congrArg Content.geometry (notified_posOnly b p).content)).trans fit
  have told := applyNotices_changes { unbind := b.vacated, bind := some p } b.entry b.state
  have read := applyReading_changes p
    { offset := (entryAt b.state b.entry).offset, telegram := ev.telegram, time := b.state.time } (notified b p)
  rw [fit] at told
  rw [kept] at read
  refine (((changes_of_pos frame.pos).trans told).trans ?_).trans (finishEvent_changes before touched sample _)
  rw [bindAndRead_eq]
  exact read

/-- Every event but start-up is a chain of changes of the records. -/
theorem Event.changes {V : Prop} {s t : State} (e : Event V s t) (law : BindingLaw s) :
    Changes (fittedAt s) (posRec s) (posRec t) ∨ t = Machine.startUp s := by
  cases e with
  | startUp => exact .inr rfl
  | same h => exact .inl (changes_of_pos h.pos)
  | port port f => exact .inl (changes_of_pos (modPort_pos _ _ _))
  | dup d => exact .inl .refl
  | records kept mild => exact .inl (Change.mild mild).chain
  | read e valid active placed seq tel =>
    rw [acceptTelegram_eq]
    exact .inl ((applyReading_changes _ _ (recordAcceptance e seq s)).trans (finishEvent_changes _ _ _ _))
  | heard ev =>
    obtain ⟨x, k⟩ := hearStranger_txChan ev s
    exact .inl (changes_of_pos (s := s) k.pos)
  | agedOut => exact .inl .refl
  | walk h kept => exact .inl (changes_of_pos kept.pos)
  | bound h w b ev sound walk table => exact .inl (bound_changes table ev s _ _)
  | vehicle load motion ambient lift g => exact .inl (vehicle_changes load motion ambient lift g s)
  | stale => exact .inl .refl
  | axle a x =>
    obtain ⟨-, -, -, h⟩ | ⟨-, h⟩ := replaceAxle_cases a x s <;> rw [h]
    · exact .inl (dropLift_changes a (axlePut a x s))
    · exact .inl .refl
  | silent p placed => exact .inl ((goSilent_changes p s).trans (finishEvent_changes s [] none _))
  | cleared p => exact .inl ((clearPos_changes p s).trans (finishEvent_changes s _ none _))
  | written e new valid ok free =>
    exact .inl ((applyNotices_changes _ e (dropStranger new.sid (writeEntry e new s))).trans (finishEvent_changes s _ none _))
  | freed e valid => exact .inl ((applyNotices_changes _ e (freeEntry e s)).trans (finishEvent_changes s _ none _))
  | fitted p new => exact .inl ((regeometry_changes law p new).trans (finishEvent_changes s _ none _))
  | profile load cls f => exact .inl (replaceProfile_changes load cls f s)
  | setting f => exact .inl .refl
  | channel c f => exact .inl .refl
  | node n m => exact .inl .refl
  | store x => exact .inl .refl

/-! ## The laws -/

theorem TwinLaw.fit {s : State} (law : TwinLaw s) (places : BindingLaw s) : TwinFit (fittedAt s) (posRec s) := fun p twin => by
  obtain ⟨live, mate⟩ := law p twin
  refine ⟨⟨live, ?_⟩, mate⟩
  show (geometry s p).fitted = true
  cases fit : (geometry s p).fitted with
  | true => rfl
  | false =>
    rw [(places p).1.mpr fit] at live
    cases live

theorem TwinFit.law {g : Pos → Bool} {s : State} (h : TwinFit g (posRec s)) : TwinLaw s := fun p twin => by
  obtain ⟨⟨live, -⟩, mate⟩ := h p twin
  exact ⟨live, mate⟩

/-- Start-up leaves records without a runtime (R57, R110). -/
theorem startRec_facts (s : State) (p : Pos) :
    RecordFacts (startRec s p PosRec.vacant) ∧ (startRec s p PosRec.vacant).cond.active.twin = false := by
  have fresh : ∀ st : PosState, st ≠ .live → st ≠ .silent → ∀ e k,
      RecordFacts { PosRec.vacant with state := st, bound := e, cache := k } := fun st live silent e k =>
    recordFacts_fresh live silent e { PosRec.vacant with cache := k }
  refine ⟨?_, rfl⟩
  unfold startRec
  refine fresh _ ?_ ?_ _ _ <;> split <;> (try split) <;> decide

theorem Event.keeps_twinLaw {V : Prop} {s t : State} (e : Event V s t) (places : BindingLaw s) (law : TwinLaw s) : TwinLaw t := by
  obtain changes | rfl := e.changes places
  · exact (changes.keeps_twin (law.fit places)).law
  · intro p twin
    rw [startUp_posRec, (startRec_facts (Machine.startUp s) p).2] at twin
    cases twin

theorem Event.keeps_recordLaw {V : Prop} {s t : State} (e : Event V s t) (places : BindingLaw s) (law : RecordLaw s) :
    RecordLaw t := by
  intro p
  rw [recordLaw_iff]
  obtain changes | rfl := e.changes places
  · exact changes.keeps_records (fun q => (recordLaw_iff _).mp (law q)) p
  · rw [startUp_posRec]
    exact (startRec_facts (Machine.startUp s) p).1

/-- The laws of content and bindings, and a law that every event and a millisecond keep under them. -/
theorem step_keeps_beside_bindings {P : State → Prop} (waiting : ∀ s x, P s → P { s with pending := x })
    (tick_ : ∀ s, P s → P (tick s)) (event : ∀ V s t, Event V s t → BindingLaw s → P s → P t) {s t : State}
    (law : ConfiguredLaw s) (places : BindingLaw s) (h : P s) (step : step s = .next t) : P t :=
  (step_keeps_of_events (P := fun s => ConfiguredLaw s ∧ BindingLaw s ∧ P s)
    (fun s x ⟨law, places, h⟩ => ⟨law, places, waiting s x h⟩)
    (fun s quiet ⟨law, places, h⟩ => ⟨configuredLaw_tick quiet law, bindingLaw_tick places, tick_ s h⟩)
    (fun _ start s t e ⟨law, places, h⟩ =>
      ⟨e.keeps_configuredLaw start.1.2.2.1 law, e.keeps_bindingLaw start.1.2.2.1 law places, event _ s t e places h⟩)
    ⟨law, places, h⟩ step).2.2

/-- Settles O57. -/
theorem stepKeepsTwinLaw : Obligations.StepKeepsTwinLaw := fun _ _ law places twin step =>
  step_keeps_beside_bindings (P := TwinLaw) (fun _ _ h => h)
    (fun s h p twin => by
      have mild := fun q => countSilence_mild s q
      simp only [tick_posRec, (mild _).state, (mild _).twin] at twin ⊢
      exact h p twin)
    (fun _ _ _ e places h => e.keeps_twinLaw places h) law places twin step

/-- Settles O58. -/
theorem stepKeepsRecordLaw : Obligations.StepKeepsRecordLaw := fun _ _ law places records step =>
  step_keeps_beside_bindings (P := RecordLaw) (fun _ _ h => h)
    (fun s h p => by
      rw [tick_posRec]
      exact (countSilence_mild s p).law (h p))
    (fun _ _ _ e places h => e.keeps_recordLaw places h) law places records step

end Sys2Proof.Machine
end

section
/-! PROOF. Profiles and axles written: the caches they re-derive (R54, R105 to R109). Settles O30 and O21. -/

namespace Sys2Proof.Machine

open Sys2Proof

/-! ## Caches re-derived (R109) -/

/-- A record with its cache re-derived and its pending level discarded. -/
def recached (k : Cache) (r : PosRec) : PosRec := { r with cache := k, cond := { r.cond with pendingLevel := none } }

theorem rederiveCaches_posRec (which : Pos → Bool) (s : State) (p : Pos) :
    posRec (rederiveCaches which s) p = if which p = true then recached (cacheFor s p) (posRec s p) else posRec s p := by
  have all := posRec_foldl (F := rederiveCache) (Inv := fun u => PosOnly s u) (G := fun p => recached (cacheFor s p))
    (fun u p h => h.trans (rederiveCache_posOnly u p))
    (fun u p q h => by
      rw [rederiveCache_posRec, cacheFor_congr (congrArg Content.geometry h.content) (congrArg Content.profiles h.content)
        h.vehicle]
      rfl)
    ((List.nodup_finRange 32).filter which) (PosOnly.refl s) p
  rw [rederiveCaches, all]
  simp

/-! ## Profiles (R105 to R107) -/

theorem profileNo_inj {l l' : LoadState} {k k' : Fin 8} (h : profileNo l' k' = profileNo l k) : l' = l ∧ k' = k := by
  have val := congrArg Fin.val h
  have := k.isLt
  have := k'.isLt
  cases l <;> cases l' <;> simp only [profileNo, loadCode] at val
  all_goals first | exact ⟨rfl, Fin.ext (by omega)⟩ | omega

theorem profilePut_profileFor (l l' : LoadState) (k k' : Fin 8) (f : Profile → Profile) (s : State) :
    profileFor (profilePut l k f s) l' k' = if l' = l ∧ k' = k then f (profileFor s l k) else profileFor s l' k' := by
  have at_ : profileFor (profilePut l k f s) l' k' =
      if profileNo l' k' = profileNo l k then f (profileFor s l k) else profileFor s l' k' := pick_put _ _ _ _
  rw [at_]
  exact if_congr ⟨profileNo_inj, fun ⟨a, b⟩ => by rw [a, b]⟩ rfl rfl

/-- What a written profile leaves, its reply placed. -/
theorem replaceProfile_effect (kind : Byte) (l : LoadState) (k : Fin 8) (f : Profile → Profile) (s : State) :
    let t := reply kind .done (replaceProfile l k f s)
    t.tx = (reply kind .done s).tx ∧ profileFor t l k = f (profileFor s l k) ∧
      (∀ (l' : LoadState) (k' : Fin 8), ¬(l' = l ∧ k' = k) → profileFor t l' k' = profileFor s l' k') ∧
      t.content = { s.content with profiles := t.content.profiles } ∧ t.store = { s.store with changed := true } ∧
      (∀ p : Pos, posRec t p = if (geometry s p).cls = k then recached (cacheFor t p) (posRec s p) else posRec s p) ∧
      t.vehicle = s.vehicle ∧ t.table = s.table ∧ t.chan = s.chan ∧ t.mgmt = s.mgmt := by
  have work : PosOnly (profilePut l k f s) (rederiveCaches (fun p => (geometry s p).cls == k) (profilePut l k f s)) :=
    replaceProfile_posOnly l k f s
  have records := fun p => rederiveCaches_posRec (fun p => (geometry s p).cls == k) (profilePut l k f s) p
  have put := fun l' k' => profilePut_profileFor l l' k k' f s
  rw [show replaceProfile l k f s = rederiveCaches (fun p => (geometry s p).cls == k) (profilePut l k f s) from rfl]
  generalize rederiveCaches (fun p => (geometry s p).cls == k) (profilePut l k f s) = u at records work
  have same : ∀ l' k', profileFor u l' k' = profileFor (profilePut l k f s) l' k' := fun l' k' => by
    rw [profileFor, work.content]
    rfl
  intro t
  refine ⟨reply_tx_congr work.tx work.time _ _, ?own, fun l' k' other => ?others, ?content, work.store, fun p => ?_,
    work.vehicle, work.table, work.chan, work.mgmt⟩
  case own => exact (same l k).trans ((put l k).trans (if_pos ⟨rfl, rfl⟩))
  case others => exact (same l' k').trans ((put l' k').trans (if_neg other))
  case content =>
    show u.content = { s.content with profiles := u.content.profiles }
    rw [work.content]
    rfl
  · have cache : cacheFor t p = cacheFor (profilePut l k f s) p :=
      cacheFor_congr (congrArg Content.geometry work.content) (congrArg Content.profiles work.content) work.vehicle p
    rw [cache]
    refine (records p).trans (if_congr beq_iff_eq rfl rfl)

/-- The checks stand where both nominals do (R108). -/
theorem deriveCache_eq (main low : Profile) :
    deriveCache main low =
      { checks := decide (main.nominal ≠ 0 ∧ low.nominal ≠ 0)
        low := low.nominal * low.lowPct / 100
        critical := low.nominal * low.critPct / 100
        high := main.nominal * main.highPct / 100
        band := max 2 (main.nominal / 50)
        hotLimit := main.hotLimit
        twinLimit := main.twinLimit } := by
  unfold deriveCache
  congr 1
  rw [Bool.eq_iff_iff]
  simp

theorem profileAOk_of {nominal : BitVec 12} {low crit high : Byte} (n : nominal.toNat ≤ 4094) (l1 : 50 ≤ low.toNat)
    (l2 : low.toNat ≤ 99) (c1 : 30 ≤ crit.toNat) (c2 : crit.toNat < low.toNat) (h1 : 101 ≤ high.toNat)
    (h2 : high.toNat ≤ 150) : profileAOk nominal.toNat low.toNat crit.toNat high.toNat = true := by
  simp [profileAOk, *]

theorem profileBOk_of {hot twin leak : Byte} (h : hot.toNat = 0 ∨ 40 ≤ hot.toNat ∧ hot.toNat ≤ 150) :
    profileBOk hot.toNat twin.toNat leak.toNat = true := by
  have := twin.isLt
  have := leak.isLt
  simp only [profileBOk, Bool.and_eq_true, Bool.or_eq_true, beq_iff_eq, decide_eq_true_eq]
  omega

/-- Settles O30: the cache by its definition, both writes by what a replaced profile leaves. -/
theorem profileIsWritten : Obligations.ProfileIsWritten := by
  refine ⟨fun p s => ⟨rfl, rfl, ?_⟩, fun load l cls s served named => ⟨?_, ?_⟩⟩
  · exact deriveCache_eq _ _
  · intro nominal low crit high n l1 l2 c1 c2 h1 h2
    refine ⟨_, congrArg Host.Outcome.next ?_, replaceProfile_effect 0x09 l (Fin.ofNat 8 cls.toNat)
      (fun x => { x with nominal := nominal.toNat, lowPct := low.toNat, critPct := crit.toNat, highPct := high.toNat }) s⟩
    rw [ofLength_self, if_pos (profileAOk_of n l1 l2 c1 c2 h1 h2), named, serve_of_served served]
  · intro hot twin leak h
    refine ⟨_, congrArg Host.Outcome.next ?_, replaceProfile_effect 0x0A l (Fin.ofNat 8 cls.toNat)
      (fun x => { x with hotLimit := hot.toNat, twinLimit := twin.toNat, leakLimit := leak.toNat }) s⟩
    rw [ofLength_self, if_pos (profileBOk_of h), named, serve_of_served served]

/-! ## An axle written (R54) -/

theorem both_named {α β : Type} (a : α) (b : β) : both (some a) (some b) = some (a, b) := rfl

theorem axleRecArg_eq {near : BitVec 2} {margin : BitVec 6} {liftable : Bool} {x : AxleRec}
    (h : axleRecArg near margin liftable = some x) : x.liftable = liftable := by
  unfold axleRecArg at h
  split at h
  · split at h
    · cases h
      rfl
    · cases h
  · cases h

/-- The lift mask and the mask without an axle in it differ at that axle alone. -/
theorem liftWithout_differs {a : AxleNo} {lift : BitVec 8} (up : lift.getLsbD a.val = true) (i : AxleNo) :
    (lift ^^^ liftWithout a lift).getLsbD i.val = decide (i = a) := by
  rw [BitVec.getLsbD_xor, liftWithout_getLsbD]
  by_cases h : i = a
  · subst h
    simp [up]
  · simp [h]

/-- Whether a write takes a lifted axle out of the mask (R43). -/
def AxleDrops (a : AxleNo) (x : AxleRec) (s : State) : Prop :=
  (pick s.content.axles a).liftable = true ∧ x.liftable = false ∧ s.vehicle.lift.getLsbD a.val = true

theorem replaceAxle_posRec (a : AxleNo) (x : AxleRec) (s : State) (p : Pos) :
    (AxleDrops a x s ∧ axleOf p = a → posRec (replaceAxle a x s) p = recached (cacheFor (replaceAxle a x s) p) (posRec s p)) ∧
    (¬(AxleDrops a x s ∧ axleOf p = a) → posRec (replaceAxle a x s) p = posRec s p) := by
  obtain ⟨l, n, up, e⟩ | ⟨keeps, e⟩ := replaceAxle_cases a x s <;> rw [e]
  · have drops : AxleDrops a x s := ⟨l, n, up⟩
    have work := dropLift_posOnly a (axlePut a x s)
    have record := rederiveCaches_posRec
      (fun p => (s.vehicle.lift ^^^ liftWithout a s.vehicle.lift).getLsbD (axleOf p).val)
      { axlePut a x s with vehicle := { s.vehicle with lift := liftWithout a s.vehicle.lift } } p
    rw [liftWithout_differs up] at record
    have run : dropLift a (axlePut a x s) =
        rederiveCaches (fun p => (s.vehicle.lift ^^^ liftWithout a s.vehicle.lift).getLsbD (axleOf p).val)
          { axlePut a x s with vehicle := { s.vehicle with lift := liftWithout a s.vehicle.lift } } := rfl
    have cache : cacheFor (dropLift a (axlePut a x s)) p =
        cacheFor { axlePut a x s with vehicle := { s.vehicle with lift := liftWithout a s.vehicle.lift } } p :=
      cacheFor_congr (congrArg Content.geometry work.content) (congrArg Content.profiles work.content) work.vehicle p
    rw [cache, run]
    refine ⟨fun h => record.trans (if_pos ?_), fun h => record.trans (if_neg ?_)⟩
    · exact decide_eq_true h.2
    · exact fun k => h ⟨drops, of_decide_eq_true k⟩
  · exact ⟨fun h => absurd h.1 keeps, fun _ => rfl⟩

theorem replaceAxle_lift (a : AxleNo) (x : AxleRec) (s : State) :
    (replaceAxle a x s).vehicle = { s.vehicle with lift := (replaceAxle a x s).vehicle.lift } ∧
      ∀ b : AxleNo, (replaceAxle a x s).vehicle.lift.getLsbD b.val =
        (s.vehicle.lift.getLsbD b.val && !(decide (b = a) && (pick s.content.axles a).liftable && !x.liftable)) := by
  obtain ⟨l, n, up, e⟩ | ⟨keeps, e⟩ := replaceAxle_cases a x s <;> rw [e]
  · rw [(dropLift_posOnly a (axlePut a x s)).vehicle]
    refine ⟨rfl, fun b => (liftWithout_getLsbD a b s.vehicle.lift).trans ?_⟩
    rw [l, n]
    by_cases h : b = a <;> simp [h]
  · refine ⟨rfl, fun b => ?_⟩
    show s.vehicle.lift.getLsbD b.val = _
    by_cases h : b = a
    · subst h
      cases up : s.vehicle.lift.getLsbD b.val
      · rfl
      · have : ¬((pick s.content.axles b).liftable = true ∧ x.liftable = false) := fun k => keeps ⟨k.1, k.2, up⟩
        cases l : (pick s.content.axles b).liftable <;> cases n : x.liftable <;> simp_all
    · simp [h]

theorem replaceAxle_chan (a : AxleNo) (x : AxleRec) (s : State) :
    (replaceAxle a x s).chan = s.chan ∧ (replaceAxle a x s).table = s.table ∧ (replaceAxle a x s).tx = s.tx := by
  obtain ⟨-, -, -, e⟩ | ⟨-, e⟩ := replaceAxle_cases a x s <;> rw [e]
  · have k := dropLift_posOnly a (axlePut a x s)
    exact ⟨k.chan, k.table, k.tx⟩
  · exact ⟨rfl, rfl, rfl⟩

theorem halfOfAxle_eq (a : AxleNo) : halfOfAxle a = if a.val < 4 then .truck else .trailer := rfl

/-- Settles O21. -/
theorem axleIsWritten : Obligations.AxleIsWritten := by
  intro axle near margin liftable a x s served named given
  have ran : exec (.writeAxle 4 axle near margin liftable) s = .next (writeAxleRec a x s) := by
    refine congrArg Host.Outcome.next ?_
    rw [ofLength_self, named, given, both_named, serve_of_served served]
  rw [ran, ← halfOfAxle_eq]
  refine ⟨fun isOpen => by rw [writeAxleRec, isOpen]; rfl, fun closed => ⟨_, rfl, ?_⟩⟩
  have run : writeAxleRec a x s = reply 0x05 .done (replaceAxle a x s) := by
    rw [writeAxleRec, closed]
    rfl
  have record := replaceAxle_posRec a x s
  obtain ⟨vehicle, lift⟩ := replaceAxle_lift a x s
  obtain ⟨chan, table, tx⟩ := replaceAxle_chan a x s
  obtain ⟨time, content, -, -, -, -, mgmt, store, truck, trailer, -⟩ := replaceAxle_keeps a x s
  rw [run, ← axleRecArg_eq given]
  generalize replaceAxle a x s = u at *
  have cache : ∀ p, cacheFor (reply 0x05 .done u) p = cacheFor u p := fun _ => rfl
  refine ⟨reply_tx_congr tx time _ _, fun b => ?axles, ?content, store, vehicle, lift, fun p => ?record, chan, table, mgmt,
    truck, trailer⟩
  case axles =>
    rw [reply_content, content]
    exact pick_put _ _ _ _
  case content =>
    rw [reply_content, content]
  case record =>
    rw [posRec_reply, cache]
    obtain ⟨drops, keeps⟩ := record p
    have place : axleOf p = a ↔ p.val / 4 = a.val := Fin.ext_iff
    split
    · next h => exact drops ⟨⟨h.2.2.1, h.2.2.2, h.2.1⟩, place.mpr h.1⟩
    · next h => exact keeps fun k => h ⟨place.mp k.2, k.1.2.2, k.1.1, k.1.2.1⟩

end Sys2Proof.Machine
end

section
/-! PROOF. A position written (R52, R53). Settles O20. -/

namespace Sys2Proof.Machine

open Sys2Proof

/-! ## Events that change no alert state -/

theorem alertReason_of_same {c d : Cond} (level : d.level = c.level) (active : d.active = c.active) :
    alertReason false c d = none := by
  have same : alertReason false c d = alertReason false c c := by
    unfold alertReason madeRaise madeClear
    rw [level, active]
  rw [same, alertReason_same]

/-- A position whose level and conditions an event keeps, and whose runtime it does not clear, gets no frame. -/
theorem eventReason_of_same {before s : State} {touched : List Pos} {q : Pos}
    (untouched : ¬(q ∈ touched ∧ hasBinding (posRec before q).state = true))
    (level : (posRec s q).cond.level = (posRec before q).cond.level)
    (active : (posRec s q).cond.active = (posRec before q).cond.active) : eventReason before touched s q = none := by
  rw [eventReason, decide_eq_false untouched, alertReason_of_same level active]

/-- An event that gives no position a frame, and carries no reading, is closed as it stands. -/
theorem finishEvent_of_quiet {before s : State} {touched : List Pos} (quiet : ∀ q, eventReason before touched s q = none) :
    finishEvent before touched none s = s := by
  rw [finishEvent_eq, foldl_fixed fun q _ => framedAt_none (quiet q) s]
  simp [quiet, tellChannels_nothing]

/-! ## The record of a position written (R53) -/

section Fitted

variable {p : Pos} {new : Geometry} {s : State}

/-- The record of the position before its cache follows its class (R53 steps 1 and 2). -/
def refitRec (p : Pos) (new : Geometry) (s : State) : PosRec :=
  if (geometry s p).fitted = true ∧ new.fitted = false then
    if hasBinding (posRec s p).state = true then freshRec .vacant none (posRec s p)
    else { posRec s p with state := .vacant, bound := none }
  else if (geometry s p).fitted = false ∧ new.fitted = true then
    { posRec s p with state := if (entryFor s p).isSome then .waiting else .unbound, bound := entryFor s p }
  else posRec s p

/-- The position a write takes out of the state it is in. -/
def leftBy (p : Pos) (new : Geometry) (s : State) : List Pos :=
  if (geometry s p).fitted = true ∧ new.fitted = false then [p] else []

/-- The position's state and binding written, its cache not. -/
def refitted (p : Pos) (new : Geometry) (s : State) : State :=
  refit p (geometry s p) new (partnerOf s p) (geometryPut p new s)

theorem refitted_of_unfit (old : (geometry s p).fitted = true) (unfit : new.fitted = false) :
    refitted p new s = setBinding p .vacant none
      (if hasBinding (posRec s p).state = true then clearRuntime p (partnerOf s p) (geometryPut p new s)
       else geometryPut p new s) := by
  rw [refitted, refit, old, unfit]
  rfl

theorem refitted_of_fit (old : (geometry s p).fitted = false) (fit : new.fitted = true) :
    refitted p new s = setBinding p (if (entryFor s p).isSome then .waiting else .unbound) (entryFor s p)
      (geometryPut p new s) := by
  have same : entryFor (geometryPut p new s) p = entryFor s p := rfl
  rw [refitted, refit, old, fit, same]
  cases entryFor s p <;> rfl

theorem refitted_of_same (same : new.fitted = (geometry s p).fitted) : refitted p new s = geometryPut p new s := by
  rw [refitted, refit, same]
  cases (geometry s p).fitted <;> rfl

theorem clearRuntime_beside_of_pos {s u : State} (pos : u.pos = s.pos) {p q : Pos} (h : q ≠ p) :
    posRec (clearRuntime p (partnerOf s p) u) q = besideLeavers s [p] q := by
  rw [← clearRuntime_beside s h, clearRuntime, clearRuntime, posRec_modPos_ne _ _ h, posRec_modPos_ne _ _ h, noticeIfLive_eq,
    noticeIfLive_eq, posRec_of_pos pos, posRec_of_pos pos]

/-- The three writes: one that makes the position unfit, one that makes it fit, and one that leaves it as it is. -/
theorem fitted_cases (p : Pos) (new : Geometry) (s : State) :
    ((geometry s p).fitted = true ∧ new.fitted = false) ∨ ((geometry s p).fitted = false ∧ new.fitted = true) ∨
      new.fitted = (geometry s p).fitted := by
  cases (geometry s p).fitted <;> cases new.fitted <;> simp

theorem refitRec_of_unfit (old : (geometry s p).fitted = true) (unfit : new.fitted = false) :
    refitRec p new s = if hasBinding (posRec s p).state = true then freshRec .vacant none (posRec s p)
      else { posRec s p with state := .vacant, bound := none } := if_pos ⟨old, unfit⟩

theorem refitRec_of_fit (old : (geometry s p).fitted = false) (fit : new.fitted = true) :
    refitRec p new s =
      { posRec s p with state := if (entryFor s p).isSome then .waiting else .unbound, bound := entryFor s p } :=
  (if_neg fun h => by rw [old] at h; cases h.1).trans (if_pos ⟨old, fit⟩)

theorem refitRec_of_same (same : new.fitted = (geometry s p).fitted) : refitRec p new s = posRec s p :=
  (if_neg fun h => by rw [same, h.1] at h; cases h.2).trans (if_neg fun h => by rw [same, h.1] at h; cases h.2)

theorem leftBy_of_unfit (old : (geometry s p).fitted = true) (unfit : new.fitted = false) : leftBy p new s = [p] :=
  if_pos ⟨old, unfit⟩

theorem leftBy_of_fit (old : (geometry s p).fitted = false) : leftBy p new s = [] :=
  if_neg fun h => by rw [old] at h; cases h.1

theorem leftBy_of_same (same : new.fitted = (geometry s p).fitted) : leftBy p new s = [] :=
  if_neg fun h => by rw [same, h.1] at h; cases h.2

theorem posRec_setBinding (p : Pos) (st : PosState) (e : Option EntryNo) (s : State) :
    posRec (setBinding p st e s) p = { posRec s p with state := st, bound := e } := posRec_modPos_self _ _ _

theorem posRec_setBinding_ne {p q : Pos} (st : PosState) (e : Option EntryNo) (s : State) (h : q ≠ p) :
    posRec (setBinding p st e s) q = posRec s q := posRec_modPos_ne _ _ h

theorem refitted_self : posRec (refitted p new s) p = refitRec p new s := by
  have kept : posRec (geometryPut p new s) p = posRec s p := rfl
  obtain ⟨old, unfit⟩ | ⟨old, fit⟩ | same := fitted_cases p new s
  · rw [refitted_of_unfit old unfit, posRec_setBinding, refitRec_of_unfit old unfit]
    by_cases bound : hasBinding (posRec s p).state = true
    · rw [if_pos bound, if_pos bound, clearRuntime_self, kept]
      rfl
    · rw [if_neg bound, if_neg bound, kept]
  · rw [refitted_of_fit old fit, posRec_setBinding, refitRec_of_fit old fit, kept]
  · rw [refitted_of_same same, refitRec_of_same same, kept]

theorem refitted_beside {q : Pos} (h : q ≠ p) : posRec (refitted p new s) q = besideLeavers s (leftBy p new s) q := by
  have kept : posRec (geometryPut p new s) q = posRec s q := rfl
  obtain ⟨old, unfit⟩ | ⟨old, fit⟩ | same := fitted_cases p new s
  · rw [refitted_of_unfit old unfit, posRec_setBinding_ne _ _ _ h, leftBy_of_unfit old unfit]
    by_cases bound : hasBinding (posRec s p).state = true
    · rw [if_pos bound]
      exact clearRuntime_beside_of_pos (s := s) (u := geometryPut p new s) rfl h
    · have stays : ¬twinEnds s p = true := fun ends => bound (by rw [((twinEnds_iff s p).mp ends).1]; rfl)
      rw [if_neg bound, kept, besideLeavers_of_not_ends stays]
  · rw [refitted_of_fit old fit, posRec_setBinding_ne _ _ _ h, leftBy_of_fit old, besideLeavers_nil, kept]
  · rw [refitted_of_same same, leftBy_of_same same, besideLeavers_nil, kept]

theorem regeometry_posRec (p : Pos) (new : Geometry) (s : State) :
    posRec (regeometry p new s) p =
      (if (geometry s p).cls = new.cls then refitRec p new s
        else recached (cacheFor (regeometry p new s) p) (refitRec p new s)) ∧
      ∀ q, q ≠ p → posRec (regeometry p new s) q = besideLeavers s (leftBy p new s) q := by
  have run : regeometry p new s =
      if (geometry s p).cls = new.cls then refitted p new s else rederiveCache (refitted p new s) p := rfl
  by_cases cls : (geometry s p).cls = new.cls
  · rw [run, if_pos cls, if_pos cls]
    exact ⟨refitted_self, fun q h => refitted_beside h⟩
  · have kept := rederiveCache_posOnly (refitted p new s) p
    rw [run, if_neg cls, if_neg cls, cacheFor_congr (congrArg Content.geometry kept.content)
      (congrArg Content.profiles kept.content) kept.vehicle]
    refine ⟨?_, fun q h => ?_⟩
    · rw [rederiveCache_posRec, if_pos rfl, refitted_self]
      rfl
    · rw [rederiveCache_posRec, if_neg h]
      exact refitted_beside h

theorem refitRec_cache : (refitRec p new s).cache = (posRec s p).cache := by
  obtain ⟨old, unfit⟩ | ⟨old, fit⟩ | same := fitted_cases p new s
  · rw [refitRec_of_unfit old unfit]
    split <;> rfl
  · rw [refitRec_of_fit old fit]
  · rw [refitRec_of_same same]

theorem leftBy_eq_unfitted : unfitted p (geometry s p) new = leftBy p new s := by
  simp [unfitted, leftBy]

end Fitted

/-- The event of a write that changes neither fitting nor anything of the alert state gives no frame. -/
theorem regeometry_quiet {p : Pos} {new : Geometry} {s : State} (same : new.fitted = (geometry s p).fitted) (q : Pos) :
    eventReason s (leftBy p new s) (regeometry p new s) q = none := by
  obtain ⟨self, others⟩ := regeometry_posRec p new s
  rw [leftBy_of_same same] at others ⊢
  by_cases hq : q = p
  · subst hq
    rw [refitRec_of_same same] at self
    refine eventReason_of_same (by simp) ?_ ?_ <;> rw [self] <;> split <;> rfl
  · have record := others q hq
    rw [besideLeavers_nil] at record
    refine eventReason_of_same (by simp) ?_ ?_ <;> rw [record]

/-- Settles O20: a write of a position is the event of `regeometry`, then the reply. -/
theorem positionIsWritten : Obligations.PositionIsWritten := by
  intro position fitted cls p s served named
  have ran : exec (.writePosition 3 position fitted cls) s =
      .next (writePos p { fitted := fitted, cls := Fin.ofNat 8 cls.toNat } s) := by
    refine congrArg Host.Outcome.next ?_
    rw [ofLength_self, named, serve_of_served served]
  have sameClass : ((geometry s p).cls.val = cls.toNat) = ((geometry s p).cls = Fin.ofNat 8 cls.toNat) := by
    have := cls.isLt
    rw [eq_iff_iff, Fin.ext_iff]
    show _ ↔ _ = cls.toNat % 8
    omega
  rw [ran]
  refine ⟨fun isOpen => by rw [writePos, if_pos isOpen], fun closed => ⟨_, rfl, ?_⟩⟩
  obtain ⟨new, hnew⟩ : ∃ new : Geometry, new = { fitted := fitted, cls := Fin.ofNat 8 cls.toNat } := ⟨_, rfl⟩
  have newFitted : new.fitted = fitted := by rw [hnew]
  have newClass : new.cls = Fin.ofNat 8 cls.toNat := by rw [hnew]
  rw [← hnew]
  simp only [sameClass, ← newFitted, ← newClass]
  have run : writePos p new s = reply 0x04 .done (finishEvent s (leftBy p new s) none (regeometry p new s)) := by
    rw [writePos, if_neg (by simp [closed]), leftBy_eq_unfitted]
  have work : PosOnly (geometryPut p new s) (regeometry p new s) := regeometry_posOnly p new s
  have reach := finishEvent_reach s (leftBy p new s) none (regeometry p new s)
  have closing := fun q => finishEvent_record s (leftBy p new s) none (regeometry p new s) q
  have quiet := fun q => finishEvent_quiet s (leftBy p new s) none (regeometry p new s) q
  have unreported := fun same => finishEvent_of_quiet (regeometry_quiet (p := p) (new := new) (s := s) same)
  obtain ⟨self, others⟩ := regeometry_posRec p new s
  rw [run]
  generalize hu : regeometry p new s = u at *
  generalize hv : finishEvent s (leftBy p new s) none u = v at *
  have content : v.content = (geometryPut p new s).content := reach.content.trans work.content
  have vehicle : v.vehicle = s.vehicle := reach.vehicle.trans work.vehicle
  have cache : cacheFor (reply 0x04 .done v) p = cacheFor u p :=
    cacheFor_congr (congrArg Content.geometry reach.content) (congrArg Content.profiles reach.content) reach.vehicle p
  refine ⟨⟨u, v, rfl, ⟨hv.symm, work.tx, work.chan⟩, others, ?record⟩, fun q => ?geometry, ?content,
    reach.store.trans work.store, reach.table.trans work.table, vehicle, reach.mgmt.trans work.mgmt,
    reach.truckWalk.trans work.truckWalk, reach.trailerWalk.trans work.trailerWalk, fun old unfit => ?vacant, ?cache,
    fun q hq hm => ?others, fun old fit => ?bound, fun same other => ?classOnly, fun same cls => ?nothing⟩
  all_goals try rw [posRec_reply]
  case record =>
    rw [cache]
    exact self
  case geometry =>
    show geometry v q = _
    rw [geometry_congr (s := geometryPut p new s) (congrArg Content.geometry content)]
    exact pick_put _ _ _ _
  case content =>
    show v.content = { s.content with geometry := v.content.geometry }
    rw [content]
    rfl
  case vacant =>
    have state := (closing p).state
    have bound := (closing p).bound
    rw [self] at state bound
    split at state
    · next cls =>
      rw [if_pos cls] at bound
      rw [state, bound, refitRec_of_unfit old unfit]
      split <;> exact ⟨rfl, rfl⟩
    · next cls =>
      rw [if_neg cls] at bound
      rw [state, bound, refitRec_of_unfit old unfit]
      unfold recached
      split <;> exact ⟨rfl, rfl⟩
  case cache =>
    rw [(closing p).cache, self, cache]
    split
    · exact refitRec_cache
    · rfl
  case others =>
    have beside : posRec u q = posRec s q := by
      rw [others q hq]
      unfold leftBy
      split
      · exact besideLeavers_other hm
      · exact besideLeavers_nil s q
    have untouched : q ∉ leftBy p new s := by
      unfold leftBy
      split <;> simp [hq]
    exact (quiet q untouched beside).trans beside
  case bound =>
    have state := (closing p).state
    have bound := (closing p).bound
    rw [self] at state bound
    split at state
    · next cls =>
      rw [if_pos cls] at bound
      rw [state, bound, refitRec_of_fit old fit]
      exact ⟨rfl, rfl⟩
    · next cls =>
      rw [if_neg cls] at bound
      rw [state, bound, refitRec_of_fit old fit]
      exact ⟨rfl, rfl⟩
  case classOnly =>
    rw [cache, unreported same.symm, self, if_neg fun k => other (sameClass.mpr (k.trans newClass)), refitRec_of_same same.symm]
    rfl
  case nothing =>
    have put : u = geometryPut p new s := by
      rw [← hu]
      exact (if_pos cls).trans (refitted_of_same same.symm)
    rw [unreported same.symm, put]
    rfl

end Sys2Proof.Machine
end

section
/-! PROOF. Several positions that leave the state they are in, one after the other in one event: the order of their
notices is not seen (R57 to R60, R117). Sensor entries written and cleared. Settles O14. -/

namespace Sys2Proof.Machine

open Sys2Proof

/-! ## Leavers one after the other -/

/-- The record of q in an event that takes the positions `left` out of the state they are in, before any is bound anew:
one of them that held a binding has a clear runtime and is UNBOUND (R57, R59). -/
def leftRec (s : State) (left : List Pos) (q : Pos) : PosRec :=
  if q ∈ left ∧ hasBinding (posRec s q).state = true then freshRec .unbound none (posRec s q) else besideLeavers s left q

theorem besideLeavers_congr_mem {s : State} {a b : List Pos} (h : ∀ x, x ∈ a ↔ x ∈ b) (q : Pos) :
    besideLeavers s a q = besideLeavers s b q := by
  unfold besideLeavers
  exact if_congr (and_congr_left' (h _)) rfl rfl

theorem leftRec_congr_mem {s : State} {a b : List Pos} (h : ∀ x, x ∈ a ↔ x ∈ b) (q : Pos) :
    leftRec s a q = leftRec s b q := by
  unfold leftRec
  rw [besideLeavers_congr_mem h]
  exact if_congr (and_congr_left' (h q)) rfl rfl

theorem leftRec_nil (s : State) (q : Pos) : leftRec s [] q = posRec s q := by
  unfold leftRec
  rw [if_neg (by simp), besideLeavers_nil]

theorem leftRec_of_not_mem {s : State} {left : List Pos} {q : Pos} (h : q ∉ left) :
    leftRec s left q = besideLeavers s left q := if_neg fun k => h k.1

theorem leftRec_of_unbound {s : State} {left : List Pos} {q : Pos} (h : hasBinding (posRec s q).state = false) :
    leftRec s left q = besideLeavers s left q := if_neg fun k => by rw [h] at k; cases k.2

theorem leftRec_of_bound {s : State} {left : List Pos} {q : Pos} (mem : q ∈ left)
    (h : hasBinding (posRec s q).state = true) : leftRec s left q = freshRec .unbound none (posRec s q) := if_pos ⟨mem, h⟩

/-- A rewriting of the state and the bound entry alone. -/
def reseated (st : PosState) (e : Option EntryNo) (r : PosRec) : PosRec := { r with state := st, bound := e }

theorem withoutTwin_reseated (st : PosState) (e : Option EntryNo) (r : PosRec) :
    withoutTwin (reseated st e r) = reseated st e (withoutTwin r) := rfl

theorem hasBinding_of_twinEnds {s : State} {p : Pos} (h : twinEnds s p = true) : hasBinding (posRec s p).state = true := by
  rw [((twinEnds_iff s p).mp h).1]
  rfl

/-- Beside the leavers a record keeps its state. -/
theorem besideLeavers_state (s : State) (left : List Pos) (q : Pos) :
    (besideLeavers s left q).state = (posRec s q).state ∧ (besideLeavers s left q).bound = (posRec s q).bound ∧
      (besideLeavers s left q).cache = (posRec s q).cache := by
  obtain h | h := besideLeavers_cases s left q <;> rw [h] <;> exact ⟨rfl, rfl, rfl⟩

theorem freshRec_besideLeavers (s : State) (left : List Pos) (q : Pos) (st : PosState) (e : Option EntryNo) :
    freshRec st e (besideLeavers s left q) = freshRec st e (posRec s q) := by
  unfold freshRec
  rw [(besideLeavers_state s left q).2.2]

section Leave

variable {s u : State} {done : List Pos} {W : Pos → PosRec → PosRec} {p : Pos}

/-- TWIN still ends with a position not yet taken, unless it has ended with its partner. -/
theorem twinEnds_later (geo : u.content.geometry = s.content.geometry) (here : posRec u p = besideLeavers s done p) :
    twinEnds u p = true ↔ twinEnds s p = true ∧ ¬(mateOf p ∈ done ∧ twinEnds s (mateOf p) = true) := by
  have fit : ∀ q, geometry u q = geometry s q := geometry_congr geo
  simp only [twinEnds, decide_eq_true_eq, here, fit, (besideLeavers_state s done p).1, mateOf_mateOf]
  unfold besideLeavers
  by_cases h : mateOf p ∈ done ∧ twinEnds s (mateOf p) = true
  · rw [if_pos h]
    have ends := h.2
    simp only [twinEnds, decide_eq_true_eq, mateOf_mateOf] at ends
    simp [withoutTwin, h.1, ends]
  · rw [if_neg h]
    simp only [twinEnds, decide_eq_true_eq, mateOf_mateOf] at h
    tauto

/-- An unbind notice to a position not yet taken: it joins those taken. W rewrites the seats of those taken before. -/
theorem unbindPos_leftRec (geo : u.content.geometry = s.content.geometry) (notin : p ∉ done) (plain : W p = id)
    (seats : ∀ q r, withoutTwin (W q r) = W q (withoutTwin r))
    (records : ∀ q, posRec u q = W q (leftRec s done q)) (q : Pos) :
    posRec (unbindPos p u) q = W q (leftRec s (p :: done) q) := by
  have here : posRec u p = besideLeavers s done p := by rw [records, plain, leftRec_of_not_mem notin]; rfl
  have state : (posRec u p).state = (posRec s p).state := by rw [here, (besideLeavers_state s done p).1]
  have ends := twinEnds_later geo here
  cases bound : hasBinding (posRec s p).state with
  | true =>
    have bound' : hasBinding (posRec u p).state = true := by rw [state]; exact bound
    by_cases hq : q = p
    · subst hq
      rw [unbindPos_bound_self bound', here, freshRec_besideLeavers, leftRec_of_bound List.mem_cons_self bound, plain]
      rfl
    · rw [unbindPos_beside bound' hq]
      unfold besideLeavers
      rw [records q]
      by_cases mate : mateOf q = p ∧ twinEnds u p = true
      · obtain ⟨rfl, now⟩ := mate
        obtain ⟨was, later⟩ := ends.mp now
        rw [if_pos ⟨List.mem_singleton_self _, now⟩, seats]
        congr 1
        by_cases own : q ∈ done ∧ hasBinding (posRec s q).state = true
        · rw [leftRec_of_bound own.1 own.2, leftRec_of_bound (List.mem_cons_of_mem _ own.1) own.2]
          rfl
        · have away : leftRec s done q = besideLeavers s done q := if_neg own
          have away' : leftRec s (mateOf q :: done) q = besideLeavers s (mateOf q :: done) q :=
            if_neg fun k => own ⟨(List.mem_cons.mp k.1).resolve_left (Ne.symm (mateOf_ne q)), k.2⟩
          rw [away, away']
          obtain h | h := besideLeavers_cases s done q
          all_goals
            rw [h]
            unfold besideLeavers
            rw [if_pos ⟨List.mem_cons_self, was⟩]
          rfl
      · rw [if_neg (c := mateOf q ∈ [p] ∧ twinEnds u (mateOf q) = true) fun k =>
          mate ⟨List.mem_singleton.mp k.1, (List.mem_singleton.mp k.1) ▸ k.2⟩]
        congr 1
        by_cases own : q ∈ done ∧ hasBinding (posRec s q).state = true
        · rw [leftRec_of_bound own.1 own.2, leftRec_of_bound (List.mem_cons_of_mem _ own.1) own.2]
        · have away : leftRec s done q = besideLeavers s done q := if_neg own
          have away' : leftRec s (p :: done) q = besideLeavers s (p :: done) q :=
            if_neg fun k => own ⟨(List.mem_cons.mp k.1).resolve_left hq, k.2⟩
          rw [away, away']
          unfold besideLeavers
          by_cases hm : mateOf q = p
          · subst hm
            rw [if_neg fun k => notin k.1, if_neg]
            rintro ⟨-, was⟩
            refine mate ⟨rfl, ends.mpr ⟨was, ?_⟩⟩
            rw [mateOf_mateOf]
            rintro ⟨mem, mine⟩
            exact own ⟨mem, hasBinding_of_twinEnds mine⟩
          · refine if_congr ?_ rfl rfl
            simp [hm]
  | false =>
    have bound' : hasBinding (posRec u p).state = false := by rw [state]; exact bound
    rw [unbindPos_of_unbound bound', records q]
    have quiet : ¬twinEnds s p = true := fun h => by rw [hasBinding_of_twinEnds h] at bound; cases bound
    congr 1
    have same : besideLeavers s (p :: done) q = besideLeavers s done q := by
      unfold besideLeavers
      refine if_congr ?_ rfl rfl
      refine and_congr_left fun h => ?_
      have : mateOf q ≠ p := fun e => quiet (e ▸ h)
      simp [this]
    unfold leftRec
    rw [same]
    refine if_congr ?_ rfl rfl
    refine and_congr_left fun h => ?_
    have : q ≠ p := fun e => by rw [e, bound] at h; cases h
    simp [this]

/-- A bind notice is an unbind notice that leaves the position WAITING and bound. -/
theorem bindPos_posRec (state : (posRec u p).state ≠ .vacant) (e : EntryNo) (q : Pos) :
    posRec (bindPos p e u) q =
      if q = p then reseated .waiting (some e) (posRec (unbindPos p u) p) else posRec (unbindPos p u) q := by
  cases bound : hasBinding (posRec u p).state with
  | true =>
    split
    · next h =>
      subst h
      rw [bindPos_bound_self bound, unbindPos_bound_self bound]
      rfl
    · next h => rw [bindPos_beside bound e h, unbindPos_beside bound h]
  | false =>
    have unbound : (posRec u p).state = .unbound := by
      cases h : (posRec u p).state with
      | unbound => rfl
      | vacant => exact absurd h state
      | waiting | live | silent => rw [h] at bound; cases bound
    rw [bindPos_of_unbound unbound, unbindPos_of_unbound bound, setBinding, posRec_modPos]
    rfl

end Leave

/-! ## The notices of a write (R28, R58, R59) -/

/-- The record of a position of record r that is bound to entry e, from its record `base` before (R58). -/
def boundSeat (e : EntryNo) (r base : PosRec) : PosRec :=
  match base.state with
  | .vacant => base
  | .unbound => { base with state := .waiting, bound := some e }
  | .waiting | .live | .silent => freshRec .waiting (some e) r

theorem boundSeat_of_vacant {r base : PosRec} (h : base.state = .vacant) (e : EntryNo) : boundSeat e r base = base := by
  unfold boundSeat
  rw [h]

theorem boundSeat_of_unbound {r base : PosRec} (h : base.state = .unbound) (e : EntryNo) :
    boundSeat e r base = reseated .waiting (some e) base := by
  unfold boundSeat
  rw [h]
  rfl

theorem boundSeat_of_bound {r base : PosRec} (h : hasBinding base.state = true) (e : EntryNo) :
    boundSeat e r base = freshRec .waiting (some e) r := by
  unfold boundSeat
  split
  · next k => rw [k] at h; cases h
  · next k => rw [k] at h; cases h
  all_goals rfl

theorem unbound_of_not_bound {st : PosState} (h : hasBinding st = false) (vacant : st ≠ .vacant) : st = .unbound := by
  cases st with
  | unbound => rfl
  | vacant => exact absurd rfl vacant
  | waiting | live | silent => cases h

/-- The record of q after the notices to the position that loses its entry and to the one that is bound. -/
def toldRec (s : State) (n : Notices) (e : EntryNo) (q : Pos) : PosRec :=
  let base := if q ∈ n.unbind.toList ∧ hasBinding (posRec s q).state = true then freshRec .unbound none (posRec s q)
    else besideLeavers s (n.unbind.toList ++ n.bind.toList) q
  if q ∈ n.bind.toList then boundSeat e (posRec s q) base else base

section Told

variable {s u : State} {n : Notices} {e : EntryNo}

/-- The unbind notice of a write, if any. -/
def unbindFirst (l : Option Pos) (u : State) : State :=
  match l with
  | some p => unbindPos p u
  | none => u

theorem applyNotices_none (l : Option Pos) (e : EntryNo) (u : State) :
    applyNotices { unbind := l, bind := none } e u = unbindFirst l u := rfl

theorem applyNotices_some (l : Option Pos) (p : Pos) (e : EntryNo) (u : State) :
    applyNotices { unbind := l, bind := some p } e u = bindPos p e (unbindFirst l u) := rfl

theorem unbindFirst_posOnly (l : Option Pos) (u : State) : PosOnly u (unbindFirst l u) := by
  cases l with
  | none => exact PosOnly.refl u
  | some p => exact unbindPos_posOnly p u

theorem unbindFirst_posRec (geo : u.content.geometry = s.content.geometry) (pos : u.pos = s.pos) (l : Option Pos) (q : Pos) :
    posRec (unbindFirst l u) q = leftRec s l.toList q := by
  cases l with
  | none =>
    rw [Option.toList_none, leftRec_nil]
    exact posRec_of_pos pos q
  | some p =>
    exact unbindPos_leftRec (W := fun _ => id) (done := []) geo List.not_mem_nil rfl (fun _ _ => rfl)
      (fun q => by rw [leftRec_nil, posRec_of_pos pos]; rfl) q

/-- An unbind notice after another, to the same position or to a second one. -/
theorem unbindPos_unbindFirst_posRec (geo : u.content.geometry = s.content.geometry) (pos : u.pos = s.pos) (l : Option Pos)
    (p q : Pos) : posRec (unbindPos p (unbindFirst l u)) q = leftRec s (p :: l.toList) q := by
  have first := unbindFirst_posRec geo pos l
  have content := (congrArg Content.geometry (unbindFirst_posOnly l u).content).trans geo
  generalize unbindFirst l u = x at first content
  by_cases mem : p ∈ l.toList
  · have unbound : hasBinding (posRec x p).state = false := by
      rw [first]
      cases bound : hasBinding (posRec s p).state with
      | true => rw [leftRec_of_bound mem bound]; rfl
      | false => rw [leftRec_of_unbound bound, (besideLeavers_state _ _ _).1, bound]
    rw [unbindPos_of_unbound unbound, first]
    exact leftRec_congr_mem (fun y => ⟨List.mem_cons_of_mem _, fun h => (List.mem_cons.mp h).elim (fun e => e ▸ mem) id⟩) q
  · exact unbindPos_leftRec (W := fun _ => id) content mem rfl (fun _ _ => rfl) first q

theorem toldRec_of_not_bound {q : Pos} (h : q ∉ n.bind.toList) : toldRec s n e q = leftRec s (n.bind.toList ++ n.unbind.toList) q := by
  unfold toldRec
  dsimp only
  rw [if_neg h]
  unfold leftRec
  rw [besideLeavers_congr_mem (b := n.bind.toList ++ n.unbind.toList) fun x => by simp [or_comm]]
  refine if_congr ?_ rfl rfl
  simp [h]

/-- Beside the position that is bound nothing differs from the unbind notices alone, and at it its binding. -/
theorem applyNotices_posRec (geo : u.content.geometry = s.content.geometry) (pos : u.pos = s.pos) (q : Pos) :
    posRec (applyNotices n e u) q = toldRec s n e q := by
  obtain ⟨l, b⟩ := n
  have first := unbindFirst_posRec geo pos l
  cases b with
  | none =>
    rw [applyNotices_none, first, toldRec_of_not_bound (by simp)]
    rfl
  | some p =>
    have second := unbindPos_unbindFirst_posRec geo pos l p
    rw [applyNotices_some]
    generalize unbindFirst l u = x at first second
    have beside := besideLeavers_congr_mem (s := s) (a := p :: l.toList) (b := l.toList ++ (some p).toList)
      fun y => by simp [or_comm]
    have base : (besideLeavers s (l.toList ++ (some p).toList) p).state = (posRec s p).state := (besideLeavers_state _ _ _).1
    by_cases hq : q = p
    · subst hq
      have told : ∀ x, toldRec s { unbind := l, bind := some q } x q = boundSeat x (posRec s q)
          (if q ∈ l.toList ∧ hasBinding (posRec s q).state = true then freshRec .unbound none (posRec s q)
           else besideLeavers s (l.toList ++ (some q).toList) q) := fun x => if_pos (by simp)
      rw [told]
      cases bound : hasBinding (posRec s q).state with
      | true =>
        have state : (posRec x q).state ≠ .vacant := by
          rw [first]
          unfold leftRec
          split
          · nofun
          · intro vacant
            rw [(besideLeavers_state _ _ _).1] at vacant
            rw [vacant] at bound
            cases bound
        rw [bindPos_posRec state, if_pos rfl, second, leftRec_of_bound List.mem_cons_self bound]
        by_cases mem : q ∈ l.toList
        · rw [if_pos ⟨mem, rfl⟩]
          exact (boundSeat_of_unbound rfl e).symm
        · rw [if_neg fun k => mem k.1]
          exact (boundSeat_of_bound (by rw [base]; exact bound) e).symm
      | false =>
        have here : leftRec s l.toList q = posRec x q := (first q).symm
        rw [leftRec_of_unbound bound] at here
        rw [if_neg nofun]
        by_cases vacant : (posRec s q).state = .vacant
        · have state : (posRec x q).state = .vacant := by rw [← here, (besideLeavers_state _ _ _).1, vacant]
          have idle : unbindPos q x = x := unbindPos_of_unbound (by rw [state]; rfl)
          rw [bindPos_of_vacant state, ← idle, second, leftRec_of_unbound bound, beside]
          exact (boundSeat_of_vacant (base.trans vacant) e).symm
        · have state : (posRec x q).state ≠ .vacant := by
            rw [← here, (besideLeavers_state _ _ _).1]
            exact vacant
          rw [bindPos_posRec state, if_pos rfl, second, leftRec_of_unbound bound, beside]
          exact (boundSeat_of_unbound (base.trans (unbound_of_not_bound bound vacant)) e).symm
    · rw [toldRec_of_not_bound (by simp [hq])]
      by_cases state : (posRec x p).state = .vacant
      · have idle : unbindPos p x = x := unbindPos_of_unbound (by rw [state]; rfl)
        rw [bindPos_of_vacant state, ← idle, second]
        rfl
      · rw [bindPos_posRec state, if_neg hq, second]
        rfl

end Told

/-! ## The entry written (R27, R28) -/

theorem isActive_iff (s : State) (g : SetNo) : isActive s g = true ↔ g = 0 ∨ g = s.vehicle.set := by
  simp [isActive]

theorem sensorArg_sid {sid : SensorId} {pos : BitVec 6} {set : BitVec 2} {offset : Byte} {x : Entry}
    (h : sensorArg sid pos set offset = some x) : x.sid = sid := by
  unfold sensorArg at h
  dsimp only at h
  split at h
  · cases h
    rfl
  · cases h

theorem clashes_iff (s : State) (e : EntryNo) (new : Entry) :
    clashes s e new = true ↔ ∃ i : EntryNo, i ≠ e ∧ (entryAt s i).valid = true ∧
      ((entryAt s i).sid = new.sid ∨ ((entryAt s i).set = new.set ∧ (entryAt s i).pos = new.pos)) := by
  simp [clashes, and_assoc]

/-- Whether a written entry keeps the place of the one before (R28). -/
abbrev SamePlace (old new : Entry) : Prop := old.valid = true ∧ old.set = new.set ∧ old.pos = new.pos

theorem activePlace_toList (s : State) (x : Entry) :
    (activePlace s x).toList = if x.valid = true ∧ (x.set = 0 ∨ x.set = s.vehicle.set) then [x.pos] else [] := by
  have same : (x.valid && isActive s x.set) = true ↔ x.valid = true ∧ (x.set = 0 ∨ x.set = s.vehicle.set) := by
    rw [Bool.and_eq_true, isActive_iff]
  unfold activePlace
  split
  · next h => rw [if_pos (same.mp h)]; rfl
  · next h => rw [if_neg (mt same.mpr h)]; rfl

section Notices

variable {s : State} {old new : Entry}

theorem noticesOf_same_sensor (valid : new.valid = true) (same : SamePlace old new) (sid : old.sid = new.sid) :
    noticesOf s old new = { unbind := none, bind := none } := by
  obtain ⟨v, g, p⟩ := same
  simp [noticesOf, valid, v, g, p, sid]

theorem noticesOf_same_place (valid : new.valid = true) (same : SamePlace old new) (sid : old.sid ≠ new.sid) :
    noticesOf s old new = { unbind := none, bind := activePlace s new } := by
  obtain ⟨v, g, p⟩ := same
  simp [noticesOf, valid, v, g, p, sid]

theorem noticesOf_moved (moved : ¬SamePlace old new) :
    noticesOf s old new = { unbind := activePlace s old, bind := activePlace s new } := by
  have no : ¬(old.valid && new.valid && old.set == new.set && old.pos == new.pos) = true := by
    simp only [Bool.and_eq_true, beq_iff_eq]
    exact fun h => moved ⟨h.1.1.1, h.1.2, h.2⟩
  rw [noticesOf, if_neg no]

/-- The position that loses its entry and the one that is bound (R28). -/
theorem noticesOf_toList (valid : new.valid = true) :
    (noticesOf s old new).unbind.toList =
      (if old.valid = true ∧ (old.set = 0 ∨ old.set = s.vehicle.set) ∧ ¬SamePlace old new then [old.pos] else []) ∧
    (noticesOf s old new).bind.toList =
      (if (new.set = 0 ∨ new.set = s.vehicle.set) ∧ ¬(SamePlace old new ∧ old.sid = new.sid) then [new.pos] else []) := by
  have bind : (activePlace s new).toList = if new.set = 0 ∨ new.set = s.vehicle.set then [new.pos] else [] := by
    rw [activePlace_toList]
    simp [valid]
  by_cases same : SamePlace old new
  · by_cases sid : old.sid = new.sid
    · rw [noticesOf_same_sensor valid same sid]
      simp [same, sid]
    · rw [noticesOf_same_place valid same sid]
      refine ⟨by simp [same], bind.trans ?_⟩
      simp [sid]
  · rw [noticesOf_moved same]
    refine ⟨(activePlace_toList s old).trans ?_, bind.trans ?_⟩
    · simp [same]
    · simp [same]

end Notices

/-- A position that no notice reaches, nor its neighbour, keeps its record. -/
theorem toldRec_of_away {s : State} {n : Notices} {q : Pos}
    (h : ∀ x ∈ n.unbind.toList ++ n.bind.toList, q ≠ x ∧ q ≠ mateOf x) (e : EntryNo) : toldRec s n e q = posRec s q := by
  have away : ∀ x ∈ n.bind.toList ++ n.unbind.toList, q ≠ x ∧ q ≠ mateOf x := fun x hx =>
    h x (List.mem_append.mpr (List.mem_append.mp hx).symm)
  rw [toldRec_of_not_bound fun k => (h q (List.mem_append_right _ k)).1 rfl, leftRec_of_not_mem fun k => (away q k).1 rfl,
    besideLeavers_of_not_mem fun k => (away _ k).2 (mateOf_mateOf q).symm]

/-- What the close of a write keeps of its work. -/
theorem entryEvent_posRec {s u : State} {n : Notices} {e : EntryNo} (geo : u.content.geometry = s.content.geometry)
    (pos : u.pos = s.pos) :
    let v := finishEvent s (n.unbind.toList ++ n.bind.toList) none (applyNotices n e u)
    (∀ q, (posRec v q).state = (toldRec s n e q).state ∧ (posRec v q).bound = (toldRec s n e q).bound) ∧
      ∀ q, (∀ x ∈ n.unbind.toList ++ n.bind.toList, q ≠ x ∧ q ≠ mateOf x) → posRec v q = posRec s q := by
  have told := fun q => applyNotices_posRec (n := n) (e := e) geo pos q
  intro v
  refine ⟨fun q => ?_, fun q away => ?_⟩
  · rw [← told]
    have close := finishEvent_record s (n.unbind.toList ++ n.bind.toList) none (applyNotices n e u) q
    exact ⟨close.state, close.bound⟩
  · have same : posRec (applyNotices n e u) q = posRec s q := (told q).trans (toldRec_of_away away e)
    exact (finishEvent_quiet s _ none _ q (fun k => (away q k).1 rfl) same).trans same

section Seats

variable {s : State} {n : Notices} {e : EntryNo} {q : Pos}

theorem toldRec_of_gains (gains : q ∈ n.bind.toList) (unbound : (posRec s q).state = .unbound) :
    (toldRec s n e q).state = .waiting ∧ (toldRec s n e q).bound = some e := by
  unfold toldRec
  dsimp only
  rw [if_pos gains, if_neg fun k => by rw [unbound] at k; cases k.2]
  rw [boundSeat_of_unbound ((besideLeavers_state _ _ _).1.trans unbound)]
  exact ⟨rfl, rfl⟩

theorem toldRec_of_rebound (gains : q ∈ n.bind.toList) (keeps : q ∉ n.unbind.toList)
    (bound : hasBinding (posRec s q).state = true) : (toldRec s n e q).state = .waiting ∧ (toldRec s n e q).bound = some e := by
  unfold toldRec
  dsimp only
  rw [if_pos gains, if_neg fun k => keeps k.1, boundSeat_of_bound (by rw [(besideLeavers_state _ _ _).1]; exact bound)]
  exact ⟨rfl, rfl⟩

theorem toldRec_of_loses (loses : q ∈ n.unbind.toList) (other : q ∉ n.bind.toList)
    (bound : hasBinding (posRec s q).state = true) : (toldRec s n e q).state = .unbound ∧ (toldRec s n e q).bound = none := by
  rw [toldRec_of_not_bound other, leftRec_of_bound (List.mem_append_right _ loses) bound]
  exact ⟨rfl, rfl⟩

end Seats

/-- Settles O14: both writes are events of `applyNotices`, then the reply. -/
theorem sensorEntriesAreWritten : Obligations.SensorEntriesAreWritten := by
  refine ⟨?write, ?clear⟩
  case write =>
    intro index sid pos set offset e new s served named given old samePlace active loser gainer clash
    have ran : exec (.writeSensorEntry 8 index sid pos set offset) s = .next (writeSensor e new s) := by
      refine congrArg Host.Outcome.next ?_
      rw [ofLength_self, named, given, both_named, serve_of_served served]
    obtain ⟨valid, -⟩ := sensorArg_some given
    rw [ran]
    refine ⟨fun h => by rw [writeSensor, if_pos ((clashes_iff s e new).mpr h)], fun free => ⟨_, rfl, ?_⟩⟩
    have run : writeSensor e new s = reply 0x01 .done (replaceEntry e new s) :=
      if_neg fun h => free ((clashes_iff s e new).mp h)
    have lists := noticesOf_toList (s := s) (old := old) (new := new) valid
    have loses : (noticesOf s old new).unbind.toList = loser := lists.1
    have gains : (noticesOf s old new).bind.toList = gainer := lists.2
    have told := fun q => applyNotices_posRec (s := s) (u := dropStranger new.sid (writeEntry e new s))
      (n := noticesOf s old new) (e := e) rfl rfl q
    have work := applyNotices_posOnly (noticesOf s old new) e (dropStranger new.sid (writeEntry e new s))
    have reach := replaceEntry_reach e new s
    obtain ⟨seats, others⟩ := entryEvent_posRec (s := s) (u := dropStranger new.sid (writeEntry e new s))
      (n := noticesOf s old new) (e := e) rfl rfl
    have unfolds : replaceEntry e new s = finishEvent s ((noticesOf s old new).unbind.toList ++
      (noticesOf s old new).bind.toList) none
        (applyNotices (noticesOf s old new) e (dropStranger new.sid (writeEntry e new s))) := rfl
    have unreported : SamePlace old new → old.sid = new.sid →
        replaceEntry e new s = dropStranger new.sid (writeEntry e new s) := fun same sid => by
      rw [unfolds, noticesOf_same_sensor valid same sid]
      exact finishEvent_of_quiet fun q => eventReason_quiet ⟨rfl, List.not_mem_nil⟩
    rw [run]
    rw [← unfolds] at seats others
    rw [loses, gains] at others unfolds
    generalize applyNotices (noticesOf s old new) e (dropStranger new.sid (writeEntry e new s)) = u at *
    generalize replaceEntry e new s = v at *
    have content : v.content.sensors = put s.content.sensors e new := congrArg Content.sensors reach.content
    refine ⟨⟨u, v, ⟨unfolds, work.tx, work.chan⟩, rfl, fun q => ?told⟩, others, fun i => ?entries, fun i => ?accepted,
      ?strangers, reach.store, ?content, reach.frontPort, reach.rearPort, reach.dup, reach.vehicle, reach.truckWalk,
      reach.trailerWalk, reach.mgmt, fun moved act unbound => ?gains, fun same sid => ?nothing,
      fun same sid act bound => ?rebound, fun valid act ne bound => ?loses⟩
    case told =>
      intro base
      rw [told q]
      unfold toldRec
      rw [loses, gains]
      rfl
    case entries =>
      show entryAt v i = _
      rw [entryAt, content]
      exact pick_put _ _ _ _
    case accepted =>
      show pick v.table.accepted i = _
      rw [reach.table]
      exact pick_put _ _ _ _
    case strangers =>
      show v.strangers.entries = _
      rw [reach.strangers, ← sensorArg_sid given]
      rfl
    case content =>
      show v.content = { s.content with sensors := v.content.sensors }
      rw [reach.content]
      rfl
    case gains =>
      have mem : new.pos ∈ (noticesOf s old new).bind.toList := by
        rw [noticesOf_moved moved, activePlace_toList, if_pos ⟨valid, (isActive_iff _ _).mp act⟩]
        exact List.mem_singleton_self _
      obtain ⟨state, bound⟩ := toldRec_of_gains (e := e) mem unbound
      exact ⟨(seats _).1.trans state, (seats _).2.trans bound⟩
    case nothing =>
      have same := unreported same sid
      rw [same]
      exact ⟨rfl, rfl, rfl⟩
    case rebound =>
      rw [noticesOf_same_place valid same sid] at seats
      have mem : new.pos ∈ (activePlace s new).toList := by
        rw [activePlace_toList, if_pos ⟨valid, (isActive_iff _ _).mp act⟩]
        exact List.mem_singleton_self _
      obtain ⟨state, bound⟩ := toldRec_of_rebound (n := { unbind := none, bind := activePlace s new }) (e := e) mem
        List.not_mem_nil bound
      exact ⟨(seats _).1.trans state, (seats _).2.trans bound⟩
    case loses =>
      rw [noticesOf_moved fun same => ne same.2.2] at seats
      have mem : old.pos ∈ (activePlace s old).toList := by
        rw [activePlace_toList, if_pos ⟨valid, (isActive_iff _ _).mp act⟩]
        exact List.mem_singleton_self _
      have other : old.pos ∉ (activePlace s new).toList := by
        rw [activePlace_toList]
        split <;> simp [ne]
      obtain ⟨state, bound⟩ := toldRec_of_loses (n := { unbind := activePlace s old, bind := activePlace s new }) (e := e)
        mem other bound
      exact ⟨(seats _).1.trans state, (seats _).2.trans bound⟩
  case clear =>
    intro index e s served named
    have ran : exec (.clearSensorEntry 2 index) s = .next (clearSensor e s) := by
      refine congrArg Host.Outcome.next ?_
      rw [ofLength_self, named, serve_of_served served]
    rw [ran]
    refine ⟨fun free => by rw [clearSensor, free]; rfl, fun valid => ⟨_, rfl, ?_⟩⟩
    have loses : (activePlace s (entryAt s e)).toList =
        if (entryAt s e).set = 0 ∨ (entryAt s e).set = s.vehicle.set then [(entryAt s e).pos] else [] := by
      rw [activePlace_toList]
      simp [valid]
    have run : clearSensor e s = reply 0x02 .done (finishEvent s (activePlace s (entryAt s e)).toList none
        (applyNotices { unbind := activePlace s (entryAt s e), bind := none } e (freeEntry e s))) := by
      rw [clearSensor, valid]
      rfl
    have told := fun q => applyNotices_posRec (s := s) (u := freeEntry e s)
      (n := { unbind := activePlace s (entryAt s e), bind := none }) (e := e) rfl rfl q
    have work := applyNotices_posOnly { unbind := activePlace s (entryAt s e), bind := none } e (freeEntry e s)
    have reach := freed_reach e s { unbind := activePlace s (entryAt s e), bind := none } (activePlace s (entryAt s e)).toList
    obtain ⟨seats, others⟩ := entryEvent_posRec (s := s) (u := freeEntry e s)
      (n := { unbind := activePlace s (entryAt s e), bind := none }) (e := e) rfl rfl
    rw [Option.toList_none, List.append_nil] at seats others
    rw [run]
    rw [← loses]
    generalize applyNotices { unbind := activePlace s (entryAt s e), bind := none } e (freeEntry e s) = u at *
    generalize hv : finishEvent s (activePlace s (entryAt s e)).toList none u = v at *
    have content : v.content.sensors = put s.content.sensors e Entry.free := congrArg Content.sensors reach.content
    refine ⟨⟨u, v, rfl, ⟨hv.symm, work.tx, work.chan⟩, fun q => ?told⟩, fun q hq hm => ?others, fun i => ?entries,
      fun i => ?accepted, reach.strangers, reach.store, ?content, reach.vehicle, reach.mgmt, fun act bound => ?loses⟩
    case told =>
      rw [told q, toldRec_of_not_bound (by simp)]
      rfl
    case others =>
      refine others q fun x hx => ?_
      rw [loses] at hx
      split at hx
      · rw [List.mem_singleton.mp hx]
        exact ⟨hq, hm⟩
      · cases hx
    case entries =>
      show entryAt v i = _
      rw [entryAt, content]
      exact pick_put _ _ _ _
    case accepted =>
      show pick v.table.accepted i = _
      rw [reach.table]
      exact pick_put _ _ _ _
    case content =>
      show v.content = { s.content with sensors := v.content.sensors }
      rw [reach.content]
      rfl
    case loses =>
      have mem : (entryAt s e).pos ∈ (activePlace s (entryAt s e)).toList := by
        rw [loses, if_pos ((isActive_iff _ _).mp act)]
        exact List.mem_singleton_self _
      obtain ⟨state, bound⟩ := toldRec_of_loses (n := { unbind := activePlace s (entryAt s e), bind := none }) (e := e)
        mem List.not_mem_nil bound
      exact ⟨(seats _).1.trans state, (seats _).2.trans bound⟩

end Sys2Proof.Machine
end

section
/-! PROOF. The VEHICLE CONDITION frame (R39 to R47) and the change of the trailer set (R46, R60). Settles O15 and O18. -/

namespace Sys2Proof.Machine

open Sys2Proof

/-! ## The records announced (R45, R63, R64, R109) -/

section Announced

variable (load motion : Byte) (ambient : BitVec 16) (lift g : Byte) (s : State)

/-- The state with a frame's values in force, before the announcements. -/
def framed : State := { s with vehicle := frameValues load motion ambient lift g s }

/-- Whether a frame changes what the cache of p is derived from. -/
def Rederives (p : Pos) : Prop :=
  (frameValues load motion ambient lift g s).load ≠ s.vehicle.load ∨ lifted (framed load motion ambient lift g s) p ≠ lifted s p

theorem recached_recached (k : Cache) (r : PosRec) : recached k (recached k r) = recached k r := rfl

/-- The record of a position after the announcements of load state and lift mask. -/
theorem announced_posRec (p : Pos) :
    (Rederives load motion ambient lift g s p → posRec (announced load motion ambient lift g s) p =
      recached (cacheFor (framed load motion ambient lift g s) p) (stoppedRec s (framed load motion ambient lift g s) p)) ∧
    (¬Rederives load motion ambient lift g s p → posRec (announced load motion ambient lift g s) p =
      stoppedRec s (framed load motion ambient lift g s) p) := by
  have run : announced load motion ambient lift g s =
      announceLift s.vehicle (announceLoad s.vehicle (stopSilence s (framed load motion ambient lift g s))) := rfl
  have stop := stopSilence_posOnly s (framed load motion ambient lift g s)
  have vehicle : (framed load motion ambient lift g s).vehicle = frameValues load motion ambient lift g s := rfl
  unfold Rederives
  rw [← vehicle, run]
  generalize framed load motion ambient lift g s = f at *
  have stopped := stopSilence_posRec s f p
  generalize stopSilence s f = x at *
  have byLoad : posRec (announceLoad s.vehicle x) p =
      if s.vehicle.load = f.vehicle.load then posRec x p else recached (cacheFor x p) (posRec x p) := by
    unfold announceLoad
    rw [stop.vehicle]
    split
    · rfl
    · exact (rederiveCaches_posRec _ x p).trans (if_pos rfl)
  have work := (announceLoad_posOnly s.vehicle x)
  generalize announceLoad s.vehicle x = y at *
  have differs : (s.vehicle.lift ^^^ y.vehicle.lift).getLsbD (axleOf p).val = true ↔ lifted f p ≠ lifted s p := by
    rw [work.vehicle, stop.vehicle, BitVec.getLsbD_xor, bne_iff_ne, ne_comm]
    rfl
  have cacheX : cacheFor x p = cacheFor f p :=
    cacheFor_congr (congrArg Content.geometry stop.content) (congrArg Content.profiles stop.content) stop.vehicle p
  have cacheY : cacheFor y p = cacheFor x p :=
    cacheFor_congr (congrArg Content.geometry work.content) (congrArg Content.profiles work.content) work.vehicle p
  have both : posRec (announceLift s.vehicle y) p =
      if lifted f p ≠ lifted s p then recached (cacheFor y p) (posRec y p) else posRec y p := by
    unfold announceLift
    rw [rederiveCaches_posRec]
    exact if_congr differs rfl rfl
  rw [both, byLoad, cacheY, cacheX, stopped]
  refine ⟨fun h => ?_, fun h => ?_⟩
  · by_cases l : lifted f p ≠ lifted s p
    · rw [if_pos l]
      split
      · rfl
      · exact recached_recached _ _
    · rw [if_neg l, if_neg fun k => (h.resolve_right l) k.symm]
  · obtain ⟨sameLoad, sameLift⟩ := not_or.mp h
    rw [if_neg sameLift, if_pos (not_not.mp sameLoad).symm]

end Announced

/-! ## The trailer half re-derived (R60) -/

/-- The seat of a position of the trailer half after the re-derivation. -/
def seatAt (s : State) (done : List Pos) (q : Pos) (r : PosRec) : PosRec :=
  if q ∈ done ∧ (posRec s q).state ≠ .vacant then
    reseated (if (entryFor s q).isSome then .waiting else .unbound) (entryFor s q) r
  else r

theorem seatAt_withoutTwin (s : State) (done : List Pos) (q : Pos) (r : PosRec) :
    withoutTwin (seatAt s done q r) = seatAt s done q (withoutTwin r) := by
  unfold seatAt
  split <;> rfl

/-- One position re-derived after others. -/
theorem rederivePos_posRec {s u : State} {done : List Pos} {p : Pos} (work : PosOnly s u) (notin : p ∉ done)
    (records : ∀ q, posRec u q = seatAt s done q (leftRec s done q)) (q : Pos) :
    posRec (rederivePos u p) q = seatAt s (p :: done) q (leftRec s (p :: done) q) := by
  have plain : seatAt s done p = id := funext fun r => if_neg fun k => notin k.1
  have unbound := unbindPos_leftRec (W := seatAt s done) (congrArg Content.geometry work.content) notin plain
    (seatAt_withoutTwin s done) records
  have state : (posRec u p).state = (posRec s p).state := by
    rw [records, plain, leftRec_of_not_mem notin]
    exact (besideLeavers_state s done p).1
  have kept := work.trans (unbindPos_posOnly p u)
  have entry : entryFor (unbindPos p u) p = entryFor s p :=
    entryFor_congr (congrArg Content.sensors kept.content) (congrArg Vehicle.set kept.vehicle) p
  have run : rederivePos u p = if (posRec s p).state = .vacant then u
      else setBinding p (if (entryFor s p).isSome then .waiting else .unbound) (entryFor s p) (unbindPos p u) := by
    unfold rederivePos
    dsimp only
    rw [entry, ← state]
    split
    · next vacant => rw [if_pos vacant]
    · next vacant =>
      rw [if_neg vacant]
      cases entryFor s p <;> rfl
  rw [run]
  by_cases vacant : (posRec s p).state = .vacant
  · have idle : unbindPos p u = u := unbindPos_of_unbound (by rw [state, vacant]; rfl)
    rw [if_pos vacant, ← idle, unbound]
    refine if_congr ?_ rfl rfl
    refine and_congr_left fun h => ?_
    have : q ≠ p := fun e => h (e ▸ vacant)
    simp [this]
  · rw [if_neg vacant]
    by_cases hq : q = p
    · subst hq
      rw [posRec_setBinding, unbound, plain]
      exact (if_pos ⟨List.mem_cons_self, vacant⟩).symm
    · rw [posRec_setBinding_ne _ _ _ hq, unbound]
      refine if_congr ?_ rfl rfl
      simp [hq]

theorem rederiveFold_posRec {s u : State} {done : List Pos} (l : List Pos) (nodup : l.Nodup) (apart : ∀ p ∈ l, p ∉ done)
    (work : PosOnly s u) (records : ∀ q, posRec u q = seatAt s done q (leftRec s done q)) (q : Pos) :
    posRec (l.foldl rederivePos u) q = seatAt s (l.reverse ++ done) q (leftRec s (l.reverse ++ done) q) := by
  induction l generalizing u done with
  | nil => exact records q
  | cons p l ih =>
    obtain ⟨hp, nodup⟩ := List.nodup_cons.mp nodup
    have next := ih (u := rederivePos u p) (done := p :: done) nodup
      (fun x hx => by
        rw [List.mem_cons, not_or]
        exact ⟨fun e => hp (e ▸ hx), apart x (List.mem_cons_of_mem p hx)⟩)
      (work.trans (rederivePos_posOnly u p)) (rederivePos_posRec work (apart p List.mem_cons_self) records)
    rw [List.foldl_cons, next, List.reverse_cons, List.append_assoc]
    rfl

/-- The trailer half re-derived: a bound position loses its runtime, each fitted one takes the seat that the attached set
gives it, and no order is seen. -/
theorem rederiveTrailer_posRec (s : State) (q : Pos) :
    posRec (rederiveTrailer s) q = seatAt s trailerPositions q (leftRec s trailerPositions q) := by
  have fold := rederiveFold_posRec (s := s) (u := s) (done := []) trailerPositions
    ((List.nodup_finRange 32).filter _) (fun _ _ => List.not_mem_nil) (PosOnly.refl s)
    (fun q => by rw [leftRec_nil]; exact (if_neg fun k => by cases k.1).symm) q
  have mem : ∀ x, x ∈ trailerPositions.reverse ++ [] ↔ x ∈ trailerPositions := fun x => by simp
  rw [rederiveTrailer, fold, leftRec_congr_mem mem]
  exact if_congr (and_congr_left' (mem q)) rfl rfl

theorem mateOf_trailer (p : Pos) : 16 ≤ (mateOf p).val ↔ 16 ≤ p.val := by
  revert p; decide

/-- The truck half keeps its records (R60). -/
theorem rederiveTrailer_truck (s : State) {q : Pos} (truck : q.val < 16) : posRec (rederiveTrailer s) q = posRec s q := by
  have out : q ∉ trailerPositions := fun h => by rw [mem_trailerPositions] at h; omega
  have mate : mateOf q ∉ trailerPositions := fun h => by rw [mem_trailerPositions, mateOf_trailer] at h; omega
  rw [rederiveTrailer_posRec, leftRec_of_not_mem out, besideLeavers_of_not_mem mate]
  exact if_neg fun k => out k.1

/-- A trailer position that is not fitted and VACANT keeps its record. -/
theorem rederiveTrailer_vacant {s : State} {q : Pos} (unfit : (geometry s q).fitted = false)
    (vacant : (posRec s q).state = .vacant) : posRec (rederiveTrailer s) q = posRec s q := by
  have unbound : hasBinding (posRec s q).state = false := by rw [vacant]; rfl
  have beside : besideLeavers s trailerPositions q = posRec s q := by
    refine if_neg fun k => ?_
    have ends := k.2
    simp only [twinEnds, mateOf_mateOf, unfit, decide_eq_true_eq] at ends
    cases ends.2.2.2
  rw [rederiveTrailer_posRec, leftRec_of_unbound unbound, beside]
  exact if_neg fun k => k.2 vacant

/-! ## The counted silence that stops (R63, R64) -/

theorem stoppedRec_eq (old s : State) (pos : s.pos = old.pos) (content : s.content = old.content) (p : Pos) :
    stoppedRec old s p =
      if ((posRec old p).state = .waiting ∨ (posRec old p).state = .live) ∧
          old.content.settings.silenceTimeout * 1000 ≤ (posRec old p).silence ∧
          (old.vehicle.motion = .moving ∧ old.vehicle.lift.getLsbD (p.val / 4) = false) ∧
          ¬(s.vehicle.motion = .moving ∧ s.vehicle.lift.getLsbD (p.val / 4) = false) then
        { posRec old p with silence := old.content.settings.silenceTimeout * 1000 - 1 }
      else posRec old p := by
  have ms : silenceMs s = old.content.settings.silenceTimeout * 1000 := by rw [silenceMs, content]
  unfold stoppedRec
  dsimp only
  rw [posRec_of_pos pos, ms]
  refine if_congr ?_ rfl rfl
  rw [Bool.and_eq_true, silenceDue_iff]
  have counts : ((posRec old p).state = .waiting ∨ (posRec old p).state = .live) →
      ((!countsSilence s p) = true ↔ ¬(s.vehicle.motion = .moving ∧ s.vehicle.lift.getLsbD (p.val / 4) = false)) := fun placed => by
    have bound : hasBinding (posRec s p).state = true := by
      rw [posRec_of_pos pos]
      obtain h | h := placed <;> rw [h] <;> rfl
    rw [countsSilence, bound]
    simp [lifted, axleOf, ← imp_iff_not_or]
  constructor
  · rintro ⟨⟨placed, moving, low, reached⟩, stops⟩
    exact ⟨placed, reached, ⟨moving, low⟩, (counts placed).mp stops⟩
  · rintro ⟨placed, reached, ⟨moving, low⟩, stops⟩
    exact ⟨⟨placed, moving, low, reached⟩, (counts placed).mpr stops⟩

theorem stoppedRec_of_unbound {old s : State} (pos : s.pos = old.pos) {p : Pos}
    (unbound : hasBinding (posRec old p).state = false) : stoppedRec old s p = posRec old p := by
  unfold stoppedRec silenceDue countsSilence
  dsimp only
  rw [unbound]
  exact posRec_of_pos pos p

/-- A stopped silence changes nothing but the count. -/
theorem stoppedRec_keeps (old s : State) (pos : s.pos = old.pos) (p : Pos) :
    ∃ n, stoppedRec old s p = { posRec old p with silence := n } := by
  unfold stoppedRec
  dsimp only
  rw [posRec_of_pos pos]
  split
  · exact ⟨_, rfl⟩
  · exact ⟨(posRec old p).silence, rfl⟩

/-! ## The frame (R39 to R45) -/

section Frame

variable (load motion : Byte) (ambient : BitVec 16) (lift g : Byte) (s : State)

/-- The announced state, and the trailer half re-derived. -/
def rederived : State := rederiveTrailer (announced load motion ambient lift g s)

theorem rederived_keeps (p : Pos) (h : p.val < 16 ∨ ((geometry s p).fitted = false ∧ (posRec s p).state = .vacant)) :
    posRec (rederived load motion ambient lift g s) p = posRec (announced load motion ambient lift g s) p := by
  obtain truck | ⟨unfit, vacant⟩ := h
  · exact rederiveTrailer_truck _ truck
  · refine rederiveTrailer_vacant ?_ ?_
    · rw [geometry_congr (s := s) (congrArg Content.geometry (announced_posOnly load motion ambient lift g s).content)]
      exact unfit
    · rw [(announced_seat load motion ambient lift g s p).1]
      exact vacant

/-- An announcement changes no alert state but the pending level. -/
theorem announced_cond (p : Pos) :
    (posRec (announced load motion ambient lift g s) p).cond.level = (posRec s p).cond.level ∧
      (posRec (announced load motion ambient lift g s) p).cond.active = (posRec s p).cond.active := by
  obtain ⟨changed, same⟩ := announced_posRec load motion ambient lift g s p
  obtain ⟨n, stopped⟩ := stoppedRec_keeps s (framed load motion ambient lift g s) rfl p
  by_cases h : Rederives load motion ambient lift g s p
  · rw [changed h, stopped]
    exact ⟨rfl, rfl⟩
  · rw [same h, stopped]
    exact ⟨rfl, rfl⟩

/-- A position whose binding the change of the set leaves gets no frame of it. -/
theorem rederived_quiet {p : Pos} (h : p.val < 16 ∨ ((geometry s p).fitted = false ∧ (posRec s p).state = .vacant)) :
    eventReason s trailerPositions (rederived load motion ambient lift g s) p = none := by
  have record := rederived_keeps load motion ambient lift g s p h
  obtain ⟨level, active⟩ := announced_cond load motion ambient lift g s p
  refine eventReason_of_same ?_ (by rw [record, level]) (by rw [record, active])
  rintro ⟨trailer, bound⟩
  rw [mem_trailerPositions] at trailer
  obtain truck | ⟨-, vacant⟩ := h
  · omega
  · rw [vacant] at bound
    cases bound

theorem takeVehicleFrame_posRec (p : Pos)
    (h : s.vehicle.set = heldSet g s.vehicle.set ∨ p.val < 16 ∨ ((geometry s p).fitted = false ∧ (posRec s p).state = .vacant)) :
    posRec (takeVehicleFrame load motion ambient lift g s) p = posRec (announced load motion ambient lift g s) p := by
  obtain ⟨-, e⟩ | ⟨changed, e⟩ := takeVehicleFrame_cases load motion ambient lift g s <;> rw [e]
  · have h := h.resolve_left changed
    have walk := endWalkIfOpen_walkOnly .trailer .setChanged
      (finishEvent s trailerPositions none (rederiveTrailer (announced load motion ambient lift g s)))
    rw [posRec_of_pos walk.pos]
    exact ((finishEvent_posRec s trailerPositions none _ p).1 (rederived_quiet load motion ambient lift g s h)).trans
      (rederived_keeps load motion ambient lift g s p h)

theorem endWalkIfOpen_table (h : Half) (r : WalkResult) (v : State) : (endWalkIfOpen h r v).table = v.table := by
  unfold endWalkIfOpen finishWalk
  split
  · exact modWalk_table _ _ _
  · rfl

theorem takeVehicleFrame_table : (takeVehicleFrame load motion ambient lift g s).table = s.table := by
  obtain ⟨-, e⟩ | ⟨-, e⟩ := takeVehicleFrame_cases load motion ambient lift g s <;> rw [e]
  · exact (announced_posOnly load motion ambient lift g s).table
  · rw [endWalkIfOpen_table]
    exact (rederivedTrailer_reach load motion ambient lift g s).table

end Frame

theorem heldSet_val (g : Byte) (inForce : SetNo) : (heldSet g inForce).val = if g.toNat ≤ 3 then g.toNat else inForce.val := by
  unfold heldSet
  split
  · show g.toNat % 4 = _
    omega
  · rfl

/-- Settles O15. -/
theorem vehicleFrameIsInForce : Obligations.VehicleFrameIsInForce := by
  intro load motion ambient lift g s
  obtain ⟨-, content, front, rear, dup, strangers, mgmt, store, truck⟩ := takeVehicleFrame_keeps load motion ambient lift g s
  have vehicle := takeVehicleFrame_vehicle load motion ambient lift g s
  have table := takeVehicleFrame_table load motion ambient lift g s
  have records := takeVehicleFrame_posRec load motion ambient lift g s
  have announcements := announced_posRec load motion ambient lift g s
  have stopped := stoppedRec_eq s (framed load motion ambient lift g s) rfl rfl
  refine ⟨takeVehicleFrame load motion ambient lift g s, rfl, ?_⟩
  have cache : ∀ p, cacheFor (takeVehicleFrame load motion ambient lift g s) p =
      cacheFor (framed load motion ambient lift g s) p :=
    cacheFor_congr (congrArg Content.geometry content) (congrArg Content.profiles content) vehicle
  have up : ∀ p, lifted (takeVehicleFrame load motion ambient lift g s) p = lifted (framed load motion ambient lift g s) p :=
    lifted_congr (congrArg Vehicle.lift vehicle)
  have stays : (takeVehicleFrame load motion ambient lift g s).vehicle.set = s.vehicle.set →
      takeVehicleFrame load motion ambient lift g s = announced load motion ambient lift g s := fun same => by
    obtain ⟨-, e⟩ | ⟨changed, -⟩ := takeVehicleFrame_cases load motion ambient lift g s
    · exact e
    · rw [vehicle] at same
      exact absurd same.symm changed
  have kept := announced_posOnly load motion ambient lift g s
  generalize takeVehicleFrame load motion ambient lift g s = t at *
  rw [vehicle]
  refine ⟨rfl, rfl, rfl, fun a => ?lift, heldSet_val g s.vehicle.set, rfl, rfl, content, front, rear, dup, table, strangers,
    truck, mgmt, store, fun p h => ?record, fun same => ?unchanged⟩
  case lift =>
    show (lift &&& liftableMask s).getLsbD a.val = _
    rw [BitVec.getLsbD_and, liftableMask_getLsbD]
  case record =>
    have h' : s.vehicle.set = heldSet g s.vehicle.set ∨ p.val < 16 ∨
        ((geometry s p).fitted = false ∧ (posRec s p).state = .vacant) := h.imp_left Eq.symm
    obtain ⟨changed, same⟩ := announcements p
    rw [records p h', up, cache]
    by_cases k : Rederives load motion ambient lift g s p
    · rw [changed k, stopped]
      exact (if_pos k).symm
    · rw [same k, stopped]
      exact (if_neg k).symm
  case unchanged =>
    have e := stays (by rw [vehicle]; exact same)
    rw [e]
    exact ⟨kept.tx, kept.chan, kept.trailerWalk⟩

/-! ## The change of the trailer set (R46, R60, R144) -/

section SetChange

variable (load motion : Byte) (ambient : BitVec 16) (lift g : Byte) (s : State)

/-- The seat a trailer position takes of the set that the frame puts in force (R60). -/
def newSeat (p : Pos) : PosState × Option EntryNo :=
  if (posRec s p).state = .vacant then (.vacant, (posRec s p).bound)
  else
    let e := entryFor (framed load motion ambient lift g s) p
    (if e.isSome then .waiting else .unbound, e)

/-- The cache a position has after the announcements. -/
def newCache (p : Pos) : Cache := (posRec (announced load motion ambient lift g s) p).cache

theorem twinEnds_announced (p : Pos) : twinEnds (announced load motion ambient lift g s) p = twinEnds s p := by
  have geo : ∀ q, geometry (announced load motion ambient lift g s) q = geometry s q :=
    geometry_congr (s := s) (congrArg Content.geometry (announced_posOnly load motion ambient lift g s).content)
  have state := (announced_seat load motion ambient lift g s p).1
  have active := (announced_cond load motion ambient lift g s p).2
  rw [Bool.eq_iff_iff]
  simp only [twinEnds, decide_eq_true_eq, geo, state, active]

theorem seatAt_newSeat {p : Pos} (trailer : 16 ≤ p.val) {r : PosRec}
    (seat : (posRec s p).state = .vacant → r.state = .vacant ∧ r.bound = (posRec s p).bound) :
    seatAt (announced load motion ambient lift g s) trailerPositions p r =
      reseated (newSeat load motion ambient lift g s p).1 (newSeat load motion ambient lift g s p).2 r := by
  have kept := announced_posOnly load motion ambient lift g s
  have entry : entryFor (announced load motion ambient lift g s) p = entryFor (framed load motion ambient lift g s) p :=
    entryFor_congr (congrArg Content.sensors kept.content) (congrArg Vehicle.set kept.vehicle) p
  unfold seatAt newSeat
  rw [(announced_seat load motion ambient lift g s p).1, entry]
  by_cases vacant : (posRec s p).state = .vacant
  · obtain ⟨state, bound⟩ := seat vacant
    rw [if_neg fun k => k.2 vacant, if_pos vacant]
    unfold reseated
    rw [← bound, ← state]
  · rw [if_pos ⟨(mem_trailerPositions p).mpr trailer, vacant⟩, if_neg vacant]

theorem newCache_eq {p : Pos} {c : Prop} [Decidable c] (rederives : c ↔ Rederives load motion ambient lift g s p) :
    newCache load motion ambient lift g s p =
      if c then cacheFor (framed load motion ambient lift g s) p else (posRec s p).cache := by
  obtain ⟨changed, same⟩ := announced_posRec load motion ambient lift g s p
  obtain ⟨n, stopped⟩ := stoppedRec_keeps s (framed load motion ambient lift g s) rfl p
  unfold newCache
  by_cases k : c
  · rw [if_pos k, changed (rederives.mp k)]
    rfl
  · rw [if_neg k, same (mt rederives.mpr k), stopped]

/-- What an announcement keeps of every record. -/
theorem announced_keeps (p : Pos) :
    (posRec (announced load motion ambient lift g s) p).filtered = (posRec s p).filtered ∧
      (posRec (announced load motion ambient lift g s) p).history = (posRec s p).history := by
  obtain ⟨changed, same⟩ := announced_posRec load motion ambient lift g s p
  obtain ⟨n, stopped⟩ := stoppedRec_keeps s (framed load motion ambient lift g s) rfl p
  by_cases h : Rederives load motion ambient lift g s p
  · rw [changed h, stopped]
    exact ⟨rfl, rfl⟩
  · rw [same h, stopped]
    exact ⟨rfl, rfl⟩

/-- A record of which a frame rewrites seat, cache and pending level. -/
def readdressed (st : PosState) (e : Option EntryNo) (k : Cache) (pending : Option Level) (r : PosRec) : PosRec :=
  { r with state := st, bound := e, cache := k, cond := { r.cond with pendingLevel := pending } }

/-- The record of an unbound position after the announcements. -/
theorem announced_of_unbound {p : Pos} (unbound : hasBinding (posRec s p).state = false) {c : Prop} [Decidable c]
    (rederives : c ↔ Rederives load motion ambient lift g s p) :
    posRec (announced load motion ambient lift g s) p =
      readdressed (posRec s p).state (posRec s p).bound (newCache load motion ambient lift g s p)
        (if c then none else (posRec s p).cond.pendingLevel) (posRec s p) := by
  have stopped : stoppedRec s (framed load motion ambient lift g s) p = posRec s p :=
    stoppedRec_of_unbound (old := s) (s := framed load motion ambient lift g s) rfl unbound
  obtain ⟨changed, same⟩ := announced_posRec load motion ambient lift g s p
  unfold newCache
  by_cases k : c
  · rw [if_pos k, changed (rederives.mp k), stopped]
    rfl
  · rw [if_neg k, same (mt rederives.mpr k), stopped]
    rfl

/-- The record of a trailer position after the change of the set, before the frames. -/
theorem rederived_posRec {p : Pos} (trailer : 16 ≤ p.val) {c : Prop} [Decidable c]
    (rederives : c ↔ Rederives load motion ambient lift g s p) :
    let r := if hasBinding (posRec s p).state = true then freshRec .unbound none (posRec s p)
      else besideLeavers s trailerPositions p
    posRec (rederived load motion ambient lift g s) p =
      readdressed (newSeat load motion ambient lift g s p).1 (newSeat load motion ambient lift g s p).2
        (newCache load motion ambient lift g s p) (if c then none else r.cond.pendingLevel) r := by
  intro r
  have mem : p ∈ trailerPositions := (mem_trailerPositions p).mpr trailer
  have state : (posRec (announced load motion ambient lift g s) p).state = (posRec s p).state :=
    (announced_seat load motion ambient lift g s p).1
  unfold rederived
  rw [rederiveTrailer_posRec]
  cases bound : hasBinding (posRec s p).state with
  | true =>
    have hr : r = freshRec .unbound none (posRec s p) := if_pos bound
    rw [leftRec_of_bound mem (by rw [state]; exact bound), hr,
      show (freshRec .unbound none (posRec s p)).cond.pendingLevel = none from rfl, ite_self,
      seatAt_newSeat load motion ambient lift g s trailer fun vacant => by rw [vacant] at bound; cases bound]
    rfl
  | false =>
    have hr : r = besideLeavers s trailerPositions p := if_neg (by simp [bound])
    rw [leftRec_of_unbound (by rw [state]; exact bound), hr,
      seatAt_newSeat load motion ambient lift g s trailer fun vacant => ?seat]
    case seat =>
      rw [(besideLeavers_state _ _ _).1, (besideLeavers_state _ _ _).2.1, state, vacant]
      exact ⟨rfl, (announced_seat load motion ambient lift g s p).2⟩
    unfold besideLeavers
    rw [twinEnds_announced, announced_of_unbound load motion ambient lift g s bound rederives]
    split <;> rfl

end SetChange

/-- The TRAILER walk ended by a change of the set, its notice placed (R144, 12.5.3). -/
theorem endWalkIfOpen_trailer (v : State) :
    endWalkIfOpen .trailer .setChanged v =
      if v.trailerWalk.walk.isSome then
        placeService
          (.long 0x1E [fld 1 1, fld 3 3, fld 5 v.trailerWalk.bound, satFld 8 v.trailerWalk.implausible,
            satFld 8 v.trailerWalk.ambiguous])
          { v with trailerWalk := { v.trailerWalk with walk := none, result := some .setChanged } }
      else v := rfl

/-- Settles O18. -/
theorem trailerSetChangeRederives : Obligations.TrailerSetChangeRederives := by
  intro load motion ambient lift g s low other
  have changes : s.vehicle.set ≠ heldSet g s.vehicle.set := fun e => by
    have val := congrArg Fin.val e
    rw [heldSet_val, if_pos low] at val
    exact other val.symm
  obtain ⟨same, -⟩ | ⟨-, run⟩ := takeVehicleFrame_cases load motion ambient lift g s
  · exact absurd same changes
  obtain ⟨-, content, -, -, -, -, -, -, truck⟩ := takeVehicleFrame_keeps load motion ambient lift g s
  have vehicle := takeVehicleFrame_vehicle load motion ambient lift g s
  have frame := rederivedTrailer_reach load motion ambient lift g s
  have work : PosOnly (framed load motion ambient lift g s) (rederived load motion ambient lift g s) :=
    (announced_posOnly load motion ambient lift g s).trans (PosOnly.foldl rederivePos_posOnly _ _)
  have fold : rederiveTrailer (announced load motion ambient lift g s) = rederived load motion ambient lift g s := rfl
  have closing := fun q => finishEvent_record s trailerPositions none (rederived load motion ambient lift g s) q
  have quiet := fun p h => (finishEvent_posRec s trailerPositions none (rederived load motion ambient lift g s) p).1
    (rederived_quiet load motion ambient lift g s h)
  have trucks := fun p (h : p.val < 16) => rederived_keeps load motion ambient lift g s p (.inl h)
  have trailers := fun p (h : 16 ≤ p.val) => @rederived_posRec load motion ambient lift g s p h
  have seats := announced_seat load motion ambient lift g s
  have conds := announced_cond load motion ambient lift g s
  have keeps := announced_keeps load motion ambient lift g s
  have caches := fun p => @newCache_eq load motion ambient lift g s p
  rw [fold] at run frame
  refine ⟨takeVehicleFrame load motion ambient lift g s, rfl, ?_⟩
  have walk := endWalkIfOpen_walkOnly .trailer .setChanged
    (finishEvent s trailerPositions none (rederived load motion ambient lift g s))
  have entry : ∀ p, entryFor (takeVehicleFrame load motion ambient lift g s) p =
      entryFor (framed load motion ambient lift g s) p :=
    entryFor_congr (congrArg Content.sensors content) (congrArg Vehicle.set vehicle)
  have cache : ∀ p, cacheFor (takeVehicleFrame load motion ambient lift g s) p =
      cacheFor (framed load motion ambient lift g s) p :=
    cacheFor_congr (congrArg Content.geometry content) (congrArg Content.profiles content) vehicle
  have rederives : ∀ p, (takeVehicleFrame load motion ambient lift g s).vehicle.load ≠ s.vehicle.load ∨
      lifted (takeVehicleFrame load motion ambient lift g s) p ≠ lifted s p ↔ Rederives load motion ambient lift g s p :=
    fun p => by
      rw [vehicle, lifted_congr (s := framed load motion ambient lift g s) (congrArg Vehicle.lift vehicle)]
      rfl
  rw [← run] at walk
  generalize rederived load motion ambient lift g s = u at *
  generalize hv : finishEvent s trailerPositions none u = v at *
  generalize takeVehicleFrame load motion ambient lift g s = t at *
  have same : ∀ p, posRec t p = posRec v p := posRec_of_pos walk.pos
  have trailerWalk : v.trailerWalk = s.trailerWalk := frame.trailerWalk
  have seat : ∀ p, 16 ≤ p.val → (posRec t p).state = (newSeat load motion ambient lift g s p).1 ∧
      (posRec t p).bound = (newSeat load motion ambient lift g s p).2 ∧
      (posRec t p).cache = newCache load motion ambient lift g s p := fun p h => by
    rw [same, (closing p).state, (closing p).bound, (closing p).cache, trailers p h (rederives p)]
    exact ⟨rfl, rfl, rfl⟩
  refine ⟨content, fun p h => ⟨fun vacant => ?vacant, fun placed => ?placed, ?cache⟩, fun p h => ?truckRecord, truck, ?slot,
    u, v, ⟨hv.symm, work.tx, work.chan⟩, fun p h => ?truckSame, fun p h => ?trailerRecord, ?notice⟩
  case vacant =>
    obtain ⟨state, bound, -⟩ := seat p h
    rw [state, bound, newSeat, if_pos vacant]
    exact ⟨rfl, rfl⟩
  case placed =>
    obtain ⟨state, bound, -⟩ := seat p h
    rw [state, bound, newSeat, if_neg placed, entry]
    exact ⟨rfl, rfl⟩
  case cache => rw [(seat p h).2.2, caches p (rederives p), cache]
  case truckRecord =>
    rw [same, quiet p (.inl h), trucks p h]
    exact ⟨(seats p).1, (seats p).2, (keeps p).1, (keeps p).2, (conds p).1, (conds p).2⟩
  case truckSame => rw [same, quiet p (.inl h)]
  case trailerRecord =>
    intro r
    obtain ⟨state, bound, cached⟩ := seat p h
    rw [state, bound, cached]
    exact trailers p h (rederives p)
  case slot =>
    rw [run, endWalkIfOpen_trailer, trailerWalk]
    split
    · rfl
    · exact trailerWalk
  case notice => rw [run, endWalkIfOpen_trailer, trailerWalk]

end Sys2Proof.Machine
end

section
/-! PROOF. A telegram accepted and read (R22 to R26, R61). Settles O11. -/

namespace Sys2Proof.Machine

open Sys2Proof

/-! ## The judgement at a reading, by condition -/

theorem active_of_clear {k j : Condition} (h : j ≠ k) (c : Cond) :
    condGet (clearCond k c).active j = condGet c.active j := by
  simp [clearCond, condGet_condSet, h]

theorem active_of_raise {k j : Condition} (h : j ≠ k) (c : Cond) :
    condGet (raiseCond k c).active j = condGet c.active j := by
  simp [raiseCond, condGet_condSet, h]

/-- The judgements at the position itself leave every other condition as it is. -/
theorem judged_other {j : Condition} (hot : j ≠ .hot) (fault : j ≠ .fault) (battery : j ≠ .battery) (limit : Nat)
    (judging : Option Nat) (f b : Bool) (c : Cond) :
    condGet (judgeBattery b (judgeFault f (judgeHot limit judging c))).active j = condGet c.active j := by
  have first : condGet (judgeHot limit judging c).active j = condGet c.active j := by
    obtain e | ⟨-, e⟩ | ⟨-, e⟩ := judgeHot_cases limit judging c <;> rw [e]
    · exact active_of_raise hot c
    · exact active_of_clear hot c
  generalize judgeHot limit judging c = d at first
  have second : condGet (judgeFault f d).active j = condGet c.active j := by
    rw [← first]
    obtain e | e := judgeFault_cases f d <;> rw [e]
    · exact active_of_raise fault d
    · exact active_of_clear fault d
  generalize judgeFault f d = x at second
  rw [← second]
  obtain ⟨y, h, e⟩ := judgeBattery_cases b x
  rw [e]
  obtain rfl | rfl | rfl := h
  · rfl
  · exact active_of_raise battery x
  · exact active_of_clear battery x

/-! ## The record a reading leaves (R61 steps 1 to 5) -/

section Reading

variable (s : State) (rd : Reading) (r : PosRec)

/-- Steps 1 and 2 touch nothing that the computation reads. -/
theorem compensate_hearReading (tref : Int) (ambient : Nat) :
    (compensate tref ambient rd (hearReading rd r)).judging = (compensate tref ambient rd r).judging ∧
      (compensate tref ambient rd (hearReading rd r)).clamped = (compensate tref ambient rd r).clamped ∧
      (compensate tref ambient rd (hearReading rd r)).out =
        { (compensate tref ambient rd r).out with
          state := .live
          cond := if r.state = .silent then clearCond .silent r.cond else r.cond
          lastTime := some rd.time
          lastKind := some rd.telegram.kind
          readings := countUp r.readings
          silence := 0 } := by
  unfold compensate
  dsimp only
  split <;> exact ⟨rfl, rfl, rfl⟩

/-- What the computation keeps of a record. -/
theorem compensate_keeps (tref : Int) (ambient : Nat) :
    let out := (compensate tref ambient rd r).out
    out.bound = r.bound ∧ out.cache = r.cache ∧ out.history = r.history ∧ out.temp = some rd.telegram.temp ∧
      out.battery = rd.telegram.battery ∧ out.fault = (rd.telegram.fault || !bearsPressure rd.telegram) := by
  unfold compensate
  dsimp only
  split <;> exact ⟨rfl, rfl, rfl, rfl, rfl, rfl⟩

/-- The level judged at a reading that left the filtered gauge f. -/
def levelAt (cache : Cache) (filtered : Option Nat) (c : Cond) : Cond :=
  match filtered with
  | some f => if rd.telegram.pressure = 4095 then c else judgeLevel cache rd.telegram.kind f c
  | none => c

theorem levelJudged_eq (x : PosRec) : levelJudged rd x = levelAt rd x.cache x.filtered x.cond := by
  unfold levelJudged levelAt
  cases x.filtered with
  | none => rfl
  | some f =>
    dsimp only
    by_cases h : rd.telegram.pressure = 4095
    · rw [if_pos h, if_neg (by simp [bearsPressure, h])]
    · rw [if_neg h, if_pos ((bearsPressure_iff _).mpr h)]

theorem levelAt_active (cache : Cache) (filtered : Option Nat) (c : Cond) : (levelAt rd cache filtered c).active = c.active := by
  unfold levelAt
  split
  · split
    · rfl
    · exact (judgeLevel_conditions _ _ _ _).1
  · rfl

/-- The history with the first interval opened and the reading's cold gauge taken (R91, R92). -/
theorem takeCold_openInterval (minutes : Nat) (cold : Option Nat) (h : History) :
    takeCold (if bearsPressure rd.telegram then cold else none) (openInterval minutes rd.time h) =
      let h' : History := if h.expiry.isSome then h
        else { h with expiry := some (rd.time + minutes * 60000), sum := 0, count := 0 }
      match cold with
      | some x => if rd.telegram.pressure = 4095 ∨ 65535 ≤ h'.count then h'
          else { h' with sum := h'.sum + x, count := h'.count + 1 }
      | none => h' := by
  have opened : openInterval minutes rd.time h = if h.expiry.isSome then h
      else { h with expiry := some (rd.time + minutes * 60000), sum := 0, count := 0 } := by
    unfold openInterval
    cases h.expiry <;> rfl
  rw [opened]
  generalize (if h.expiry.isSome then h
      else { h with expiry := some (rd.time + minutes * 60000), sum := 0, count := 0 }) = h'
  dsimp only
  cases cold with
  | none =>
    rw [ite_self]
    rfl
  | some x =>
    by_cases none : rd.telegram.pressure = 4095
    · rw [if_neg (by simp [bearsPressure, none])]
      exact (if_pos (.inl none)).symm
    · rw [if_pos ((bearsPressure_iff _).mpr none)]
      unfold takeCold
      dsimp only
      by_cases full : 65535 ≤ h'.count
      · rw [if_neg (by omega), if_pos (.inr full)]
      · rw [if_pos (by omega), if_neg fun k => k.elim none full]

theorem readRec_clamped :
    (readRec s rd r).clamped = (compensate s.content.settings.tref s.vehicle.ambient rd r).clamped :=
  (compensate_hearReading rd r s.content.settings.tref s.vehicle.ambient).2.1

theorem readingRecorded_readRec : ReadingRecorded s rd r (readRec s rd r).out := by
  obtain ⟨judging, -, out⟩ := compensate_hearReading rd r s.content.settings.tref s.vehicle.ambient
  obtain ⟨bound, cache, history, temp, battery, fault⟩ :=
    compensate_keeps rd r s.content.settings.tref s.vehicle.ambient
  unfold ReadingRecorded
  intro tel c k0 k1 k h
  have run : (readRec s rd r).out = judgeReading rd c.judging
      (recordHistory s.content.settings.intervalLength rd
        (compensate s.content.settings.tref s.vehicle.ambient rd (hearReading rd r)).out) := by
    unfold readRec
    dsimp only
    rw [judging]
  have taken := takeCold_openInterval rd s.content.settings.intervalLength c.out.cold r.history
  have level : levelAt rd c.out.cache c.out.filtered k0 = k1 := by
    rw [cache]
    rfl
  have cond : (readRec s rd r).out.cond = k := by
    rw [run, judgeReading_eq, levelJudged_eq, out]
    show judgeBattery c.out.battery (judgeFault c.out.fault (judgeHot c.out.cache.hotLimit c.judging
      (levelAt rd c.out.cache c.out.filtered k0))) = k
    rw [level, battery, cache]
  have silent : k.active.silent = (r.cond.active.silent && r.state != .silent) := by
    refine (judged_other (j := .silent) (by decide) (by decide) (by decide) _ _ _ _ k1).trans ?_
    rw [← level, levelAt_active]
    show k0.active.silent = _
    by_cases h : r.state = .silent
    · rw [show k0 = clearCond .silent r.cond from if_pos h, h]
      simp [clearCond, condSet]
    · rw [show k0 = r.cond from if_neg h]
      simp [h]
  refine ⟨?isState, ?isLastTime, ?isLastKind, ?isReadings, ?isSilence, ?isTemp, ?isBattery, ?isFault, ?isCold, ?isHot, ?isAcc,
    ?isFiltered, ?isHeld, ?isUncompensated, ?isSaturated, ?isHistory, cond, by rw [cond]; exact silent, ?isBound, ?isCache⟩
  all_goals rw [run, judgeReading_eq, recordHistory, out]
  case isTemp => exact temp
  case isBattery => exact battery
  case isFault =>
    show c.out.fault = true ↔ _
    rw [fault]
    simp [bearsPressure, tel]
  case isHistory =>
    dsimp only
    rw [history]
    exact taken
  case isBound => exact bound
  case isCache => exact cache
  case isReadings => rfl

end Reading

/-! ## The lookup of a first copy (R11, R22) -/

section FirstCopy

variable {c : Copy} {e : EntryNo} {s : State}

/-- A first copy whose lookup answers: the entry joins, and takes the mark. -/
theorem firstCopy_of_lookup (h : ∀ x ∈ s.dup.entries, ¬(x.sid = c.sid ∧ x.seq = c.seq)) {u : State} {mark : Bool}
    (found : lookup c.sid c.seq c.telegram (setDupEntries (s.dup.entries ++ [newEntry s.time c]) s) =
      { state := u, mark := mark }) (dup : u.dup = (setDupEntries (s.dup.entries ++ [newEntry s.time c]) s).dup) :
    firstCopy c s = setDupEntries (s.dup.entries ++ [{ newEntry s.time c with flagged := mark }]) u := by
  unfold firstCopy
  dsimp only
  rw [found]
  cases mark with
  | true =>
    dsimp only
    rw [if_pos rfl, dup]
    exact congrArg (setDupEntries · u) (mark_append_new h s.time)
  | false =>
    dsimp only
    rw [if_neg nofun, setDupEntries, show s.dup.entries ++ [{ newEntry s.time c with flagged := false }] =
      (setDupEntries (s.dup.entries ++ [newEntry s.time c]) s).dup.entries from rfl, ← dup]

theorem lookup_of_inactive (found : findId s c.sid = some e) (inactive : isActive s (entryAt s e).set = false) :
    lookup c.sid c.seq c.telegram s =
      { state := { s with table := { s.table with inactiveSet := countUp s.table.inactiveSet } }
        mark := c.telegram.kind == .learn } := by
  simp [lookup, found, inactive]

theorem lookup_of_late (found : findId s c.sid = some e) (active : isActive s (entryAt s e).set = true)
    (late : isLateRepeat (pick s.table.accepted e) c.seq s.time = true) :
    lookup c.sid c.seq c.telegram s =
      { state := { s with table := { s.table with lateRepeat := countUp s.table.lateRepeat } }
        mark := c.telegram.kind == .learn } := by
  simp [lookup, found, active, late]

theorem lookup_of_vacant (found : findId s c.sid = some e) (active : isActive s (entryAt s e).set = true)
    (late : isLateRepeat (pick s.table.accepted e) c.seq s.time = false)
    (vacant : (posRec s (entryAt s e).pos).state = .vacant) :
    lookup c.sid c.seq c.telegram s =
      { state := { s with table := { s.table with unplaced := countUp s.table.unplaced } }
        mark := c.telegram.kind == .learn } := by
  simp [lookup, found, active, late, vacant]

theorem lookup_of_accepted (found : findId s c.sid = some e) (active : isActive s (entryAt s e).set = true)
    (late : isLateRepeat (pick s.table.accepted e) c.seq s.time = false)
    (placed : (posRec s (entryAt s e).pos).state ≠ .vacant) :
    lookup c.sid c.seq c.telegram s =
      { state := acceptTelegram e c.seq c.telegram s, mark := c.telegram.kind == .learn } := by
  simp [lookup, found, active, late, placed]

theorem isLateRepeat_iff (last : Option Accepted) (seq : Fin 16) (now : Nat) :
    isLateRepeat last seq now = true ↔ ∃ a, last = some a ∧ a.seq = seq ∧ now < a.time + 10000 := by
  unfold isLateRepeat
  cases last with
  | none => simp
  | some a =>
    simp only [Bool.and_eq_true, beq_iff_eq, decide_eq_true_eq, Option.some.injEq, exists_eq_left']
    rfl

end FirstCopy

/-- TWIN is judged at a position and its neighbour on the axle alone. -/
theorem judgeTwin_away {p q : Pos} (s : State) (hq : q ≠ p) (hm : q ≠ mateOf p) : posRec (judgeTwin p s) q = posRec s q := by
  obtain h | ⟨h | h, -⟩ := judgeTwin_posRec p q s
  · exact h
  · exact absurd h hq
  · exact absurd (partnerOf_eq h) hm

/-- The close of an event reads of the state before it only its records. -/
theorem finishEvent_before_congr {s t : State} (h : t.pos = s.pos) (touched : List Pos) (sample : Option Pos) (u : State) :
    finishEvent t touched sample u = finishEvent s touched sample u := by
  unfold finishEvent closeEvent closeAt
  simp only [posRec_of_pos h]

/-- The state of an accepted telegram once its reading is recorded, ahead of the judgement of TWIN. -/
def acceptedAt (e : EntryNo) (seq : Fin 16) (tel : Telegram) (s : State) : State :=
  readAt (entryAt s e).pos { offset := (entryAt s e).offset, telegram := tel, time := s.time } (recordAcceptance e seq s)

section Accepted

variable (e : EntryNo) (seq : Fin 16) (tel : Telegram) (s : State)

theorem acceptedAt_self :
    ReadingRecorded s { offset := (entryAt s e).offset, telegram := tel, time := s.time } (posRec s (entryAt s e).pos)
      (posRec (acceptedAt e seq tel s) (entryAt s e).pos) := by
  unfold acceptedAt
  rw [posRec_readAt, if_pos rfl]
  exact readingRecorded_readRec (recordAcceptance e seq s) _ (posRec s (entryAt s e).pos)

theorem acceptedAt_other {q : Pos} (h : q ≠ (entryAt s e).pos) : posRec (acceptedAt e seq tel s) q = posRec s q := by
  unfold acceptedAt
  rw [posRec_readAt, if_neg h]
  rfl

theorem acceptedAt_mgmt :
    (acceptedAt e seq tel s).mgmt =
      { s.mgmt with
        summary := s.mgmt.summary || (compensate s.content.settings.tref s.vehicle.ambient
          { offset := (entryAt s e).offset, telegram := tel, time := s.time } (posRec s (entryAt s e).pos)).clamped } :=
  congrArg (fun b => { s.mgmt with summary := s.mgmt.summary || b })
    (readRec_clamped (recordAcceptance e seq s) _ (posRec s (entryAt s e).pos))

/-- What an accepted telegram leaves (R24). -/
theorem acceptTelegram_reads :
    acceptTelegram e seq tel s =
      finishEvent s [] (some (entryAt s e).pos) (judgeTwin (entryAt s e).pos (acceptedAt e seq tel s)) := by
  rw [acceptTelegram_eq, applyReading_eq_judgeTwin]
  exact finishEvent_before_congr (s := s) (t := recordAcceptance e seq s) rfl _ _ _

end Accepted

/-- Settles O11. -/
theorem acceptedTelegramIsRead : Obligations.AcceptedTelegramIsRead := by
  refine ⟨fun c e s apart room found => ?_, fun e seq tel s => ?_⟩
  · intro new joined marked active late vacant
    have taken : takeCopy c s = firstCopy c s := by rw [takeCopy_of_new apart, evictIfFull_of_room room]
    have learn : decide (c.telegram.kind = .learn) = (c.telegram.kind == .learn) := by
      rw [Bool.eq_iff_iff]
      simp
    have places : ∀ g : SetNo, (isActive s g = true ↔ g = 0 ∨ g = s.vehicle.set) := isActive_iff s
    have late_iff := isLateRepeat_iff (pick s.table.accepted e) c.seq s.time
    have isActive_of : active → isActive s (entryAt s e).set = true := (places _).mpr
    have notLate_of : ¬late → isLateRepeat (pick s.table.accepted e) c.seq s.time = false := fun h =>
      Bool.eq_false_iff.mpr (mt late_iff.mp h)
    have flagged : new (decide (c.telegram.kind = .learn)) =
        { newEntry s.time c with flagged := c.telegram.kind == .learn } := by
      rw [learn]
      rfl
    rw [taken]
    refine ⟨fun away => ?_, fun here repeated => ?_, fun here fresh unplaced => ?_, fun here fresh placed => ?_⟩
    · rw [firstCopy_of_lookup apart (lookup_of_inactive (s := setDupEntries _ s) found
        (Bool.eq_false_iff.mpr (mt (places _).mp away))) rfl, ← flagged]
      rfl
    · rw [firstCopy_of_lookup apart (lookup_of_late (s := setDupEntries _ s) found (isActive_of here)
        (late_iff.mpr repeated)) rfl, ← flagged]
      rfl
    · rw [firstCopy_of_lookup apart (lookup_of_vacant (s := setDupEntries _ s) found (isActive_of here)
        (notLate_of fresh) unplaced) rfl, ← flagged]
      rfl
    · rw [firstCopy_of_lookup apart (lookup_of_accepted (s := setDupEntries _ s) found (isActive_of here)
        (notLate_of fresh) placed) (acceptTelegram_readReach e c.seq c.telegram _).dup, ← flagged,
        show joined false s = setDupEntries (s.dup.entries ++ [newEntry s.time c]) s from rfl]
      generalize acceptTelegram e c.seq c.telegram _ = u
      rfl
  · intro p rd c
    have event := acceptTelegram_reads e seq tel s
    have reach : ReadReach (recordAcceptance e seq s) (finishEvent s [] (some p) (judgeTwin p (acceptedAt e seq tel s))) :=
      event ▸ acceptTelegram_readReach e seq tel s
    have judged := judgeTwin_posOnly p (acceptedAt e seq tel s)
    have close := finishEvent_reach s [] (some p) (judgeTwin p (acceptedAt e seq tel s))
    have live : (posRec (finishEvent s [] (some p) (judgeTwin p (acceptedAt e seq tel s))) p).state = .live :=
      (finishEvent_record s [] (some p) _ p).state.trans ((judgeTwin_seat p p (acceptedAt e seq tel s)).1.trans
        (acceptedAt_self e seq tel s).1)
    have away : ∀ q : Pos, q ≠ p → q ≠ mateOf p →
        posRec (finishEvent s [] (some p) (judgeTwin p (acceptedAt e seq tel s))) q = posRec s q := fun q hq hm => by
      have kept := (judgeTwin_away (acceptedAt e seq tel s) hq hm).trans (acceptedAt_other e seq tel s hq)
      rw [finishEvent_quiet s [] (some p) _ q List.not_mem_nil kept, kept]
    have table : (finishEvent s [] (some p) (judgeTwin p (acceptedAt e seq tel s))).table.accepted =
        put s.table.accepted e (some { seq := seq, time := s.time }) := congrArg (·.accepted) reach.table
    have mgmt := (close.mgmt.trans judged.mgmt).trans (acceptedAt_mgmt e seq tel s)
    refine ⟨acceptedAt e seq tel s, _, event, rfl, acceptedAt_self e seq tel s,
      fun _ hq => acceptedAt_other e seq tel s hq, ⟨rfl, judged.tx, judged.chan⟩, live, mgmt, away, ?_, fun i hi => ?_,
      reach.content, reach.vehicle, reach.dup, reach.strangers, reach.truckWalk, reach.trailerWalk, reach.store, reach.time⟩
    · rw [table, pick_put_self]
    · rw [table, pick_put_ne _ _ hi]

end Sys2Proof.Machine
end

section
/-! PROOF. A binding carried out at a walk (R31, R139 to R141). Settles O37. -/

namespace Sys2Proof.Machine

open Sys2Proof

/-! ## The next step of a walk (R134) -/

section Steps

variable {s : State} {w : OpenWalk} {n : Nat}

theorem nextStep_eq_some {k : Nat} (from_ : n ≤ k) (lt : k < w.length) (here : (geometry s (visitAt w k)).fitted = true)
    (before : ∀ j, n ≤ j → j < k → (geometry s (visitAt w j)).fitted = false) : nextStep s w n = some k := by
  unfold nextStep
  rw [List.find?_range_eq_some]
  refine ⟨by simp [from_, here], List.mem_range.mpr lt, fun j hj => ?_⟩
  by_cases hn : n ≤ j
  · simp [hn, before j hn hj]
  · simp [hn]

theorem nextStep_eq_none (unfit : ∀ k, n ≤ k → k < w.length → (geometry s (visitAt w k)).fitted = false) :
    nextStep s w n = none := by
  refine List.find?_eq_none.mpr fun k mem => ?_
  by_cases hn : n ≤ k
  · simp [hn, unfit k hn (List.mem_range.mp mem)]
  · simp [hn]

end Steps

theorem nextStep_modWalk (h : Half) (f : WalkSlot → WalkSlot) (s : State) (w : OpenWalk) (n : Nat) :
    nextStep (modWalk h f s) w n = nextStep s w n := by
  unfold nextStep
  simp only [geometry_modWalk]

theorem advanceWalk_table (h : Half) (w : OpenWalk) (k : Nat) (s : State) : (advanceWalk h w k s).table = s.table := by
  unfold advanceWalk
  split <;> exact modWalk_table _ _ _

/-! ## The records of a binding (R57, R58, R139) -/

/-- A recording of a reading reads of the state its content and its vehicle state alone. -/
theorem readingRecorded_congr {s t : State} (settings : t.content.settings = s.content.settings)
    (vehicle : t.vehicle = s.vehicle) {rd : Reading} {r x : PosRec} (h : ReadingRecorded t rd r x) :
    ReadingRecorded s rd r x := by
  unfold ReadingRecorded at h ⊢
  rwa [settings, vehicle] at h

/-- The carried reading of a binding: with the offset of the entry as the binding left it, at the time of the binding. -/
def carriedReading (b : TableBinding) (ev : Evidence) : Reading :=
  { offset := (entryAt b.state b.entry).offset, telegram := ev.telegram, time := b.state.time }

/-- The state of a binding once the carried reading is recorded, ahead of the judgement of TWIN. -/
def boundAt (b : TableBinding) (p : Pos) (ev : Evidence) : State := readAt p (carriedReading b ev) (notified b p)

theorem bindAndRead_eq_judgeTwin (b : TableBinding) (p : Pos) (ev : Evidence) :
    bindAndRead b p ev = judgeTwin p (boundAt b p ev) := by
  rw [bindAndRead_eq, applyReading_eq_judgeTwin]
  rfl

section Bound

variable {s : State} {b : TableBinding} (table : TableOnly s b.state) (p : Pos) (ev : Evidence)

include table

theorem posRec_notified (q : Pos) :
    posRec (notified b p) q = toldRec s { unbind := b.vacated, bind := some p } b.entry q := by
  have geo : b.state.content.geometry = s.content.geometry := by rw [table.content]
  exact (congrArg (posRec · q) (applyNotices_some b.vacated p b.entry b.state).symm).trans
    (applyNotices_posRec geo table.pos q)

/-- The record of the place of a binding, ready for the carried reading. -/
theorem notified_place (state : (posRec s p).state ≠ .vacant) :
    posRec (notified b p) p =
      if hasBinding (posRec s p).state = true then freshRec .waiting (some b.entry) (posRec s p)
      else { besideLeavers s b.vacated.toList p with state := .waiting, bound := some b.entry } := by
  rw [posRec_notified table]
  unfold toldRec
  dsimp only
  rw [if_pos (by simp)]
  cases bound : hasBinding (posRec s p).state with
  | true =>
    rw [if_pos rfl]
    by_cases left : p ∈ b.vacated.toList
    · rw [if_pos ⟨left, rfl⟩]
      exact boundSeat_of_unbound rfl _
    · rw [if_neg fun k => left k.1]
      exact boundSeat_of_bound (by rw [(besideLeavers_state _ _ _).1]; exact bound) _
  | false =>
    have same : besideLeavers s (b.vacated.toList ++ (some p).toList) p = besideLeavers s b.vacated.toList p :=
      if_congr (by simp [mateOf_ne]) rfl rfl
    rw [if_neg (by simp), if_neg nofun, same]
    exact boundSeat_of_unbound ((besideLeavers_state _ _ _).1.trans (unbound_of_not_bound bound state)) _

theorem boundAt_place :
    ReadingRecorded s (carriedReading b ev) (posRec (notified b p) p) (posRec (boundAt b p ev) p) := by
  have kept := notified_posOnly b p
  unfold boundAt
  rw [posRec_readAt, if_pos rfl]
  refine readingRecorded_congr (t := notified b p) ?_ (kept.vehicle.trans table.vehicle) (readingRecorded_readRec _ _ _)
  rw [kept.content, table.content]

/-- Beside the place of a binding nothing changes but at the position it left and at the neighbours of the two. -/
theorem boundAt_beside {q : Pos} (h : q ≠ p) :
    posRec (boundAt b p ev) q =
      if q ∈ b.vacated.toList ∧ hasBinding (posRec s q).state = true then freshRec .unbound none (posRec s q)
      else besideLeavers s (p :: b.vacated.toList) q := by
  unfold boundAt
  rw [posRec_readAt, if_neg h, posRec_notified table, toldRec_of_not_bound (by simpa using h)]
  refine if_congr ?_ rfl rfl
  simp [h]

theorem boundAt_away {q : Pos} (away : ∀ x ∈ p :: b.vacated.toList, q ≠ x ∧ q ≠ mateOf x) :
    posRec (boundAt b p ev) q = posRec s q := by
  rw [boundAt_beside table p ev (away p List.mem_cons_self).1, if_neg fun k => (away q (List.mem_cons_of_mem _ k.1)).1 rfl,
    besideLeavers_of_not_mem]
  exact fun mem => (away _ mem).2 (mateOf_mateOf q).symm

omit table in
theorem boundAt_content : (boundAt b p ev).content = b.state.content :=
  (congrArg State.content (show boundAt b p ev = { notified b p with
    pos := (boundAt b p ev).pos, mgmt := (boundAt b p ev).mgmt } from rfl)).trans (notified_posOnly b p).content

theorem boundAt_mgmt :
    (boundAt b p ev).mgmt.summary = (s.mgmt.summary ||
      (compensate s.content.settings.tref s.vehicle.ambient (carriedReading b ev) (posRec (notified b p) p)).clamped) := by
  have kept := notified_posOnly b p
  have clamped := readRec_clamped (notified b p) (carriedReading b ev) (posRec (notified b p) p)
  rw [show (notified b p).content.settings = s.content.settings by rw [kept.content, table.content],
    kept.vehicle.trans table.vehicle] at clamped
  show ((notified b p).mgmt.summary || (readRec (notified b p) (carriedReading b ev) (posRec (notified b p) p)).clamped) = _
  rw [clamped, kept.mgmt, table.mgmt]

end Bound

/-! ## The event of a binding and what follows it (R139) -/

/-- The event of a binding, closed. -/
def boundEvent (b : TableBinding) (p : Pos) (ev : Evidence) (s : State) : State :=
  finishEvent s (p :: b.vacated.toList) (some p) (judgeTwin p (boundAt b p ev))

theorem carryBinding_eq (h : Half) (w : OpenWalk) (ev : Evidence) (b : TableBinding) (s : State) :
    carryBinding h w ev b s =
      countBinding h w ev (placeService (learnNotice h w.current ev.sid b.outcome b.entry) (boundEvent b w.current ev s)) := by
  unfold carryBinding boundEvent
  rw [bindAndRead_eq_judgeTwin]

/-- After its event a binding changes the walk alone, and places notices. -/
theorem carryBinding_walkOnly (h : Half) (w : OpenWalk) (ev : Evidence) (b : TableBinding) (s : State) :
    WalkOnly h (boundEvent b w.current ev s) (carryBinding h w ev b s) ∧
      (carryBinding h w ev b s).table = (boundEvent b w.current ev s).table := by
  rw [carryBinding_eq]
  generalize boundEvent b w.current ev s = u
  refine ⟨(((placeService_reach _ u).walkOnly h).trans (modWalk_walkOnly h _ _)).trans (advanceWalk_walkOnly h w _ _), ?_⟩
  exact ((advanceWalk_table _ _ _ _).trans (modWalk_table _ _ _)).trans (placeService_reach _ u).table

section Event

variable {s : State} {b : TableBinding} (table : TableOnly s b.state) (p : Pos) (ev : Evidence)

theorem boundEvent_readReach : ReadReach b.state (boundEvent b p ev s) := by
  unfold boundEvent
  rw [← bindAndRead_eq_judgeTwin]
  exact bound_readReach _ _ _ _ _ _

theorem boundEvent_mgmt :
    (boundEvent b p ev s).mgmt = (boundAt b p ev).mgmt :=
  (finishEvent_reach s _ (some p) _).mgmt.trans (judgeTwin_posOnly p _).mgmt

theorem boundEvent_seat (q : Pos) :
    (posRec (boundEvent b p ev s) q).state = (posRec (boundAt b p ev) q).state ∧
      (posRec (boundEvent b p ev s) q).bound = (posRec (boundAt b p ev) q).bound := by
  have seat := (finishEvent_seat s (p :: b.vacated.toList) (some p) (judgeTwin p (boundAt b p ev)) q)
  have judged := judgeTwin_seat p q (boundAt b p ev)
  exact ⟨seat.1.trans judged.1, seat.2.trans judged.2⟩

include table

theorem boundEvent_closes :
    ClosesEvent s (p :: b.vacated.toList) (some p) (judgeTwin p (boundAt b p ev)) (boundEvent b p ev s) := by
  have judged := judgeTwin_posOnly p (boundAt b p ev)
  have told := notified_posOnly b p
  exact ⟨rfl, (judged.tx.trans told.tx).trans table.tx, (judged.chan.trans told.chan).trans table.chan⟩

theorem boundEvent_away {q : Pos} (away : ∀ x ∈ p :: b.vacated.toList, q ≠ x ∧ q ≠ mateOf x) :
    posRec (boundEvent b p ev s) q = posRec s q := by
  have here := away p List.mem_cons_self
  have kept := (judgeTwin_away (boundAt b p ev) here.1 here.2).trans (boundAt_away table p ev away)
  unfold boundEvent
  rw [finishEvent_quiet _ _ _ _ _ (fun mem => (away q mem).1 rfl) kept, kept]

end Event

/-! ## The table after a binding (R31) -/

section Table

variable (s : State) (g : SetNo) (p : Pos) (e : EntryNo) (new : Entry)

theorem entryAt_displaced (i : EntryNo) :
    entryAt (writeEntry e new (displace g p s)) i =
      if i = e then new else if findPlace s g p = some i then Entry.free else entryAt s i := by
  rw [show entryAt (writeEntry e new (displace g p s)) i = if i = e then new else entryAt (displace g p s) i from
    pick_put _ _ _ _]
  refine if_congr Iff.rfl rfl ?_
  unfold displace
  cases findPlace s g p with
  | none => rfl
  | some d =>
    refine (pick_put _ _ _ _).trans (if_congr ?_ rfl rfl)
    rw [Option.some.injEq, eq_comm]

theorem accepted_displaced (i : EntryNo) :
    pick (writeEntry e new (displace g p s)).table.accepted i =
      if i = e ∨ findPlace s g p = some i then none else pick s.table.accepted i := by
  refine (pick_put _ _ _ _).trans ?_
  unfold displace
  by_cases he : i = e
  · rw [if_pos he, if_pos (.inl he)]
  · rw [if_neg he]
    cases findPlace s g p with
    | none => simp [he]
    | some d =>
      refine (pick_put _ _ _ _).trans (if_congr ?_ rfl rfl)
      simp [he, eq_comm]

theorem store_displaced : (writeEntry e new (displace g p s)).store = { s.store with changed := true } := by
  unfold displace
  cases findPlace s g p <;> rfl

end Table

/-! ## The walk after a binding (R139, R135) -/

section Advance

variable {h : Half} {w : OpenWalk} {ev : Evidence} {v : State} {slot : WalkSlot} (walk : walkSlot v h = slot)

include walk

/-- The slot after a binding, seen from the slot before it. -/
theorem modWalk_counted :
    modWalk h (fun x => { x with lastBound := some (ev.sid, ev.seq), bound := x.bound + 1 }) v =
      modWalk h (fun x => { x with lastBound := some (ev.sid, ev.seq), bound := slot.bound + 1 }) v := by
  subst walk
  cases h <;> rfl

theorem countBinding_goesOn {t k : Nat} (time : v.time = t) (next : nextStep v w (w.step + 1) = some k) :
    countBinding h w ev v = modWalk h (fun x =>
      { x with
        lastBound := some (ev.sid, ev.seq), bound := slot.bound + 1
        walk := some { w with step := k, current := visitAt w k, expiry := t + w.window * 1000 } }) v := by
  unfold countBinding advanceWalk
  rw [modWalk_counted walk, nextStep_modWalk, next, modWalk_time, time]
  cases h <;> rfl

theorem countBinding_ends (next : nextStep v w (w.step + 1) = none) :
    countBinding h w ev v =
      placeService
        (.long 0x1E [fld 1 (halfCode h), fld 3 (resultCode .complete), fld 5 (slot.bound + 1), satFld 8 slot.implausible,
          satFld 8 slot.ambiguous])
        (modWalk h (fun x => { x with walk := none, result := some .complete })
          (modWalk h (fun x => { x with lastBound := some (ev.sid, ev.seq), bound := slot.bound + 1 }) v)) := by
  unfold countBinding advanceWalk
  rw [modWalk_counted walk, nextStep_modWalk, next]
  dsimp only
  unfold finishWalk walkEndNotice
  rw [walkSlot_modWalk_self, walk]

end Advance

theorem displace_strangers (g : SetNo) (p : Pos) (s : State) : (displace g p s).strangers = s.strangers := by
  unfold displace
  cases findPlace s g p <;> rfl

section Binds

variable {sid : SensorId} {g : SetNo} {p : Pos} {s : State} {e : EntryNo}

theorem bindTable_of_new (unknown : findId s sid = none) (free : findFree (displace g p s) = some e) :
    bindTable sid g p s = some
      { state := dropStranger sid
          (writeEntry e { valid := true, sid := sid, set := g, pos := p, offset := 0 } (displace g p s))
        entry := e, outcome := if displaces g p s then .displaced else .new, vacated := none } := by
  unfold bindTable
  rw [unknown]
  dsimp only
  rw [free]

theorem bindTable_of_confirmed (known : findId s sid = some e) (set : (entryAt s e).set = g) (pos : (entryAt s e).pos = p) :
    bindTable sid g p s = some { state := s, entry := e, outcome := .confirmed, vacated := none } := by
  unfold bindTable
  rw [known]
  exact if_pos ⟨set, pos⟩

theorem bindTable_of_moved (known : findId s sid = some e) (moved : ¬((entryAt s e).set = g ∧ (entryAt s e).pos = p)) :
    bindTable sid g p s = some
      { state := writeEntry e { entryAt s e with set := g, pos := p } (displace g p s), entry := e
        outcome := if displaces g p s then .displaced else .moved
        vacated := if isActive s (entryAt s e).set then some (entryAt s e).pos else none } := by
  unfold bindTable
  rw [known]
  exact if_neg moved

/-- The outcome code of a binding that writes the table. -/
theorem outcomeCode_displaces (o : BindOutcome) :
    outcomeCode (if displaces g p s then .displaced else o) = if (findPlace s g p).isSome then 3 else outcomeCode o := by
  unfold displaces
  split <;> rfl

theorem toList_vacated (g : SetNo) (q : Pos) :
    (if isActive s g then some q else none).toList = if g = 0 ∨ g = s.vehicle.set then [q] else [] := by
  by_cases active : g = 0 ∨ g = s.vehicle.set
  · rw [if_pos ((isActive_iff s g).mpr active), if_pos active]
    rfl
  · rw [if_neg (mt (isActive_iff s g).mp active), if_neg active]
    rfl

end Binds

/-- Settles O37. -/
theorem newSensorIsBound : Obligations.NewSensorIsBound := by
  intro h w ev s g p slot closed visits bound kept written
  have bound_of : ∀ b, bindTable ev.sid g p s = some b →
      bound b.entry (outcomeCode b.outcome) b.vacated.toList (carryBinding h w ev b s) := fun b found => by
    have table := bindTable_tableOnly found
    obtain ⟨after, -⟩ := carryBinding_walkOnly h w ev b s
    have event := boundEvent_readReach p ev (s := s) (b := b)
    have time : b.state.time = s.time := table.time
    have content := after.content.trans event.content
    have reading : carriedReading b ev =
        { offset := (entryAt (carryBinding h w ev b s) b.entry).offset, telegram := ev.telegram, time := s.time } := by
      unfold carriedReading
      rw [entryAt_congr (congrArg Content.sensors content), time]
    have seat := boundEvent_seat p ev (s := s) (b := b) p
    have summary := boundAt_mgmt table p ev
    have placed := boundAt_place table p ev
    have walk : walkSlot (boundEvent b p ev s) h = slot :=
      (walkSlot_congr event.truckWalk event.trailerWalk h).trans (walkSlot_congr table.truckWalk table.trailerWalk h)
    have pos : posRec (carryBinding h w ev b s) p = posRec (boundEvent b p ev s) p := posRec_of_pos after.pos p
    have geo : (boundEvent b p ev s).content.geometry = s.content.geometry := by rw [event.content, table.content]
    rw [reading] at summary placed
    unfold bound
    intro r rd
    refine ⟨fun state => ?_, fun k hk => ?_, ?_, ?_, boundAt b p ev, boundEvent b p ev s, boundEvent_closes table p ev, ?_,
      fun state => ?_, fun q hq => boundAt_beside table p ev hq, ?_⟩
    case refine_1 =>
      rw [notified_place table p state] at placed summary
      refine ⟨?_, ?_, ?_⟩
      · rw [pos, seat.1]
        exact placed.1
      · rw [pos, seat.2]
        obtain ⟨-, -, -, -, -, -, -, -, -, -, -, -, -, -, -, -, -, -, entry, -⟩ := placed
        rw [entry]
        split <;> rfl
      · rw [after.mgmt, boundEvent_mgmt]
        exact summary
    case refine_2 =>
      exact (after.other k hk).trans ((walkSlot_congr event.truckWalk event.trailerWalk k).trans
        (walkSlot_congr table.truckWalk table.trailerWalk k))
    case refine_3 => exact after.vehicle.trans (event.vehicle.trans table.vehicle)
    case refine_4 => exact after.dup.trans (event.dup.trans table.dup)
    case refine_5 => exact (boundAt_content p ev).trans content.symm
    case refine_6 =>
      rw [notified_place table p state] at placed
      exact placed
    case refine_7 =>
      rw [carryBinding_eq]
      have eventTime : (boundEvent b p ev s).time = s.time := event.time.trans time
      clear seat summary placed pos after content reading event found table
      generalize boundEvent b p ev s = u at *
      intro v counted
      have fits : ∀ k, (geometry v (visitAt w k)).fitted = visits k := fun k =>
        congrArg (·.fitted) (geometry_congr (s := s) (t := v) geo _)
      have vWalk : walkSlot v h = slot := walk
      have vTime : v.time = s.time := eventTime
      refine ⟨walk, fun k lt le fit unfit => ?_, fun unfit => ?_⟩
      · have found : nextStep v w (w.step + 1) = some k :=
          nextStep_eq_some lt le ((fits k).trans fit) fun j hj hk => (fits j).trans (unfit j hj hk)
        exact countBinding_goesOn vWalk vTime found
      · have found : nextStep v w (w.step + 1) = none := nextStep_eq_none fun k hk lt => (fits k).trans (unfit k hk lt)
        exact countBinding_ends vWalk found
  have kept_of : ∀ b, bindTable ev.sid g p s = some b → ∀ places, (∀ x ∈ b.vacated.toList, x ∈ places) →
      kept places (carryBinding h w ev b s) := fun b found places sub q away => by
    rw [posRec_of_pos (carryBinding_walkOnly h w ev b s).1.pos]
    exact boundEvent_away (bindTable_tableOnly found) p ev fun x mem =>
      away x ((List.mem_cons.mp mem).elim (fun e => e ▸ List.mem_cons_self) fun h => List.mem_cons_of_mem _ (sub x h))
  have table_of : ∀ b, (carryBinding h w ev b s).content = b.state.content ∧ (carryBinding h w ev b s).table = b.state.table ∧
      (carryBinding h w ev b s).store = b.state.store ∧ (carryBinding h w ev b s).strangers = b.state.strangers := fun b => by
    obtain ⟨after, table⟩ := carryBinding_walkOnly h w ev b s
    have event := boundEvent_readReach p ev (s := s) (b := b)
    exact ⟨after.content.trans event.content, table.trans event.table, after.store.trans event.store,
      after.strangers.trans event.strangers⟩
  have written_of : ∀ (e : EntryNo) (new : Entry) (t : State),
      t.content.sensors = (writeEntry e new (displace g p s)).content.sensors →
      t.table = (writeEntry e new (displace g p s)).table → t.store = (writeEntry e new (displace g p s)).store →
      written e (findPlace s g p) new t := fun e new t sensors table store => by
    refine ⟨fun i => ?_, fun i => ?_, ?_⟩
    · rw [entryAt_congr sensors]
      exact entryAt_displaced s g p e new i
    · rw [table]
      exact accepted_displaced s g p e new i
    · rw [store]
      exact store_displaced s g p e new
  have carried : ∀ b, bindTable ev.sid g p s = some b → bindAtWalk h w ev s = carryBinding h w ev b s := fun b found => by
    unfold bindAtWalk
    rw [found]
  refine ⟨fun unknown unnamed full => ?_, fun e unknown free => ?_, fun e known => ⟨fun set pos => ?_, fun moved => ?_⟩⟩
  · have none : bindTable ev.sid g p s = none := by
      unfold bindTable displace
      rw [unknown, unnamed]
      dsimp only
      rw [full]
    unfold bindAtWalk
    rw [none]
    dsimp only
    unfold handOn
    rw [findId_congr (s := s) (congrArg Content.sensors (finishWalk_walkOnly h .tableFull s).content), unknown]
    rfl
  · have found : findFree (displace g p s) = some e := by
      unfold displace
      obtain ⟨unnamed, free⟩ | ⟨d, named, free⟩ := free
      · rw [unnamed]
        exact free
      · rw [named]
        exact free
    have b := bindTable_of_new unknown found
    obtain ⟨content, table, store, strangers⟩ := table_of _
    have binds := bound_of _ b
    refine ⟨_, carried _ b, ?_, kept_of _ b [] (by simp), written_of e _ _ (congrArg Content.sensors content) table store, ?_⟩
    · rw [outcomeCode_displaces] at binds
      exact binds
    · rw [strangers]
      show (displace g p s).strangers.entries.filter _ = _
      rw [displace_strangers]
  · have b := bindTable_of_confirmed known set pos
    obtain ⟨content, table, store, strangers⟩ := table_of _
    exact ⟨_, carried _ b, bound_of _ b, kept_of _ b [] (by simp), content, table, store, strangers⟩
  · have b := bindTable_of_moved known moved
    obtain ⟨content, table, store, strangers⟩ := table_of _
    have binds := bound_of _ b
    have leaves := toList_vacated (s := s) (entryAt s e).set (entryAt s e).pos
    rw [outcomeCode_displaces, leaves] at binds
    refine ⟨_, carried _ b, binds, kept_of _ b _ fun x mem => ?_,
      written_of e _ _ (congrArg Content.sensors content) table store, strangers.trans (displace_strangers g p s),
      fun active away bound => ?_⟩
    · rw [leaves] at mem
      split at mem
      · exact mem
      · cases mem
    · have mem : (entryAt s e).pos ∈ (if isActive s (entryAt s e).set then some (entryAt s e).pos else none).toList := by
        rw [leaves, if_pos active]
        exact List.mem_singleton_self _
      have beside := (boundAt_beside (bindTable_tableOnly b) p ev away).trans (if_pos ⟨mem, bound⟩)
      rw [posRec_of_pos (carryBinding_walkOnly h w ev _ s).1.pos]
      exact ⟨(boundEvent_seat p ev _).1.trans (congrArg PosRec.state beside),
        (boundEvent_seat p ev _).2.trans (congrArg PosRec.bound beside)⟩

end Sys2Proof.Machine
end

section
/-! PROOF. How fields are packed into the bytes of a frame, and read back (section 2.7, R175, R176). The wheel frames of
12.4. Settles O50. -/

namespace Sys2Proof.Machine

open Sys2Proof

/-! ## Numbers as bytes (section 2.7) -/

@[simp] theorem length_bytesOf (n v : Nat) : (bytesOf n v).length = n := by
  induction n generalizing v with
  | zero => rfl
  | succ n ih => rw [bytesOf, List.length_cons, ih]

theorem numberOf_bytesOf (n v : Nat) : numberOf (bytesOf n v) = v % 256 ^ n := by
  induction n generalizing v with
  | zero => rw [Nat.pow_zero, Nat.mod_one]; rfl
  | succ n ih =>
    rw [bytesOf, numberOf, ih, BitVec.toNat_ofNat, Nat.pow_succ' (m := 256), Nat.mod_mul]

/-- The bytes of a number that holds another one above its first k bytes. -/
theorem bytesOf_append (k n : Nat) {low : Nat} (h : low < 256 ^ k) (high : Nat) :
    bytesOf (k + n) (low + 256 ^ k * high) = bytesOf k low ++ bytesOf n high := by
  induction k generalizing low with
  | zero =>
    have : low = 0 := by simpa using h
    subst this
    simp [bytesOf]
  | succ k ih =>
    have split : low + 256 ^ (k + 1) * high = low + 256 * (256 ^ k * high) := by
      rw [Nat.pow_succ', Nat.mul_assoc]
    have first : BitVec.ofNat 8 (low + 256 * (256 ^ k * high)) = BitVec.ofNat 8 low := by
      apply BitVec.eq_of_toNat_eq
      rw [BitVec.toNat_ofNat, BitVec.toNat_ofNat, Nat.add_mul_mod_self_left]
    have rest : (low + 256 * (256 ^ k * high)) / 256 = low / 256 + 256 ^ k * high :=
      Nat.add_mul_div_left _ _ (by decide)
    have small : low / 256 < 256 ^ k := Nat.div_lt_of_lt_mul (by rw [← Nat.pow_succ']; exact h)
    rw [show k + 1 + n = k + n + 1 by omega, bytesOf, split, first, rest, ih small]
    rfl

theorem bytesOf_one {v : Nat} (h : v < 256) : (bytesOf 1 v).map BitVec.toNat = [v] := by
  simp [bytesOf, Nat.mod_eq_of_lt h]

/-! ## Fields packed (section 2.7) -/

/-- The width of fields together. -/
def widthOf (fields : List Field) : Nat := (fields.map fun f => f.width).sum

@[simp] theorem widthOf_nil : widthOf [] = 0 := rfl

@[simp] theorem widthOf_cons (f : Field) (rest : List Field) : widthOf (f :: rest) = f.width + widthOf rest := List.sum_cons

theorem packFields_lt (fields : List Field) : packFields fields < 2 ^ widthOf fields := by
  induction fields with
  | nil => exact Nat.one_pos
  | cons f rest ih =>
    have value : f.value % 2 ^ f.width < 2 ^ f.width := Nat.mod_lt _ (Nat.two_pow_pos _)
    rw [packFields, widthOf_cons, Nat.pow_add]
    calc f.value % 2 ^ f.width + 2 ^ f.width * packFields rest
        < 2 ^ f.width + 2 ^ f.width * packFields rest := Nat.add_lt_add_right value _
      _ = 2 ^ f.width * (packFields rest + 1) := by rw [Nat.mul_succ, Nat.add_comm]
      _ ≤ _ := Nat.mul_le_mul_left _ ih

theorem packFields_append (a b : List Field) : packFields (a ++ b) = packFields a + 2 ^ widthOf a * packFields b := by
  induction a with
  | nil => simp [packFields, widthOf]
  | cons f rest ih =>
    rw [List.cons_append, packFields, packFields, ih, widthOf_cons, Nat.pow_add, Nat.mul_add, Nat.mul_assoc, Nat.add_assoc]

/-- Fields of whole bytes ahead of others fill bytes of their own. -/
theorem bytesOf_packFields (k n : Nat) {a : List Field} (h : widthOf a = 8 * k) (b : List Field) :
    bytesOf (k + n) (packFields (a ++ b)) = bytesOf k (packFields a) ++ bytesOf n (packFields b) := by
  have size : 2 ^ widthOf a = 256 ^ k := by rw [h, Nat.pow_mul]
  rw [packFields_append, size]
  exact bytesOf_append k n (size ▸ packFields_lt a) _

/-- Fields packed above the bits below a place are read there. -/
theorem fieldsAt_packFields (fields : List Field) (start : Nat) {low : Nat} (h : low < 2 ^ start) :
    fieldsAt (low + 2 ^ start * packFields fields) start (fields.map fun f => (f.width, f.value)) = true := by
  induction fields generalizing start low with
  | nil => simpa [fieldsAt, packFields] using h
  | cons f rest ih =>
    have above : (low + 2 ^ start * packFields (f :: rest)) / 2 ^ start = packFields (f :: rest) := by
      rw [Nat.add_mul_div_left _ _ (Nat.two_pow_pos _), Nat.div_eq_of_lt h, Nat.zero_add]
    have here : packFields (f :: rest) % 2 ^ f.width = f.value % 2 ^ f.width := by
      rw [packFields, Nat.add_mul_mod_self_left, Nat.mod_mod]
    have value : f.value % 2 ^ f.width + 1 ≤ 2 ^ f.width := Nat.mod_lt _ (Nat.two_pow_pos _)
    have next : low + 2 ^ start * packFields (f :: rest) =
        low + 2 ^ start * (f.value % 2 ^ f.width) + 2 ^ (start + f.width) * packFields rest := by
      rw [packFields, Nat.mul_add, Nat.pow_add, Nat.mul_assoc, Nat.add_assoc]
    have small : low + 2 ^ start * (f.value % 2 ^ f.width) < 2 ^ (start + f.width) :=
      calc low + 2 ^ start * (f.value % 2 ^ f.width)
          < 2 ^ start + 2 ^ start * (f.value % 2 ^ f.width) := Nat.add_lt_add_right h _
        _ = 2 ^ start * (f.value % 2 ^ f.width + 1) := by rw [Nat.mul_succ, Nat.add_comm]
        _ ≤ _ := by rw [Nat.pow_add]; exact Nat.mul_le_mul_left _ value
    rw [List.map_cons, fieldsAt, above, here, next, ih _ small, decide_eq_true rfl]
    rfl

/-- What a number holds of a field it holds up to the field's width. -/
theorem fieldsAt_mod (n start : Nat) (l : List (Nat × Nat)) :
    fieldsAt n start (l.map fun x => (x.1, x.2 % 2 ^ x.1)) = fieldsAt n start l := by
  induction l generalizing start with
  | nil => rfl
  | cons x rest ih => rw [List.map_cons, fieldsAt, fieldsAt, ih, Nat.mod_mod]

/-- A SERVICE frame of length 8 carries its kind and its fields (R176). -/
theorem carries_long (kind : Nat) (fields : List Field) (h : widthOf fields ≤ 59) :
    carries (.long kind fields) kind (fields.map fun f => (f.width, f.value)) := by
  refine ⟨length_bytesOf _ _, ?_⟩
  have small : packFields (fld 5 kind :: fields) < 256 ^ 8 :=
    (packFields_lt _).trans_le (Nat.pow_le_pow_right (n := 2) (by decide) (by
      show 5 + widthOf fields ≤ 64
      omega))
  have packed := fieldsAt_packFields (fld 5 kind :: fields) 0 (low := 0) (by decide)
  rw [Nat.pow_zero, Nat.zero_add, Nat.one_mul] at packed
  rw [bodyBytes, numberOf_bytesOf, Nat.mod_eq_of_lt small]
  exact packed

/-- A SERVICE frame of length 8 carries any values that its fields' widths do not tell from its own. -/
theorem carries_of {kind : Nat} {fields : List Field} {l : List (Nat × Nat)} (width : widthOf fields ≤ 59)
    (same : fields.map (fun f => (f.width, f.value % 2 ^ f.width)) = l.map fun x => (x.1, x.2 % 2 ^ x.1)) :
    carries (.long kind fields) kind l := by
  obtain ⟨length, packed⟩ := carries_long kind fields width
  refine ⟨length, ?_⟩
  rw [← fieldsAt_mod] at packed ⊢
  rw [List.map_cons] at packed ⊢
  rw [← same]
  rwa [List.map_map] at packed

/-! ## The wheel frame (12.4) -/

section Wheel

variable (v : WheelView) (two : Nat)

/-- The first byte: the position, and channel number or reason. -/
def wheelHead : List Field := [fld 5 v.position.val, fld 2 two, bit false]

/-- The second byte: the level and the six conditions. -/
def wheelAlert : List Field := fld 2 (levelCode v.level) :: condFields v.active

/-- The third byte: the position state and the flags. -/
def wheelFlags : List Field :=
  [fld 3 (posStateCode v.state), bit v.uncompensated, bit v.saturated, bit v.ackedAny, bit false, bit v.age.isNone]

/-- The fourth byte to the sixth: the two gauges. -/
def wheelGauges : List Field := [optFld 12 4095 v.filtered, optFld 12 4095 v.hot]

theorem wheelFields_eq :
    wheelFields v two =
      wheelHead v two ++ (wheelAlert v ++ (wheelFlags v ++ (wheelGauges v ++ ([optFld 8 0 v.temp] ++ [optFld 8 0 v.age])))) :=
  rfl

theorem wheelBytes :
    bytesOf 8 (packFields (wheelFields v two)) =
      bytesOf 1 (packFields (wheelHead v two)) ++ (bytesOf 1 (packFields (wheelAlert v)) ++
        (bytesOf 1 (packFields (wheelFlags v)) ++ (bytesOf 3 (packFields (wheelGauges v)) ++
          (bytesOf 1 (packFields [optFld 8 0 v.temp]) ++ bytesOf 1 (packFields [optFld 8 0 v.age]))))) := by
  rw [wheelFields_eq, bytesOf_packFields 1 7 rfl, bytesOf_packFields 1 6 rfl, bytesOf_packFields 1 5 rfl,
    bytesOf_packFields 3 2 rfl, bytesOf_packFields 1 1 rfl]

theorem levelCode_lt (l : Level) : levelCode l < 4 := by cases l <;> decide

theorem posStateCode_lt (st : PosState) : posStateCode st < 8 := by cases st <;> decide

theorem ageByte_lt (ms : Nat) : ageByte ms < 256 := by
  unfold ageByte
  omega

theorem toNat_mod_two (b : Bool) : b.toNat % 2 = b.toNat := Nat.mod_eq_of_lt b.toNat_lt

theorem packFields_wheelHead (h : two < 4) : packFields (wheelHead v two) = v.position.val + 32 * two := by
  have := v.position.isLt
  simp [wheelHead, packFields, fld, bit]
  omega

theorem packFields_wheelAlert :
    packFields (wheelAlert v) = levelCode v.level + 4 * v.active.hot.toNat + 8 * v.active.twin.toNat +
      16 * v.active.leak.toNat + 32 * v.active.silent.toNat + 64 * v.active.fault.toNat + 128 * v.active.battery.toNat := by
  have := levelCode_lt v.level
  simp only [wheelAlert, condFields, packFields, fld, bit, Nat.pow_one, toNat_mod_two]
  omega

theorem packFields_wheelFlags :
    packFields (wheelFlags v) = posStateCode v.state + 8 * v.uncompensated.toNat + 16 * v.saturated.toNat +
      32 * v.ackedAny.toNat + 128 * v.age.isNone.toNat := by
  have := posStateCode_lt v.state
  simp only [wheelFlags, packFields, fld, bit, Nat.pow_one, toNat_mod_two, Bool.toNat_false]
  omega

theorem packFields_byte {x : Option Nat} (h : x.getD 0 < 256) : packFields [optFld 8 0 x] = x.getD 0 := by
  simp [packFields, optFld, fld, Nat.mod_eq_of_lt h]

theorem packFields_wheelGauges (filtered : v.filtered.getD 4095 ≤ 4095) (hot : v.hot.getD 4095 ≤ 4095) :
    packFields (wheelGauges v) = v.filtered.getD 4095 + 4096 * v.hot.getD 4095 := by
  simp only [wheelGauges, packFields, optFld, fld]
  omega

theorem wheelBytes_eq :
    bytesOf 8 (packFields (wheelFields v two)) =
      [packFields (wheelHead v two), packFields (wheelAlert v), packFields (wheelFlags v), packFields (wheelGauges v),
        packFields (wheelGauges v) / 256, packFields (wheelGauges v) / 256 / 256, packFields [optFld 8 0 v.temp],
        packFields [optFld 8 0 v.age]].map (BitVec.ofNat 8) := by
  rw [wheelBytes]
  rfl

end Wheel

theorem getD_le {x : Option Nat} (h : ∀ f, x = some f → f ≤ 4094) : x.getD 4095 ≤ 4095 := by
  cases x with
  | none => exact Nat.le_refl _
  | some f => exact (h f rfl).trans (by decide)

theorem temp_lt {x : Option Nat} (h : ∀ f, x = some f → f ≤ 255) : x.getD 0 < 256 := by
  cases x with
  | none => decide
  | some f => exact Nat.lt_succ_of_le (h f rfl)

theorem packFields_age (s : State) (p : Pos) :
    packFields [optFld 8 0 (viewOf s p).age] = match (posRec s p).lastTime with
      | some t => min ((s.time - t) / 1000) 255
      | none => 0 := by
  show packFields [optFld 8 0 ((posRec s p).lastTime.map fun t => ageByte (s.time - t))] = _
  cases (posRec s p).lastTime with
  | none => rfl
  | some t => exact packFields_byte (x := some (ageByte (s.time - t))) (ageByte_lt _)

/-- The bytes of a frame given as numbers. -/
theorem byte_getD {l : List Byte} {n0 n1 n2 n3 n4 n5 n6 n7 : Nat}
    (h : l = [n0, n1, n2, n3, n4, n5, n6, n7].map (BitVec.ofNat 8)) :
    l.length = 8 ∧ (l.getD 0 0).toNat = n0 % 256 ∧ (l.getD 1 0).toNat = n1 % 256 ∧ (l.getD 2 0).toNat = n2 % 256 ∧
      (l.getD 3 0).toNat = n3 % 256 ∧ (l.getD 4 0).toNat = n4 % 256 ∧ (l.getD 5 0).toNat = n5 % 256 ∧
      (l.getD 6 0).toNat = n6 % 256 ∧ (l.getD 7 0).toNat = n7 % 256 := by
  subst h
  exact ⟨rfl, BitVec.toNat_ofNat _ _, BitVec.toNat_ofNat _ _, BitVec.toNat_ofNat _ _, BitVec.toNat_ofNat _ _,
    BitVec.toNat_ofNat _ _, BitVec.toNat_ofNat _ _, BitVec.toNat_ofNat _ _, BitVec.toNat_ofNat _ _⟩

theorem ackedAny_iff (c : Cond) :
    ackedAny c = true ↔ (c.level ≠ .normal ∧ c.ackLevel = true) ∨
      ∃ k : Condition, condGet c.active k = true ∧ condGet c.acked k = true := by
  constructor
  · intro h
    simp only [ackedAny, Bool.or_eq_true, Bool.and_eq_true, bne_iff_ne] at h
    obtain (((((h | h) | h) | h) | h) | h) | h := h
    · exact .inl h
    · exact .inr ⟨.hot, h⟩
    · exact .inr ⟨.twin, h⟩
    · exact .inr ⟨.leak, h⟩
    · exact .inr ⟨.silent, h⟩
    · exact .inr ⟨.fault, h⟩
    · exact .inr ⟨.battery, h⟩
  · rintro (⟨level, acked⟩ | ⟨k, active, acked⟩)
    · simp [ackedAny, level, acked]
    · cases k <;> simp only [condGet] at active acked <;> simp [ackedAny, active, acked]

/-- Settles O50. -/
theorem wheelFramesAreLaidOut : Obligations.WheelFramesAreLaidOut := by
  refine ⟨by decide, fun _ _ => rfl, fun kind fields => carries_long kind fields, fun _ _ => ⟨rfl, rfl⟩, fun s p why c => ?_⟩
  intro r on byte acknowledged shows
  refine ⟨fun filtered hot temp => ?_, ?_⟩
  · have shown : ∀ (b : Body) (two : Nat), two < 4 → bodyBytes b = bytesOf 8 (packFields (wheelFields (viewOf s p) two)) →
        shows b two := fun b two small bytes => by
      have head := packFields_wheelHead (viewOf s p) two small
      have alert := packFields_wheelAlert (viewOf s p)
      have flags := packFields_wheelFlags (viewOf s p)
      have gauges : packFields (wheelGauges (viewOf s p)) = r.filtered.getD 4095 + 4096 * r.hot.getD 4095 :=
        packFields_wheelGauges _ (getD_le filtered) (getD_le hot)
      have heat : packFields [optFld 8 0 (viewOf s p).temp] = r.temp.getD 0 := packFields_byte (temp_lt temp)
      have aged := packFields_age s p
      rw [wheelBytes_eq, head, alert, flags, gauges, heat, aged] at bytes
      obtain ⟨length, b0, b1, b2, b3, b4, b5, b6, b7⟩ := byte_getD bytes
      have level : levelCode r.cond.level < 4 := levelCode_lt _
      have state : posStateCode r.state < 8 := posStateCode_lt _
      have position := p.isLt
      have conditions := fun k => Bool.toNat_lt (condGet r.cond.active k)
      have uncompensated := Bool.toNat_lt r.uncompensated
      have saturated := Bool.toNat_lt r.saturated
      have acked := Bool.toNat_lt (ackedAny r.cond)
      have silent := Bool.toNat_lt (viewOf s p).age.isNone
      have one : ∀ x : Bool, x = true ↔ x.toNat = 1 := fun x => Bool.toNat_eq_one.symm
      have absent : (viewOf s p).age.isNone = true ↔ r.lastTime = none := by
        show (r.lastTime.map _).isNone = true ↔ _
        simp
      have second : byte b 2 = posStateCode r.state + 8 * r.uncompensated.toNat + 16 * r.saturated.toNat +
          32 * (ackedAny r.cond).toNat + 128 * (viewOf s p).age.isNone.toNat := b2.trans (by
        apply Nat.mod_eq_of_lt
        show posStateCode r.state + 8 * r.uncompensated.toNat + 16 * r.saturated.toNat + 32 * (ackedAny r.cond).toNat +
          128 * (viewOf s p).age.isNone.toNat < 256
        omega)
      refine ⟨length, b0.trans ?_, b1.trans ?_, ?_, ?_, ?_, ?_, ?_, ?_, ?_, b6.trans ?_, b7.trans ?_⟩
      · show (p.val + 32 * two) % 256 = _
        omega
      · have hot := conditions .hot
        have twin := conditions .twin
        have leak := conditions .leak
        have silent := conditions .silent
        have fault := conditions .fault
        have battery := conditions .battery
        refine Nat.mod_eq_of_lt ?_
        show levelCode r.cond.level + 4 * (condGet r.cond.active .hot).toNat + 8 * (condGet r.cond.active .twin).toNat +
          16 * (condGet r.cond.active .leak).toNat + 32 * (condGet r.cond.active .silent).toNat +
          64 * (condGet r.cond.active .fault).toNat + 128 * (condGet r.cond.active .battery).toNat < 256
        omega
      · rw [second]
        omega
      · rw [second, one]
        omega
      · rw [second, one]
        omega
      · rw [second]
        refine Iff.trans ?_ (ackedAny_iff r.cond)
        rw [one]
        omega
      · rw [second]
        omega
      · rw [second, ← absent, one]
        omega
      · have gauge : r.filtered.getD 4095 ≤ 4095 ∧ r.hot.getD 4095 ≤ 4095 := ⟨getD_le filtered, getD_le hot⟩
        rw [show byte b 3 = _ from b3, show byte b 4 = _ from b4, show byte b 5 = _ from b5]
        omega
      · exact Nat.mod_eq_of_lt (temp_lt temp)
      · cases r.lastTime with
        | none => rfl
        | some t => exact Nat.mod_eq_of_lt (ageByte_lt _)
    exact ⟨shown _ _ (by cases why <;> decide) rfl, shown _ _ c.isLt rfl⟩
  · have := c.isLt
    have packed : packFields [fld 5 0, fld 2 c.val, Sys2Proof.Machine.bit true] = 32 * c.val + 128 := by
      simp only [packFields, fld, Sys2Proof.Machine.bit, Bool.toNat_true]
      omega
    rw [bodyBytes, packed]
    have small : 32 * c.val + 128 < 256 ^ 1 := by omega
    exact bytesOf_append 1 7 small 0

end Sys2Proof.Machine
end

section
/-! PROOF. The replies of the reads, field by field (12.5.1, 12.5.2). Settles O23. -/

namespace Sys2Proof.Machine

open Sys2Proof

/-! ## Values of fields -/

theorem toNat_isSome {α : Type} (x : Option α) : x.isSome.toNat = if x.isSome then 1 else 0 := by cases x <;> rfl

theorem toNat_isActive (s : State) (g : SetNo) : (isActive s g).toNat = if g = 0 ∨ g = s.vehicle.set then 1 else 0 := by
  by_cases h : g = 0 ∨ g = s.vehicle.set
  · rw [if_pos h, (isActive_iff s g).mpr h]
    rfl
  · rw [if_neg h, Bool.eq_false_iff.mpr (mt (isActive_iff s g).mp h)]
    rfl

theorem min_getD {α : Type} (x : Option α) (f : α → Nat) (top : Nat) :
    min ((x.map f).getD 0) top = (x.map fun d => min (f d) top).getD 0 := by
  cases x with
  | none => exact Nat.zero_min _
  | some d => rfl

/-- A field of a value below the field's size, and one of the value it stands for. -/
theorem mod_pow_of_mod {n m w : Nat} (h : m = 2 ^ w) : n % m % 2 ^ w = n % 2 ^ w := by rw [h, Nat.mod_mod]

/-! ## The replies of one frame -/

section Replies

variable (s : State)

theorem sensorEntryReply_carries (e : EntryNo) :
    let x := entryAt s e
    let a := pick s.table.accepted e
    carries (sensorEntryReply s e) 3
      [(32, x.sid.toNat), (4, x.pos.val), (2, x.set.val), (1, if x.set = 0 ∨ x.set = s.vehicle.set then 1 else 0),
        (1, if a.isSome then 1 else 0), (4, (a.map (fun k => k.seq.val)).getD 0),
        (8, (a.map (fun k => min ((s.time - k.time) / 1000) 255)).getD 0), (7, (x.offset % 128).toNat)] := by
  intro x a
  refine carries_of (Nat.le_of_ble_eq_true rfl) ?_
  simp only [List.map_cons, List.map_nil, fld, bit, optFld, signedFld, toNat_isActive, toNat_isSome, BitVec.toNat_ofInt]
  rw [mod_pow_of_mod (m := 16) (w := 4) rfl]
  rfl

theorem positionReplyA_carries (p : Pos) :
    let r := posRec s p
    let g := geometry s p
    carries (positionReplyA s p) 6
      [(1, 0), (5, p.val), (3, posStateCode r.state), (1, g.fitted.toNat), (3, g.cls.val),
        (6, (r.bound.map (fun e => e.val)).getD 63), (3, (r.lastKind.map kindCode).getD 7),
        (8, (r.lastTime.map fun t => min ((s.time - t) / 1000) 255).getD 0), (16, min r.readings 65535),
        (1, r.battery.toNat), (1, r.fault.toNat), (1, r.uncompensated.toNat), (1, r.saturated.toNat)] :=
  carries_of (Nat.le_of_ble_eq_true rfl) rfl

theorem positionReplyB_carries (p : Pos) :
    let r := posRec s p
    carries (positionReplyB s p) 6
      [(1, 1), (5, p.val), (12, r.cold.getD 4095), (12, r.hot.getD 4095), (12, r.filtered.getD 4095),
        (8, r.temp.getD 0), (8, min (r.silence / 1000) 255)] :=
  carries_of (Nat.le_of_ble_eq_true rfl) rfl

theorem walkStatusReply_of_open {h : Half} {w : OpenWalk} (walk : (walkSlot s h).walk = some w) :
    let slot := walkSlot s h
    carries (walkStatusReply s h) 0x0D
      ([(1, halfCode h), (1, 1), (2, w.target.val), (3, Nat.log2 w.length), (1, orderCode w.order), (5, w.current.val),
        (4, w.step), (10, min ((w.expiry - s.time) / 1000) 1023), (3, 7)] ++
        [(5, slot.bound), (8, min slot.implausible 255), (8, min slot.ambiguous 255)]) := by
  unfold walkStatusReply
  dsimp only
  rw [walk]
  exact carries_of (Nat.le_of_ble_eq_true rfl) rfl

theorem walkStatusReply_of_closed {h : Half} (walk : (walkSlot s h).walk = none) :
    let slot := walkSlot s h
    carries (walkStatusReply s h) 0x0D
      ([(1, halfCode h), (1, 0), (2, 0), (3, 0), (1, 0), (5, 0), (4, 0), (10, 0),
        (3, (slot.result.map resultCode).getD 7)] ++
        [(5, slot.bound), (8, min slot.implausible 255), (8, min slot.ambiguous 255)]) := by
  unfold walkStatusReply
  dsimp only
  rw [walk]
  exact carries_of (Nat.le_of_ble_eq_true rfl) rfl

theorem channelStatusReply_carries (c : ChanNo) :
    let r := chanRun s c
    carries (channelStatusReply s c) 0x13
      [(2, c.val), (3, chanStateCode r.state), (5, r.pointer.val), (17, r.remaining), (6, r.blockRem),
        (1, r.pendingTrigger.toNat), (8, min r.overrun 255), (1, if r.due.isSome then 1 else 0),
        (8, (r.due.map fun d => min ((d - s.time) / 1000) 255).getD 0)] := by
  intro r
  refine carries_of (Nat.le_of_ble_eq_true rfl) ?_
  simp only [List.map_cons, List.map_nil, fld, bit, satFld, toNat_isSome, min_getD]
  rfl

theorem settingsReplyChan_carries (c : ChanNo) :
    let k := chanConfig s c
    carries (settingsReplyChan s c) 0x15
      [(3, 2 + c.val), (2, triggerCode k.trigger), (2, modeCode k.mode), (2, stepCode k.step), (5, k.start.val),
        (6, k.blockLen), (16, k.count), (8, k.period), (1, k.skipVacant.toNat), (1, k.cyclic.toNat),
        (1, k.powerUp.toNat)] :=
  carries_of (Nat.le_of_ble_eq_true rfl) rfl

theorem settingsReplyA_carries :
    let x := s.content.settings
    carries (settingsReplyA s) 0x15
      [(3, 0), (8, (x.tref % 256).toNat), (11, x.silenceTimeout), (6, x.repeatPeriod), (6, x.intervalLength)] := by
  intro x
  refine carries_of (Nat.le_of_ble_eq_true rfl) ?_
  simp only [List.map_cons, List.map_nil, fld, signedFld, BitVec.toNat_ofInt]
  rfl

theorem settingsReplyB_carries :
    let x := s.content.settings
    carries (settingsReplyB s) 0x15
      [(3, 1), (14, x.reportLifetime), (10, x.walkWindow), (4, x.node), (2, x.protect)] :=
  carries_of (Nat.le_of_ble_eq_true rfl) rfl

theorem statusReply_carries :
    carries (statusReply s) 0x18
      [(1, s.store.configured.toNat), (1, if s.store.job.isSome then 1 else 0),
        (2, if s.store.lastOk = none then 0 else if s.store.lastOk = some true then 1 else 2),
        (1, s.store.changed.toNat), (1, s.mgmt.summary.toNat), (1, s.vehicle.stale.toNat),
        (2, loadCode s.vehicle.load), (1, motionCode s.vehicle.motion), (8, s.vehicle.ambient),
        (8, s.vehicle.lift.toNat), (2, s.vehicle.set.val), (2, s.content.settings.protect), (1, s.tx.busOff.toNat),
        (1, if s.truckWalk.walk.isSome then 1 else 0), (1, if s.trailerWalk.walk.isSome then 1 else 0)] := by
  unfold statusReply
  dsimp only
  refine carries_of ?_ ?_
  · simp [fld, bit]
  · simp only [List.map_cons, List.map_nil, fld, bit, toNat_isSome, walkOpen, walkSlot]
    cases s.store.lastOk with
    | none => rfl
    | some b => cases b <;> rfl

theorem countersFrame_carries (number : Nat) (counts : List Nat) (few : counts.length ≤ 3) :
    carries (countersFrame number counts) 0x17 ((3, number) :: counts.map (fun n => (16, min n 65535))) := by
  have width : widthOf (fld 3 number :: counts.map (satFld 16)) = 3 + 16 * counts.length := by
    simp [widthOf, fld, satFld, Function.comp_def, Nat.mul_comm]
  have carried := carries_long 0x17 (fld 3 number :: counts.map (satFld 16)) (by omega)
  rw [List.map_cons, List.map_map] at carried
  exact carried

theorem historyHeader_carries (p : Pos) (returned : Nat) :
    let h := (posRec s p).history
    carries (historyHeader s p returned) 8
      [(2, 0), (5, p.val), (4, h.ring.length), (4, (h.ring.filter Option.isSome).length), (4, returned),
        (8, min (h.leak.getD 0) 255), (1, if h.leak.isSome then 1 else 0), (1, if h.expiry.isSome then 1 else 0),
        (8, if h.expiry.isSome then min h.count 255 else 0),
        (12, (h.expiry.map fun e => min ((e - s.time) / 1000) 4095).getD 0), (6, s.content.settings.intervalLength)] := by
  intro h
  have opened : min (if h.expiry.isSome = true then h.count else 0) 255 =
      if h.expiry.isSome = true then min h.count 255 else 0 := by split <;> rfl
  unfold historyHeader
  dsimp only
  refine carries_of ?_ ?_
  · simp [fld, bit, satFld]
  · simp only [List.map_cons, List.map_nil, fld, bit, satFld, toNat_isSome, min_getD]
    rw [← opened]
    rfl

theorem widthOf_append (a b : List Field) : widthOf (a ++ b) = widthOf a + widthOf b := by
  simp [widthOf]

theorem historyRecord_carries (p : Pos) (number : Nat) (places : List Nat) (few : places.length ≤ 3) :
    carries (historyRecord s p number places) 8 ([(2, number), (5, p.val)] ++
      places.flatMap (fun k => [(3, k), (12, (((posRec s p).history.ring[k]?).join).getD 4095)])) := by
  have width : widthOf (places.flatMap (fun k => [fld 3 k, optFld 12 4095 (((posRec s p).history.ring[k]?).join)])) =
      15 * places.length := by
    clear few
    induction places with
    | nil => rfl
    | cons k rest ih =>
      rw [List.flatMap_cons, widthOf_append, ih, List.length_cons]
      simp [fld, optFld]
      omega
  unfold historyRecord
  have carried := carries_long 0x08 ([fld 2 number, fld 5 p.val] ++
    places.flatMap (fun k => [fld 3 k, optFld 12 4095 (((posRec s p).history.ring[k]?).join)])) (by
      rw [widthOf_append, width]
      simp [fld]
      omega)
  rw [List.map_append, List.map_flatMap] at carried
  exact carried

end Replies

/-! ## The replies of several frames -/

/-- Records three to a frame: the frames that hold any (R101). -/
theorem filter_recordFrames (places : List Nat) (few : places.length ≤ 9) :
    [(1, places.take 3), (2, (places.drop 3).take 3), (3, (places.drop 6).take 3)].filter (fun f => !f.2.isEmpty) =
      (List.range ((places.length + 2) / 3)).map fun i => (i + 1, (places.drop (3 * i)).take 3) := by
  have none : ∀ l : List Nat, (l.take 3).isEmpty = decide (l.length = 0) := fun l => by cases l <;> rfl
  have first := none places
  have second := none (places.drop 3)
  have third := none (places.drop 6)
  rw [List.length_drop] at second third
  obtain h | h | h | h : (places.length + 2) / 3 = 0 ∨ (places.length + 2) / 3 = 1 ∨ (places.length + 2) / 3 = 2 ∨
      (places.length + 2) / 3 = 3 := by omega
  all_goals
    rw [h]
    simp only [List.filter_cons, first, second, third]
  · simp [show places.length = 0 by omega]
  · rw [decide_eq_false (by omega : ¬places.length = 0), decide_eq_true (by omega : places.length - 3 = 0),
      decide_eq_true (by omega : places.length - 6 = 0)]
    rfl
  · rw [decide_eq_false (by omega : ¬places.length = 0), decide_eq_false (by omega : ¬places.length - 3 = 0),
      decide_eq_true (by omega : places.length - 6 = 0)]
    rfl
  · rw [decide_eq_false (by omega : ¬places.length = 0), decide_eq_false (by omega : ¬places.length - 3 = 0),
      decide_eq_false (by omega : ¬places.length - 6 = 0)]
    rfl

theorem length_historyPlaces_le (n start count : Nat) : (historyPlaces n start count).length ≤ count := by
  unfold historyPlaces
  split
  · exact Nat.zero_le _
  · simp

theorem historyReply_eq (s : State) (p : Pos) (start : Nat) {count : Nat} (h : count ≤ 8) :
    let places := historyPlaces (posRec s p).history.ring.length start count
    historyReply s p start count = historyHeader s p places.length ::
      (List.range ((places.length + 2) / 3)).map (fun i => historyRecord s p (i + 1) ((places.drop (3 * i)).take 3)) := by
  intro places
  have few := length_historyPlaces_le (posRec s p).history.ring.length start count
  unfold historyReply
  dsimp only
  rw [filter_recordFrames _ (by omega), List.map_map]
  rfl

theorem settingsReply_getElem? (s : State) (c : ChanNo) : (settingsReply s)[2 + c.val]? = some (settingsReplyChan s c) := by
  fin_cases c <;> rfl

/-- The sixteen counts in the order in which READ COUNTERS reports them. -/
def reportedCounts (s : State) : List Nat :=
  [s.frontPort.taken, s.frontPort.badCheck, s.frontPort.badFraming, s.rearPort.taken,
    s.rearPort.badCheck, s.rearPort.badFraming, s.dup.merges, s.dup.evictions, s.table.inactiveSet,
    s.table.lateRepeat, s.table.unplaced, s.strangers.replaced, s.tx.reportEvictions, s.tx.staleDiscards,
    s.tx.refusedAlerts, s.tx.lostService]

theorem countersReply_eq (s : State) :
    countersReply s = (List.range 6).map fun i => countersFrame i (((reportedCounts s).drop (3 * i)).take 3) := rfl

/-- Settles O23. -/
theorem readsPlaceTheirReplies : Obligations.ReadsPlaceTheirReplies := by
  intro s idle age left
  have served := served_lockNone idle
  refine ⟨fun b e named => ?_, fun b p named => ?_, fun b p start count named low some_ few => ?_, fun b h named => ?_,
    fun b c named => ?_, ?_, ?_, ?_, sensorEntryReply_carries s, fun p => ⟨positionReplyA_carries s p,
      positionReplyB_carries s p, fun start count few => ?_⟩, fun h => ⟨fun w => walkStatusReply_of_open s,
      walkStatusReply_of_closed s⟩, fun c => ⟨channelStatusReply_carries s c, _, settingsReply_getElem? s c,
      settingsReplyChan_carries s c⟩, ⟨rfl, ⟨_, rfl, settingsReplyA_carries s⟩, _, rfl, settingsReplyB_carries s⟩,
    ⟨rfl, fun i hi => ⟨_, ?_, countersFrame_carries i _ (List.length_take_le _ _)⟩⟩, statusReply_carries s⟩
  · exact congrArg Host.Outcome.next (by rw [ofLength_self, named, serve_of_served served]; rfl)
  · exact congrArg Host.Outcome.next (by rw [ofLength_self, named, serve_of_served served])
  · have ok : historyArgsOk start count = true := by simp [historyArgsOk, low, some_, few]
    exact congrArg Host.Outcome.next (by rw [ofLength_self, if_pos ok, named, serve_of_served served])
  · exact congrArg Host.Outcome.next (by rw [ofLength_self, named, serve_of_served served]; rfl)
  · exact congrArg Host.Outcome.next (by rw [ofLength_self, named, serve_of_served served]; rfl)
  · exact congrArg Host.Outcome.next (by rw [ofLength_self, serve_of_served served])
  · exact congrArg Host.Outcome.next (by rw [ofLength_self, serve_of_served served])
  · exact congrArg Host.Outcome.next (by rw [ofLength_self, serve_of_served served]; rfl)
  · intro places
    rw [historyReply_eq s p start few]
    refine ⟨by simp [Nat.add_comm, places], ⟨_, rfl, historyHeader_carries s p _⟩, fun i hi => ?_⟩
    refine ⟨_, ?_, historyRecord_carries s p (i + 1) _ (List.length_take_le _ _)⟩
    rw [List.getElem?_cons_succ, List.getElem?_map, List.getElem?_range (show i < (places.length + 2) / 3 by omega)]
    rfl
  · rw [countersReply_eq, List.getElem?_map, List.getElem?_range hi]
    rfl

end Sys2Proof.Machine
end

section
/-! PROOF. Evidence at the stranger list and at the open walks (R33 to R35, R136 to R138, R142). Settles O13. -/

namespace Sys2Proof.Machine

open Sys2Proof

/-! ## The stranger list (R33, R34) -/

theorem leastHeard_le {xs : List Stranger} {x : Stranger} (h : x ∈ xs) : leastHeard xs ≤ x.heard := by
  induction xs with
  | nil => cases h
  | cons y rest ih =>
    cases rest with
    | nil => exact (congrArg Stranger.heard (List.mem_singleton.mp h)).ge
    | cons z rest =>
      have least : leastHeard (y :: z :: rest) = min y.heard (leastHeard (z :: rest)) := rfl
      obtain rfl | mem := List.mem_cons.mp h
      · omega
      · have := ih mem
        omega

/-- The entry that leaves a full list: the one of the lowest heard count, nearest the head among equals. -/
theorem dropLeastHeard_eq {xs : List Stranger} (h : xs ≠ []) :
    ∃ before gone after, xs = before ++ gone :: after ∧ (∀ x ∈ before, gone.heard < x.heard) ∧
      (∀ x ∈ after, gone.heard ≤ x.heard) ∧ dropLeastHeard xs = before ++ after := by
  obtain ⟨y, mem, heard⟩ := leastHeard_mem h
  obtain ⟨gone, before, after, above, least, split, drop⟩ :=
    List.exists_of_eraseP (p := fun x => x.heard == leastHeard xs) mem (beq_iff_eq.mpr heard)
  have least := beq_iff_eq.mp least
  refine ⟨before, gone, after, split, fun x hx => ?_, fun x hx => ?_, drop⟩
  · have le : leastHeard xs ≤ x.heard := leastHeard_le (by rw [split]; exact List.mem_append_left _ hx)
    have ne : x.heard ≠ leastHeard xs := fun e => above x hx (beq_iff_eq.mpr e)
    omega
  · have le : leastHeard xs ≤ x.heard :=
      leastHeard_le (by rw [split]; exact List.mem_append_right _ (List.mem_cons_of_mem _ hx))
    omega

theorem bestRssi_eq (a b : Option Nat) :
    bestRssi a b = if b = none then a else some (max (a.getD 0) (b.getD 0)) := by
  cases a <;> cases b <;> simp [bestRssi]

theorem isMoving_eq (s : State) : isMoving s = decide (s.vehicle.motion = .moving) := by
  unfold isMoving
  cases s.vehicle.motion <;> rfl

section Heard

variable {ev : Evidence} {s : State}

theorem hearStranger_of_new (new : ∀ x ∈ s.strangers.entries, x.sid ≠ ev.sid) : hearStranger ev s = addStranger ev s := by
  unfold hearStranger
  rw [List.find?_eq_none.mpr fun x hx => by simpa using new x hx]

variable {x : Stranger} {before after : List Stranger}

theorem hearStranger_of_known (entries : s.strangers.entries = before ++ x :: after) (sid : x.sid = ev.sid)
    (others : ∀ y ∈ before ++ after, y.sid ≠ ev.sid) : hearStranger ev s = updateStranger x ev s := by
  have found : s.strangers.entries.find? (fun x => x.sid == ev.sid) = some x := by
    rw [entries, List.find?_eq_some_iff_append]
    exact ⟨by simpa using sid, before, after, rfl, fun y hy => by simpa using others y (List.mem_append_left _ hy)⟩
  unfold hearStranger
  rw [found]

theorem filter_known (entries : s.strangers.entries = before ++ x :: after) (sid : x.sid = ev.sid)
    (others : ∀ y ∈ before ++ after, y.sid ≠ ev.sid) :
    s.strangers.entries.filter (fun z => z.sid != ev.sid) = before ++ after := by
  rw [entries, List.filter_append, List.filter_cons_of_neg (by simpa using sid), ← List.filter_append, List.filter_eq_self]
  exact fun y hy => by simpa using others y hy

variable {rest : List Stranger}

/-- An update whose moving count comes to 8 is reported once (R35). -/
theorem updateStranger_reported (others : s.strangers.entries.filter (fun z => z.sid != ev.sid) = rest)
    (moving : (heardAgain s.time (isMoving s) ev x).moving = 8) (reported : x.reported = false) :
    updateStranger x ev s =
      placeService (strangerNotice s.time (heardAgain s.time (isMoving s) ev x))
        { s with strangers := { s.strangers with
            entries := rest ++ [{ heardAgain s.time (isMoving s) ev x with reported := true }] } } := by
  have kept : (heardAgain s.time (isMoving s) ev x).reported = x.reported := rfl
  unfold updateStranger
  dsimp only
  rw [others]
  generalize heardAgain s.time (isMoving s) ev x = y at moving kept
  rw [moving, kept, reported]
  rfl

theorem updateStranger_quiet (others : s.strangers.entries.filter (fun z => z.sid != ev.sid) = rest)
    (quiet : ¬((heardAgain s.time (isMoving s) ev x).moving = 8 ∧ x.reported = false)) :
    updateStranger x ev s =
      { s with strangers := { s.strangers with entries := rest ++ [heardAgain s.time (isMoving s) ev x] } } := by
  have kept : (heardAgain s.time (isMoving s) ev x).reported = x.reported := rfl
  unfold updateStranger
  dsimp only
  rw [others]
  generalize heardAgain s.time (isMoving s) ev x = y at quiet kept
  have silent : (y.moving == Config.strangerMoving && !y.reported) = false := by
    rw [← kept] at quiet
    simpa [Config.strangerMoving] using quiet
  rw [silent, Bool.or_false]
  rfl

end Heard

theorem strangerNotice_carries (now : Nat) (x : Stranger) :
    carries (strangerNotice now x) 0x1F
      [(32, x.sid.toNat), (4, min x.heard 15), (7, (x.front.map (min 126)).getD 127),
        (7, (x.rear.map (min 126)).getD 127), (8, min ((now - x.first) / 1000) 255)] := by
  have rssi : (fun v => min v 126) = min 126 := funext fun v => Nat.min_comm _ _
  unfold strangerNotice rssiFld
  rw [rssi]
  exact carries_of (Nat.le_of_ble_eq_true rfl) rfl

/-! ## Evidence judged at the open walks (R136, R137) -/

theorem handOn_eq (ev : Evidence) (s : State) : handOn ev s = if findId s ev.sid = none then hearStranger ev s else s := by
  unfold handOn
  exact if_congr Option.isNone_iff_eq_none rfl rfl

theorem nearTest_iff (n far : Option Nat) (margin : Nat) :
    nearTest n far margin = true ↔ ∃ v, n = some v ∧ ∀ x, far = some x → x ≤ v + margin := by
  cases n <;> cases far <;> simp [nearTest]

theorem plausible_iff (a : AxleRec) (ev : Evidence) :
    plausible a ev = true ↔ a.near = .either ∨
      (a.near = .front ∧ ∃ v, ev.front = some v ∧ ∀ x, ev.rear = some x → x ≤ v + a.margin) ∨
      (a.near = .rear ∧ ∃ v, ev.rear = some v ∧ ∀ x, ev.front = some x → x ≤ v + a.margin) := by
  unfold plausible
  cases a.near <;> simp [nearTest_iff]

theorem repeatsSlot_iff (slot : WalkSlot) (ev : Evidence) :
    repeatsSlot slot ev = true ↔ slot.walk.isSome = true ∧ slot.lastBound = some (ev.sid, ev.seq) := by
  simp [repeatsSlot]

theorem isJudged_iff (s : State) (ev : Evidence) :
    isJudged s ev = true ↔ ev.telegram.kind = .learn ∧
      ¬(s.truckWalk.walk.isSome = true ∧ s.truckWalk.lastBound = some (ev.sid, ev.seq)) ∧
      ¬(s.trailerWalk.walk.isSome = true ∧ s.trailerWalk.lastBound = some (ev.sid, ev.seq)) := by
  simp only [isJudged, Bool.and_eq_true, beq_iff_eq, Bool.not_eq_true', Bool.eq_false_iff, ne_eq, repeatsSlot_iff, and_assoc]

section Delivered

variable {ev : Evidence} {s : State} {h : Half} {w v : OpenWalk}

theorem deliver_of_not_judged (judged : isJudged s ev = false) : deliver ev s = handOn ev s := by
  unfold deliver
  rw [judged]
  rfl

theorem deliver_of_closed (truck : s.truckWalk.walk = none) (trailer : s.trailerWalk.walk = none) :
    deliver ev s = handOn ev s := by
  unfold deliver
  rw [truck, trailer]
  exact ite_self _

theorem deliver_of_one (judged : isJudged s ev = true) (walk : (walkSlot s h).walk = some w)
    (other : ∀ k : Half, k ≠ h → (walkSlot s k).walk = none) : deliver ev s = judgeOne h w ev s := by
  unfold deliver
  rw [judged, if_pos rfl]
  cases h with
  | truck =>
    rw [show s.truckWalk.walk = some w from walk, show s.trailerWalk.walk = none from other .trailer nofun]
  | trailer =>
    rw [show s.trailerWalk.walk = some w from walk, show s.truckWalk.walk = none from other .truck nofun]

theorem deliver_of_two (judged : isJudged s ev = true) (truck : s.truckWalk.walk = some w)
    (trailer : s.trailerWalk.walk = some v) : deliver ev s = judgeTwo w v ev s := by
  unfold deliver
  rw [judged, if_pos rfl, truck, trailer]

end Delivered

/-- Settles O13. -/
theorem evidenceReachesTheStrangerList : Obligations.EvidenceReachesTheStrangerList := by
  refine ⟨fun ev s unknown => ?_, fun ev x before after s entries sid others => ?_, fun ev s => ?_⟩
  · intro new
    have joins : newStranger s.time (isMoving s) ev = new := by
      unfold newStranger
      rw [isMoving_eq]
      simp only [decide_eq_true_eq]
      rfl
    rw [hearStranger_of_new unknown]
    unfold addStranger
    dsimp only
    rw [joins]
    refine ⟨fun room => if_pos room, fun full => ?_⟩
    have nonempty : s.strangers.entries ≠ [] := List.ne_nil_of_length_pos (by omega)
    obtain ⟨before, gone, after, split, above, least, drop⟩ := dropLeastHeard_eq nonempty
    refine ⟨before, gone, after, split, above, least, (if_neg (Nat.not_lt.mpr full)).trans ?_⟩
    rw [drop]
    rfl
  · refine ⟨heardAgain s.time (isMoving s) ev x, _, rfl, ?_, bestRssi_eq _ _, bestRssi_eq _ _, fun reported => ?_,
      fun quiet => ?_⟩
    · unfold heardAgain
      rw [isMoving_eq]
      simp only [decide_eq_true_eq]
      rfl
    · rw [hearStranger_of_known entries sid others]
      exact updateStranger_reported (filter_known entries sid others) reported.1 reported.2
    · rw [hearStranger_of_known entries sid others]
      exact updateStranger_quiet (filter_known entries sid others) quiet
  · intro onward repeats judged near plausible_ implausible ambiguous
    have onward_eq : ∀ u, handOn ev u = onward u := handOn_eq ev
    have judged_iff : isJudged s ev = true ↔ judged := isJudged_iff s ev
    have plausible_iff : ∀ w, plausibleAt s w ev = true ↔ plausible_ w := fun w => Machine.plausible_iff _ ev
    have not_plausible : ∀ w, ¬plausible_ w → plausibleAt s w ev = false := fun w h =>
      Bool.eq_false_iff.mpr (mt (plausible_iff w).mp h)
    refine ⟨fun now x => strangerNotice_carries now x, fun h => ?_, fun truck trailer => ?_,
      fun h w here walk other => ⟨fun yes => ?_, fun no => ?_⟩, fun w v here truck trailer =>
      ⟨fun yes no => ?_, fun no yes => ?_, fun yes too => ?_, fun no nor => ?_⟩⟩
    · rw [deliver_of_not_judged (Bool.eq_false_iff.mpr (mt judged_iff.mp h)), onward_eq]
    · rw [deliver_of_closed truck trailer, onward_eq]
    · rw [deliver_of_one (judged_iff.mpr here) walk other]
      exact if_pos ((plausible_iff w).mpr yes)
    · rw [deliver_of_one (judged_iff.mpr here) walk other]
      exact (if_neg (mt (plausible_iff w).mp no)).trans (onward_eq _)
    all_goals rw [deliver_of_two (judged_iff.mpr here) truck trailer, judgeTwo]
    · rw [(plausible_iff w).mpr yes, not_plausible v no]
    · rw [not_plausible w no, (plausible_iff v).mpr yes]
    · rw [(plausible_iff w).mpr yes, (plausible_iff v).mpr too]
      exact onward_eq _
    · rw [not_plausible w no, not_plausible v nor]
      exact onward_eq _

end Sys2Proof.Machine
end

section
/-! PROOF. A learn walk opened (R131, R132, R134). Settles O34. -/

namespace Sys2Proof.Machine

open Sys2Proof

/-- A start lies in the half of its bit (R131 step 1). -/
theorem halfOf_eq_halfBit (p : Pos) (half : Bool) : halfOf p = halfBit half ↔ (half = true ↔ 16 ≤ p.val) := by
  unfold halfOf halfBit
  by_cases low : p.val < 16
  · rw [if_pos low]
    cases half <;> simp [low]
  · rw [if_neg low]
    cases half <;> simp [Nat.le_of_not_lt low]

theorem walkArgs_eq_some (start : Byte) (half order : Bool) (code : BitVec 3) (target : BitVec 2) (window : BitVec 10)
    (a : WalkArgs) :
    walkArgs start half order code target window = some a ↔
      start.toNat < 32 ∧ (half = true ↔ 16 ≤ start.toNat) ∧ code.toNat ≤ 4 ∧
      (window.toNat = 0 ∨ 30 ≤ window.toNat ∧ window.toNat ≤ 600) ∧
      a.start.val = start.toNat ∧ a.half = (if half then .trailer else .truck) ∧
      a.order = (if order then .interleaved else .sequential) ∧ a.length = 2 ^ code.toNat ∧
      a.target.val = target.toNat ∧ a.window = window.toNat := by
  unfold walkArgs posArg lengthArg
  by_cases place : start.toNat < 32
  · rw [dif_pos place]
    by_cases len : code.toNat ≤ 4
    · rw [if_pos len]
      dsimp only
      have inHalf := halfOf_eq_halfBit ⟨start.toNat, place⟩ half
      by_cases ok : halfOf ⟨start.toNat, place⟩ = halfBit half ∧
          (window.toNat = 0 ∨ 30 ≤ window.toNat ∧ window.toNat ≤ 600)
      · rw [if_pos ok]
        have set : target.toNat % 4 = target.toNat := Nat.mod_eq_of_lt target.isLt
        obtain ⟨p, h, o, l, g, t⟩ := a
        simp only [Option.some.injEq, WalkArgs.mk.injEq, Fin.ext_iff, place, iff_true_intro (inHalf.mp ok.1), len, ok.2, true_and,
          Fin.val_ofNat, set]
        exact ⟨fun ⟨hp, hh, ho, hl, hg, ht⟩ => ⟨hp.symm, hh.symm, ho.symm, hl.symm, hg.symm, ht.symm⟩,
          fun ⟨hp, hh, ho, hl, hg, ht⟩ => ⟨hp.symm, hh.symm, ho.symm, hl.symm, hg.symm, ht.symm⟩⟩
      · rw [if_neg ok]
        simp only [reduceCtorEq, false_iff]
        exact fun k => ok ⟨inHalf.mpr k.2.1, k.2.2.2.1⟩
    · rw [if_neg len]
      simp [len]
  · rw [dif_neg place]
    simp [place]

section Begin

variable {a : WalkArgs} {s : State}

theorem beginWalk_of_open (h : walkOpen s a.half = true) : beginWalk a s = reply 0x0B .walkOpen s := if_pos h

theorem beginWalk_of_mismatch (closed : walkOpen s a.half = false) (h : targetMatches s a.half a.target = false) :
    beginWalk a s = reply 0x0B .badArgument s := by
  unfold beginWalk
  rw [closed, h]
  rfl

/-- A walk past its refusals, seen from its reply: the slot is written behind it. -/
theorem beginWalk_of_match (closed : walkOpen s a.half = false) (h : targetMatches s a.half a.target = true) :
    beginWalk a s = advanceWalk a.half (openedWalk s a) 0
      (modWalk a.half (fun _ => openedSlot (openedWalk s a)) (reply 0x0B .done s)) := by
  unfold beginWalk
  rw [closed, h]
  generalize openedWalk s a = w
  cases a.half <;> rfl

end Begin

/-- Settles O34. -/
theorem walkIsOpened : Obligations.WalkIsOpened := by
  refine ⟨walkArgs_eq_some, fun s h g => (targetMatches_iff s h g).trans ?_, fun start half order code target window a s
    served args => ?_⟩
  · cases h <;> simp [targetLaw]
  · intro cmd w visits
    have run : exec cmd s = .next (beginWalk a s) :=
      congrArg Host.Outcome.next (by rw [ofLength_self, args, serve_of_served served])
    refine ⟨fun isOpen => ?_, fun closed mismatch => ?_, fun closed matched => ⟨fun k lt fit unfit => ?_, fun unfit =>
      ⟨?_, fun k hk => walkSlot_modWalk_ne _ s hk⟩⟩⟩
    · rw [run, beginWalk_of_open isOpen]
    · rw [run, beginWalk_of_mismatch closed mismatch]
    all_goals rw [run, beginWalk_of_match closed matched, advanceWalk, nextStep_modWalk]
    · have found : nextStep (reply 0x0B .done s) (openedWalk s a) 0 = some k :=
        nextStep_eq_some (Nat.zero_le k) lt fit fun j _ hj => unfit j hj
      rw [found]
      dsimp only
      rw [modWalk_time]
      have time : (reply 0x0B .done s).time = s.time := (reply_reach 0x0B .done s).time
      rw [time]
      generalize reply 0x0B .done s = u
      show Host.Outcome.next _ = Host.Outcome.next _
      cases a.half <;> rfl
    · have found : nextStep (reply 0x0B .done s) (openedWalk s a) 0 = none := nextStep_eq_none fun k _ lt => unfit k lt
      rw [found]
      dsimp only
      unfold finishWalk
      rw [walkSlot_modWalk_self]
      generalize reply 0x0B .done s = u
      cases a.half <;> rfl

end Sys2Proof.Machine
end

section
/-! PROOF. Jobs of the report channels round by round (R153 to R155): the frames that a job has placed, what its next
slot does, and that the rounds given to a job are enough. -/

namespace Sys2Proof.Machine

open Sys2Proof

/-! ## A state with a channel's work done -/

/-- A REPORT frame of a channel as it enters the queue in a state. -/
def channelFrame (u : State) (body : Body) : Frame :=
  { cls := .report, entry := u.time, body := body, offered := none, awaited := none }

/-- The state u with frames placed at the tail of the queue and channel c at a runtime: all that a job changes. -/
def worked (c : ChanNo) (u : State) (frames : List Frame) (x : ChanRun) : State :=
  { u with
    tx := { u.tx with frames := u.tx.frames ++ frames }
    chan := put u.chan c x }

theorem insertFrame_report {f : Frame} (h : f.cls = .report) (q : List Frame) : insertFrame f q = q ++ [f] := by
  induction q with
  | nil => rfl
  | cons g rest ih =>
    have le : classRank g.cls ≤ classRank f.cls := by
      rw [h]
      cases g.cls <;> decide
    rw [insertFrame, if_pos le, ih]
    rfl

theorem put_put {α : Type} {n : Nat} (v : Vector α n) (i : Fin n) (a b : α) : put (put v i a) i b = put v i b := by
  simp [put]

theorem put_pick {α : Type} {n : Nat} (v : Vector α n) (i : Fin n) : put v i (pick v i) = v := by
  simp [put, pick]

section Worked

variable (c : ChanNo) (u : State) (frames : List Frame) (x : ChanRun)

@[simp] theorem chanRun_worked : chanRun (worked c u frames x) c = x := pick_put_self _ _ _

theorem chanRun_worked_ne {d : ChanNo} (h : d ≠ c) : chanRun (worked c u frames x) d = chanRun u d := pick_put_ne _ _ h

@[simp] theorem chanConfig_worked (d : ChanNo) : chanConfig (worked c u frames x) d = chanConfig u d := rfl

@[simp] theorem viewOf_worked (p : Pos) : viewOf (worked c u frames x) p = viewOf u p := rfl

theorem hasRoom_worked : hasRoom (worked c u frames x) = true ↔ u.tx.frames.length + frames.length < 24 := by
  rw [hasRoom_iff]
  simp [worked]

theorem seekPosition_congr {s t : State} (pos : t.pos = s.pos) (k : ChanConfig) (n : Nat) (p : Pos) :
    seekPosition t k n p = seekPosition s k n p := by
  induction n generalizing p with
  | zero => rfl
  | succ n ih => rw [seekPosition, seekPosition, posRec_of_pos pos, ih]

@[simp] theorem seekPosition_worked (k : ChanConfig) (n : Nat) (p : Pos) :
    seekPosition (worked c u frames x) k n p = seekPosition u k n p :=
  seekPosition_congr (s := u) (t := worked c u frames x) rfl k n p

theorem modChan_worked (f : ChanRun → ChanRun) : modChan c f (worked c u frames x) = worked c u frames (f x) := by
  unfold modChan
  rw [chanRun_worked]
  unfold worked
  dsimp only
  rw [put_put]

theorem worked_nil : worked c u [] (chanRun u c) = u := by
  unfold worked chanRun
  rw [List.append_nil, put_pick]

theorem modChan_eq_worked (f : ChanRun → ChanRun) : modChan c f u = worked c u [] (f (chanRun u c)) := by
  conv_lhs => rw [← worked_nil c u]
  exact modChan_worked c u [] _ f

theorem placeReport_eq {s : State} (room : hasRoom s = true) (body : Body) :
    placeReport body s = { s with tx := { s.tx with frames := s.tx.frames ++ [channelFrame s body] } } := by
  have h : s.tx.frames.length < Config.queueCap := by simpa [hasRoom] using room
  unfold placeReport offerFrame
  rw [if_pos h, insertFrame_report rfl]
  rfl

theorem placeReport_worked (room : u.tx.frames.length + frames.length < 24) (body : Body) :
    placeReport body (worked c u frames x) = worked c u (frames ++ [channelFrame u body]) x := by
  rw [placeReport_eq ((hasRoom_worked c u frames x).mpr room)]
  unfold worked
  dsimp only
  rw [List.append_assoc]
  rfl

/-! ## One slot of a job -/

theorem runSlot_of_full (full : 24 ≤ u.tx.frames.length + frames.length) :
    runSlot c (worked c u frames x) = worked c u frames { x with state := .waiting } := by
  have room : hasRoom (worked c u frames x) = false :=
    Bool.eq_false_iff.mpr fun h => Nat.not_lt.mpr full ((hasRoom_worked c u frames x).mp h)
  unfold runSlot
  dsimp only
  rw [room, Bool.not_false, if_pos rfl, modChan_worked]

theorem runSlot_of_end (room : u.tx.frames.length + frames.length < 24) (out : x.remaining = 0) :
    runSlot c (worked c u frames x) =
      worked c u (frames ++ [channelFrame u (.endFrame c)]) (afterEnd (chanConfig u c) x) := by
  unfold runSlot
  dsimp only
  rw [(hasRoom_worked c u frames x).mpr room, chanRun_worked, if_neg nofun, if_pos out, placeReport_worked c u frames x room,
    modChan_worked]
  rfl

/-- The runtime of a channel that reports the position its pointer seeks. -/
def soughtRun (u : State) (k : ChanConfig) (x : ChanRun) : ChanRun :=
  { x with pointer := (seekPosition u k 32 x.pointer).pointer }

theorem runSlot_of_found (room : u.tx.frames.length + frames.length < 24) (left : x.remaining ≠ 0)
    (found : (seekPosition u (chanConfig u c) 32 x.pointer).found = true) :
    let k := chanConfig u c
    let next := afterFrame k (soughtRun u k x)
    runSlot c (worked c u frames x) =
      worked c u (frames ++ [channelFrame u (.report (viewOf u (soughtRun u k x).pointer) c)])
        (if jobGoesOn k (soughtRun u k x) next then next else jobEnded next) := by
  unfold runSlot
  dsimp only
  rw [(hasRoom_worked c u frames x).mpr room, chanRun_worked, chanConfig_worked, seekPosition_worked, if_neg nofun,
    if_neg left, if_pos found, viewOf_worked, placeReport_worked c u frames x room, modChan_worked]
  rfl

theorem runSlot_of_nothing (room : u.tx.frames.length + frames.length < 24) (left : x.remaining ≠ 0)
    (found : (seekPosition u (chanConfig u c) 32 x.pointer).found = false) :
    runSlot c (worked c u frames x) = worked c u frames (jobEnded (soughtRun u (chanConfig u c) x)) := by
  unfold runSlot
  dsimp only
  rw [(hasRoom_worked c u frames x).mpr room, chanRun_worked, chanConfig_worked, seekPosition_worked, if_neg nofun,
    if_neg left, found, if_neg nofun, modChan_worked]
  rfl

theorem startPending_worked :
    startPending c (worked c u frames x) = worked c u frames
      (if x.state = .armed ∧ x.pendingTrigger = true then { jobStarted x with pendingTrigger := false } else x) := by
  unfold startPending
  dsimp only
  rw [chanRun_worked]
  by_cases h : x.state = .armed ∧ x.pendingTrigger = true
  · rw [if_pos h, if_pos h, modChan_worked]
  · rw [if_neg h, if_neg h]

variable {x}

theorem startPending_quiet (h : x.state ≠ .armed ∨ x.pendingTrigger = false) :
    startPending c (worked c u frames x) = worked c u frames x := by
  rw [startPending_worked, if_neg]
  rintro ⟨armed, pending⟩
  obtain h | h := h
  · exact h armed
  · rw [h] at pending
    cases pending

end Worked

/-- A slot places a frame, or leaves its channel WAITING or ARMED; no trigger joins a pending one. -/
theorem runSlot_outcome (c : ChanNo) (u : State) (frames : List Frame) (x : ChanRun) :
    ∃ frames' y, runSlot c (worked c u frames x) = worked c u frames' y ∧
      (y.pendingTrigger = true → x.pendingTrigger = true) ∧
      ((u.tx.frames.length + frames.length < 24 ∧ frames'.length = frames.length + 1 ∧ (y.state = .waiting → x.state = .waiting)) ∨
        (frames' = frames ∧ y.state = .armed) ∨
        (24 ≤ u.tx.frames.length + frames.length ∧ frames' = frames ∧ y.state = .waiting)) := by
  by_cases room : u.tx.frames.length + frames.length < 24
  · by_cases out : x.remaining = 0
    · refine ⟨_, _, runSlot_of_end c u frames x room out, ?_, .inl ⟨room, by simp, ?_⟩⟩ <;> unfold afterEnd <;> split
      all_goals simp
    · cases found : (seekPosition u (chanConfig u c) 32 x.pointer).found with
      | true =>
        refine ⟨_, _, runSlot_of_found c u frames x room out found, ?_, .inl ⟨room, by simp, ?_⟩⟩ <;> split
        all_goals simp [jobEnded, soughtRun]
      | false => exact ⟨_, _, runSlot_of_nothing c u frames x room out found, id, .inr (.inl ⟨rfl, rfl⟩)⟩
  · exact ⟨_, _, runSlot_of_full c u frames x (by omega), id, .inr (.inr ⟨by omega, rfl, rfl⟩)⟩

/-! ## A whole job -/

/-- A job carried on until it ends or waits. -/
def job (c : ChanNo) (s : State) : State := runJob jobRounds c s

section Job

variable {c : ChanNo}

theorem jobFuel_worked (u : State) (frames : List Frame) (x : ChanRun) :
    jobFuel c (worked c u frames x) = 24 - (u.tx.frames.length + frames.length) + x.pendingTrigger.toNat := by
  unfold jobFuel
  rw [chanRun_worked]
  simp [worked, Config.queueCap]

/-- A round that leaves its channel RUNNING takes of what the job has to go. -/
theorem jobFuel_round {s : State} (still : (chanRun (startPending c (runSlot c s)) c).state = .running) :
    jobFuel c (startPending c (runSlot c s)) < jobFuel c s := by
  obtain ⟨frames, y, slot, pending, kind⟩ := runSlot_outcome c s [] (chanRun s c)
  have before := jobFuel_worked (c := c) s [] (chanRun s c)
  rw [worked_nil] at slot before
  rw [slot, startPending_worked] at still ⊢
  rw [before, jobFuel_worked]
  rw [chanRun_worked] at still
  by_cases pend : y.state = .armed ∧ y.pendingTrigger = true
  · rw [if_pos pend, pending pend.2]
    obtain ⟨room, length, -⟩ | ⟨same, -⟩ | ⟨-, same, -⟩ := kind
    · simp only [List.length_nil, Bool.toNat_true, Bool.toNat_false] at room length ⊢
      omega
    · simp [same]
    · simp [same]
  · rw [if_neg pend] at still ⊢
    obtain ⟨room, length, -⟩ | ⟨-, idle⟩ | ⟨-, -, idle⟩ := kind
    · have less : y.pendingTrigger.toNat ≤ (chanRun s c).pendingTrigger.toNat := by
        cases h : y.pendingTrigger with
        | false => exact Nat.zero_le _
        | true => rw [pending h]
      simp only [List.length_nil] at room length ⊢
      omega
    · rw [idle] at still
      cases still
    · rw [idle] at still
      cases still

/-- Any number of rounds that is enough gives the same job. -/
theorem runJob_eq_runJob {n m : Nat} {s : State} (hn : jobFuel c s < n) (hm : jobFuel c s < m) :
    runJob n c s = runJob m c s := by
  induction n generalizing s m with
  | zero => exact absurd hn (Nat.not_lt_zero _)
  | succ n ih =>
    obtain ⟨m, rfl⟩ : ∃ l, m = l + 1 := ⟨m - 1, by omega⟩
    by_cases running : (chanRun s c).state = .running
    · rw [runJob_of_running running, runJob_of_running running]
      by_cases still : (chanRun (startPending c (runSlot c s)) c).state = .running
      · have less := jobFuel_round still
        exact ih (by omega) (by omega)
      · rw [runJob_of_not_running still, runJob_of_not_running still]
    · rw [runJob_of_not_running running, runJob_of_not_running running]

theorem job_of_not_running {s : State} (h : (chanRun s c).state ≠ .running) : job c s = s := runJob_of_not_running h _

theorem job_of_running {s : State} (h : (chanRun s c).state = .running) : job c s = job c (startPending c (runSlot c s)) := by
  have round : job c s = runJob 31 c (startPending c (runSlot c s)) := runJob_of_running h 31
  rw [round]
  by_cases still : (chanRun (startPending c (runSlot c s)) c).state = .running
  · have less := jobFuel_round still
    have all : jobFuel c s ≤ 25 := by
      have := (chanRun s c).pendingTrigger.toNat_lt
      unfold jobFuel Config.queueCap
      omega
    exact runJob_eq_runJob (by omega) (jobFuel_lt_jobRounds _ _)
  · rw [runJob_of_not_running still, job_of_not_running still]

/-- A job over the rounds of a channel: what holds of every state it leaves its channel in is shown round by round. -/
theorem job_induct {P : State → State → Prop} (done : ∀ s, (chanRun s c).state ≠ .running → P s s)
    (round : ∀ s t, (chanRun s c).state = .running → P (startPending c (runSlot c s)) t → P s t) (s : State) :
    P s (job c s) := by
  induction h : jobFuel c s using Nat.strong_induction_on generalizing s with
  | _ n ih =>
    by_cases running : (chanRun s c).state = .running
    · rw [job_of_running running]
      refine round s _ running ?_
      by_cases still : (chanRun (startPending c (runSlot c s)) c).state = .running
      · exact ih _ (h ▸ jobFuel_round still) _ rfl
      · rw [job_of_not_running still]
        exact done _ still
    · rw [job_of_not_running running]
      exact done s running

end Job

end Sys2Proof.Machine
end

section
/-! PROOF. The pointer of a channel, the position it seeks, and what a job has placed when it ends (R152 to R155).
Settles O40. -/

namespace Sys2Proof.Machine

open Sys2Proof

/-! ## The pointer (R154) -/

theorem stepPointer_val (st : PtrStep) (p : Pos) :
    (stepPointer st p).val = match st with
      | .hold => p.val
      | .up | .upReturn => (p.val + 1) % 32
      | .down => (p.val + 31) % 32 := by
  cases st <;> rfl

theorem repeat_hold (i : Nat) (p : Pos) : Nat.repeat (stepPointer .hold) i p = p := by
  induction i with
  | zero => rfl
  | succ i ih => exact ih

/-- The pointer after some steps, of a step that moves it up by m modulo 32. -/
theorem repeat_step_val {st : PtrStep} {m : Nat} (step : ∀ p : Pos, (stepPointer st p).val = (p.val + m) % 32) (i : Nat)
    (p : Pos) : (Nat.repeat (stepPointer st) i p).val = (p.val + i * m) % 32 := by
  induction i with
  | zero => rw [Nat.zero_mul]; exact (Nat.mod_eq_of_lt p.isLt).symm
  | succ i ih =>
    show (stepPointer st (Nat.repeat (stepPointer st) i p)).val = _
    rw [step, ih, Nat.succ_mul, ← Nat.add_assoc, Nat.mod_add_mod]

/-- A step that does not hold moves the pointer up by 1 or by 31. -/
theorem step_moves {st : PtrStep} (h : st ≠ .hold) :
    ∃ m, (m = 1 ∨ m = 31) ∧ ∀ p : Pos, (stepPointer st p).val = (p.val + m) % 32 := by
  cases st with
  | hold => exact absurd rfl h
  | up | upReturn => exact ⟨1, .inl rfl, fun p => stepPointer_val _ p⟩
  | down => exact ⟨31, .inr rfl, fun p => stepPointer_val _ p⟩

theorem repeat_step_full (st : PtrStep) (p : Pos) : Nat.repeat (stepPointer st) 32 p = p := by
  by_cases h : st = .hold
  · rw [h, repeat_hold]
  · obtain ⟨m, -, step⟩ := step_moves h
    apply Fin.ext
    rw [repeat_step_val step, Nat.add_mul_mod_self_left, Nat.mod_eq_of_lt p.isLt]

/-- The steps of a pointer reach every position. -/
theorem repeat_step_reaches {st : PtrStep} (h : st ≠ .hold) (p q : Pos) :
    ∃ i, i < 32 ∧ Nat.repeat (stepPointer st) i p = q := by
  obtain ⟨m, rfl | rfl, step⟩ := step_moves h
  · refine ⟨(q.val + 32 - p.val) % 32, Nat.mod_lt _ (by decide), Fin.ext ?_⟩
    rw [repeat_step_val step]
    have := p.isLt
    have := q.isLt
    omega
  · refine ⟨(p.val + 32 - q.val) % 32, Nat.mod_lt _ (by decide), Fin.ext ?_⟩
    rw [repeat_step_val step]
    have := p.isLt
    have := q.isLt
    omega

theorem repeat_succ' {α : Type} (f : α → α) (n : Nat) (a : α) : Nat.repeat f n (f a) = Nat.repeat f (n + 1) a := by
  induction n with
  | zero => rfl
  | succ n ih => exact congrArg f ih

/-! ## The position sought (R154 step 2) -/

/-- Whether a channel passes over a position: it skips VACANT ones, and this one is. -/
def passesOver (s : State) (k : ChanConfig) (p : Pos) : Prop := k.skipVacant = true ∧ (posRec s p).state = .vacant

section Seek

variable {s : State} {k : ChanConfig} {p : Pos}

theorem seekPosition_here (here : ¬passesOver s k p) (n : Nat) : seekPosition s k (n + 1) p = { pointer := p, found := true } :=
  if_neg (by simpa [passesOver] using here)

theorem seekPosition_hold (passed : passesOver s k p) (hold : k.step = .hold) (n : Nat) :
    seekPosition s k (n + 1) p = { pointer := p, found := false } := by
  rw [seekPosition, if_pos (by simpa [passesOver] using passed), if_pos hold]

theorem seekPosition_on (passed : passesOver s k p) (move : k.step ≠ .hold) (n : Nat) :
    seekPosition s k (n + 1) p = seekPosition s k n (stepPointer k.step p) := by
  rw [seekPosition, if_pos (by simpa [passesOver] using passed), if_neg move]

theorem seekPosition_skips (move : k.step ≠ .hold) (i n : Nat) (p : Pos)
    (passed : ∀ j, j < i → passesOver s k (Nat.repeat (stepPointer k.step) j p)) :
    seekPosition s k (i + n) p = seekPosition s k n (Nat.repeat (stepPointer k.step) i p) := by
  induction i generalizing p with
  | zero => rw [Nat.zero_add]; rfl
  | succ i ih =>
    have first : passesOver s k p := passed 0 (by omega)
    rw [show i + 1 + n = i + n + 1 by omega, seekPosition_on first move,
      ih _ fun j hj => by rw [repeat_succ']; exact passed (j + 1) (by omega), repeat_succ']

theorem seekPosition_none (move : k.step ≠ .hold)
    (passed : ∀ i, i < 32 → passesOver s k (Nat.repeat (stepPointer k.step) i p)) :
    seekPosition s k 32 p = { pointer := p, found := false } := by
  rw [seekPosition_skips move 32 0 p passed, repeat_step_full]
  rfl

theorem seekPosition_some (move : k.step ≠ .hold) {i : Nat} (lt : i < 32)
    (here : ¬passesOver s k (Nat.repeat (stepPointer k.step) i p))
    (passed : ∀ j, j < i → passesOver s k (Nat.repeat (stepPointer k.step) j p)) :
    seekPosition s k 32 p = { pointer := Nat.repeat (stepPointer k.step) i p, found := true } := by
  obtain ⟨n, e⟩ : ∃ n, 32 = i + (n + 1) := ⟨31 - i, by omega⟩
  rw [e, seekPosition_skips move i (n + 1) p passed, seekPosition_here here]

/-- A search that finds nothing leaves the pointer where it was. -/
theorem seekPosition_cases (s : State) (k : ChanConfig) (p : Pos) :
    (seekPosition s k 32 p = { pointer := p, found := false } ∧ passesOver s k p ∧
      (k.step ≠ .hold → ∀ q, passesOver s k q)) ∨
    (∃ q, seekPosition s k 32 p = { pointer := q, found := true } ∧ ¬passesOver s k q ∧ (k.step = .hold → q = p)) := by
  by_cases here : passesOver s k p
  · by_cases move : k.step = .hold
    · exact .inl ⟨seekPosition_hold here move 31, here, fun h => absurd move h⟩
    · by_cases all : ∀ q, passesOver s k q
      · exact .inl ⟨seekPosition_none move fun i _ => all _, here, fun _ => all⟩
      · obtain ⟨q, hq⟩ := not_forall.mp all
        have reached : ∃ i, i < 32 ∧ ¬passesOver s k (Nat.repeat (stepPointer k.step) i p) := by
          obtain ⟨i, lt, e⟩ := repeat_step_reaches move p q
          exact ⟨i, lt, e ▸ hq⟩
        classical
        obtain ⟨lt, first⟩ := Nat.find_spec reached
        refine .inr ⟨_, seekPosition_some move lt first fun j hj => ?_, first, fun h => absurd h move⟩
        have := Nat.find_min reached hj
        by_contra passed
        exact this ⟨by omega, passed⟩
  · exact .inr ⟨p, seekPosition_here here 31, here, fun _ => rfl⟩

theorem seekPosition_not_found (h : (seekPosition s k 32 p).found = false) : (seekPosition s k 32 p).pointer = p := by
  obtain ⟨e, -, -⟩ | ⟨q, e, -, -⟩ := seekPosition_cases s k p
  · rw [e]
  · rw [e] at h
    cases h

end Seek

/-! ## The runtime of a channel as it reports one position after the other (R154, R155) -/

/-- The runtime after a number of REPORT frames, their positions sought in a state. -/
def reportedRun (u : State) (k : ChanConfig) (i : Nat) (r : ChanRun) : ChanRun :=
  Nat.repeat (fun x => afterFrame k (soughtRun u k x)) i r

/-- The frames that a job has to place from a runtime on, as long as its channel reports. -/
def workOf (k : ChanConfig) (r : ChanRun) : Nat :=
  match k.mode with
  | .single => 1
  | .run => r.remaining
  | .block => r.blockRem

section Counts

variable (u : State) (k : ChanConfig) (x : ChanRun)

theorem afterFrame_of_more (h : 1 < x.blockRem) :
    afterFrame k x =
      { x with
        pointer := stepPointer k.step x.pointer, blockRem := x.blockRem - 1
        remaining := if k.mode = .block then x.remaining else x.remaining - 1 } := if_neg (Nat.not_le.mpr h)

theorem afterFrame_of_last (h : x.blockRem ≤ 1) :
    let back := if k.step = .upReturn then x.blockStart else stepPointer k.step x.pointer
    afterFrame k x =
      { x with pointer := back, blockStart := back, blockRem := blockSize k, remaining := x.remaining - 1 } := if_pos h

theorem afterFrame_jobStarted : afterFrame k (soughtRun u k (jobStarted x)) = jobStarted (afterFrame k (soughtRun u k x)) := by
  by_cases h : x.blockRem ≤ 1
  · exact (afterFrame_of_last k (soughtRun u k (jobStarted x)) h).trans (congrArg jobStarted (afterFrame_of_last k (soughtRun u k x) h).symm)
  · have h := Nat.lt_of_not_le h
    exact (afterFrame_of_more k (soughtRun u k (jobStarted x)) h).trans (congrArg jobStarted (afterFrame_of_more k (soughtRun u k x) h).symm)

theorem afterEnd_jobStarted : afterEnd k (jobStarted x) = afterEnd k x := by
  unfold afterEnd
  split <;> rfl

/-- Where a channel finds a position to report it finds one after it has reported it. -/
theorem found_afterFrame (found : (seekPosition u k 32 x.pointer).found = true) :
    (seekPosition u k 32 (afterFrame k (soughtRun u k x)).pointer).found = true := by
  obtain ⟨e, -, -⟩ | ⟨q, e, here, hold⟩ := seekPosition_cases u k x.pointer
  · rw [e] at found
    cases found
  · obtain ⟨-, passed, all⟩ | ⟨q', e', -, -⟩ := seekPosition_cases u k (afterFrame k (soughtRun u k x)).pointer
    · by_cases move : k.step = .hold
      · have stays : (afterFrame k (soughtRun u k x)).pointer = q := by
          have sought : (soughtRun u k x).pointer = q := congrArg Seek.pointer e
          by_cases h : x.blockRem ≤ 1
          · rw [afterFrame_of_last k (soughtRun u k x) h, move, if_neg nofun, sought]
            rfl
          · rw [afterFrame_of_more k (soughtRun u k x) (Nat.lt_of_not_le h), move, sought]
            rfl
        rw [stays] at passed
        exact absurd passed here
      · exact absurd (all move q) here
    · rw [e']

/-- A frame that is not the last of a job: one less to place, and the job goes on. -/
theorem afterFrame_of_work (left : 1 ≤ x.remaining) (more : 1 < workOf k x) :
    let next := afterFrame k (soughtRun u k x)
    workOf k next + 1 = workOf k x ∧ 1 ≤ next.remaining ∧ 1 ≤ next.blockRem ∧
      jobGoesOn k (soughtRun u k x) next = true := by
  intro next
  unfold workOf at more ⊢
  have size := blockSize_pos k
  cases mode : k.mode with
  | single => simp [mode] at more
  | run =>
    simp only [mode] at more ⊢
    have counts : next.remaining = x.remaining - 1 ∧ 1 ≤ next.blockRem := by
      by_cases h : x.blockRem ≤ 1
      · rw [show next = _ from afterFrame_of_last k (soughtRun u k x) h]
        exact ⟨rfl, size⟩
      · rw [show next = _ from afterFrame_of_more k (soughtRun u k x) (Nat.lt_of_not_le h), mode]
        exact ⟨rfl, by show 1 ≤ x.blockRem - 1; omega⟩
    exact ⟨by omega, by omega, counts.2, by simp [jobGoesOn, mode]⟩
  | block =>
    simp only [mode] at more ⊢
    have counts : next.remaining = x.remaining ∧ next.blockRem = x.blockRem - 1 := by
      rw [show next = _ from afterFrame_of_more k (soughtRun u k x) more, mode]
      exact ⟨rfl, rfl⟩
    refine ⟨by omega, by omega, by omega, ?_⟩
    simp [jobGoesOn, mode, soughtRun, more]

/-- The last frame of a job: it goes on only where it owes its END frame (R153). -/
theorem jobGoesOn_of_last (work : workOf k x = 1) :
    let next := afterFrame k (soughtRun u k x)
    jobGoesOn k (soughtRun u k x) next = decide (next.remaining = 0) := by
  intro next
  unfold workOf at work
  unfold jobGoesOn
  cases mode : k.mode with
  | single => cases next.remaining <;> rfl
  | run =>
    simp only [mode] at work
    have counts : next.remaining = x.remaining - 1 := by
      by_cases h : x.blockRem ≤ 1
      · rw [show next = _ from afterFrame_of_last k (soughtRun u k x) h]
        rfl
      · rw [show next = _ from afterFrame_of_more k (soughtRun u k x) (Nat.lt_of_not_le h), mode]
        rfl
    simp [counts, work]
  | block =>
    simp only [mode] at work
    have last : decide (1 < (soughtRun u k x).blockRem) = false := decide_eq_false (by show ¬1 < x.blockRem; omega)
    rw [last]
    cases next.remaining <;> rfl

end Counts

/-! ## A whole job of a channel that finds positions to report (R153 to R155) -/

/-- The runtime a job leaves, from the runtime its frames leave and the room and the work it had. -/
def jobResult (k : ChanConfig) (room work : Nat) (last : ChanRun) : ChanRun :=
  if room < work ∨ (room = work ∧ last.remaining = 0) then { last with state := .waiting, job := true }
  else if work < room ∧ last.remaining = 0 then afterEnd k last
  else jobEnded last

/-- The END frame of a job, if it places it. -/
def endFrames (c : ChanNo) (u : State) (room work : Nat) (last : ChanRun) : List Frame :=
  if work < room ∧ last.remaining = 0 then [channelFrame u (.endFrame c)] else []

/-- The REPORT frame a channel places from a runtime on. -/
def reportFrame (c : ChanNo) (u : State) (x : ChanRun) : Frame :=
  channelFrame u (.report (viewOf u (soughtRun u (chanConfig u c) x).pointer) c)

theorem jobResult_congr {k : ChanConfig} {room work room' work' : Nat} (last : ChanRun) (hr : room' + 1 = room)
    (hw : work' + 1 = work) : jobResult k room' work' last = jobResult k room work last := by
  subst hr hw
  unfold jobResult
  simp only [Nat.add_lt_add_iff_right, Nat.add_right_cancel_iff]

theorem endFrames_congr {c : ChanNo} {u : State} {room work room' work' : Nat} (last : ChanRun) (hr : room' + 1 = room)
    (hw : work' + 1 = work) : endFrames c u room' work' last = endFrames c u room work last := by
  subst hr hw
  unfold endFrames
  simp only [Nat.add_lt_add_iff_right]

/-- A job without room waits (R154 step 1). -/
theorem job_of_full (c : ChanNo) (u : State) {frames : List Frame} {x : ChanRun}
    (full : 24 ≤ u.tx.frames.length + frames.length) :
    job c (worked c u frames (jobStarted x)) = worked c u frames { x with state := .waiting, job := true } := by
  rw [job_of_running (by rw [chanRun_worked]; rfl), runSlot_of_full c u frames (jobStarted x) full,
    startPending_quiet c u frames (x := { jobStarted x with state := .waiting }) (.inl nofun)]
  exact job_of_not_running (by rw [chanRun_worked]; exact nofun)

/-- A job at its count end places its END frame, and with no trigger pending it is done (R155). -/
theorem job_of_end (c : ChanNo) (u : State) {frames : List Frame} {x : ChanRun}
    (room : u.tx.frames.length + frames.length < 24) (quiet : x.pendingTrigger = false) (out : x.remaining = 0) :
    job c (worked c u frames (jobStarted x)) =
      worked c u (frames ++ [channelFrame u (.endFrame c)]) (afterEnd (chanConfig u c) x) := by
  have idle : (afterEnd (chanConfig u c) x).pendingTrigger = false ∧ (afterEnd (chanConfig u c) x).state ≠ .running := by
    unfold afterEnd
    split
    · exact ⟨quiet, nofun⟩
    · exact ⟨rfl, nofun⟩
  rw [job_of_running (by rw [chanRun_worked]; rfl), runSlot_of_end c u frames (jobStarted x) room out, afterEnd_jobStarted,
    startPending_quiet c u _ (.inr idle.1)]
  exact job_of_not_running (by rw [chanRun_worked]; exact idle.2)

theorem job_reports (c : ChanNo) (u : State) (n : Nat) {frames : List Frame} {x : ChanRun} {room : Nat}
    (room_eq : u.tx.frames.length + frames.length + room = 24) (some_ : 1 ≤ room) (quiet : x.pendingTrigger = false)
    (left : 1 ≤ x.remaining) (block : 1 ≤ x.blockRem)
    (found : (seekPosition u (chanConfig u c) 32 x.pointer).found = true) (work : workOf (chanConfig u c) x = n) :
    let k := chanConfig u c
    let last := reportedRun u k (min room n) x
    job c (worked c u frames (jobStarted x)) =
      worked c u
        (frames ++ (List.range (min room n)).map (fun i => reportFrame c u (reportedRun u k i x)) ++ endFrames c u room n last)
        (jobResult k room n last) := by
  induction n generalizing x frames room with
  | zero =>
    unfold workOf at work
    split at work <;> omega
  | succ n ih =>
    intro k last
    have work : workOf k x = n + 1 := work
    have vacant : u.tx.frames.length + frames.length < 24 := by omega
    have running : ∀ (fs : List Frame) (y : ChanRun), (chanRun (worked c u fs (jobStarted y)) c).state = .running :=
      fun fs y => by rw [chanRun_worked]; rfl
    have first : job c (worked c u frames (jobStarted x)) = _ := job_of_running (running frames x)
    have slot := runSlot_of_found c u frames (jobStarted x) vacant (by show x.remaining ≠ 0; omega) found
    have goes : ∀ y : ChanRun, jobGoesOn k (soughtRun u k (jobStarted x)) (jobStarted y) = jobGoesOn k (soughtRun u k x) y :=
      fun _ => rfl
    dsimp only at slot
    rw [first, slot, afterFrame_jobStarted, goes]
    have frame : channelFrame u (.report (viewOf u (soughtRun u k (jobStarted x)).pointer) c) = reportFrame c u x := rfl
    rw [frame]
    have pending : (afterFrame k (soughtRun u k x)).pendingTrigger = false := (afterFrame_pendingTrigger _ _).trans quiet
    have further : reportedRun u k (min room (n + 1)) x =
        reportedRun u k (min (room - 1) n) (afterFrame k (soughtRun u k x)) := by
      rw [show min room (n + 1) = min (room - 1) n + 1 by omega]
      exact (repeat_succ' _ _ _).symm
    have reports : (List.range (min room (n + 1))).map (fun i => reportFrame c u (reportedRun u k i x)) =
        reportFrame c u x :: (List.range (min (room - 1) n)).map
          (fun i => reportFrame c u (reportedRun u k i (afterFrame k (soughtRun u k x)))) := by
      rw [show min room (n + 1) = min (room - 1) n + 1 by omega, List.range_succ_eq_map, List.map_cons, List.map_map]
      refine congrArg (reportFrame c u x :: ·) (List.map_congr_left fun i _ => ?_)
      exact congrArg (reportFrame c u) (repeat_succ' (fun x => afterFrame k (soughtRun u k x)) i x).symm
    have step := afterFrame_of_work u k x left
    have final := jobGoesOn_of_last u k x
    have seeks := found_afterFrame u k x found
    dsimp only at step final
    have last_eq : last = reportedRun u k (min (room - 1) n) (afterFrame k (soughtRun u k x)) := further
    rw [reports, last_eq]
    generalize afterFrame k (soughtRun u k x) = next at *
    by_cases more : n = 0
    · subst more
      have none : min (room - 1) 0 = 0 := Nat.min_zero _
      rw [final work, none]
      show job c (startPending c (worked c u (frames ++ [reportFrame c u x]) _)) =
        worked c u (frames ++ [reportFrame c u x] ++ endFrames c u room 1 next) (jobResult k room 1 next)
      by_cases out : next.remaining = 0
      · rw [decide_eq_true out, if_pos rfl, startPending_quiet c u _ (x := jobStarted next) (.inl nofun)]
        by_cases full : room = 1
        · subst full
          rw [job_of_full c u (by simp; omega), endFrames, if_neg (fun h => Nat.lt_irrefl _ h.1), List.append_nil, jobResult,
            if_pos (.inr ⟨rfl, out⟩)]
        · have roomy : 1 < room := by omega
          rw [job_of_end c u (by simp; omega) pending out, endFrames, if_pos ⟨roomy, out⟩, jobResult, if_neg (by omega),
            if_pos ⟨roomy, out⟩]
      · have short : jobResult k room 1 next = jobEnded next := by
          unfold jobResult
          rw [if_neg (by omega), if_neg fun h => out h.2]
        rw [decide_eq_false out, if_neg nofun, startPending_quiet c u _ (x := jobEnded (jobStarted next)) (.inr pending),
          endFrames, if_neg fun h => out h.2, List.append_nil, short]
        exact job_of_not_running (by rw [chanRun_worked]; exact nofun)
    · obtain ⟨count, left', block', on⟩ := step (by omega)
      rw [on, if_pos rfl, startPending_quiet c u _ (x := jobStarted next) (.inl nofun)]
      by_cases full : room = 1
      · subst full
        rw [job_of_full c u (by simp; omega), show min (1 - 1) n = 0 from Nat.zero_min _, jobResult, if_pos (.inl (by omega)),
          endFrames, if_neg fun h => by omega]
        exact congrArg (worked c u · _) (List.append_nil _).symm
      · have rest := ih (x := next) (frames := frames ++ [reportFrame c u x]) (room := room - 1)
          (by rw [List.length_append]; simp; omega) (by omega) pending left' block' seeks (show workOf k next = n by omega)
        dsimp only at rest
        rw [rest, jobResult_congr _ (by omega : room - 1 + 1 = room) rfl, endFrames_congr _ (by omega : room - 1 + 1 = room) rfl,
          List.append_assoc frames [reportFrame c u x]]
        rfl

/-! ## A trigger that pends (R153) -/

/-- A runtime with a trigger pending. -/
def pended (x : ChanRun) : ChanRun := { x with pendingTrigger := true }

theorem afterFrame_pended (u : State) (k : ChanConfig) (x : ChanRun) :
    afterFrame k (soughtRun u k (pended x)) = pended (afterFrame k (soughtRun u k x)) := by
  by_cases h : x.blockRem ≤ 1
  · exact (afterFrame_of_last k (soughtRun u k (pended x)) h).trans
      (congrArg pended (afterFrame_of_last k (soughtRun u k x) h).symm)
  · have h := Nat.lt_of_not_le h
    exact (afterFrame_of_more k (soughtRun u k (pended x)) h).trans
      (congrArg pended (afterFrame_of_more k (soughtRun u k x) h).symm)

/-- After an END frame a trigger still pends where the channel is loaded again, and not where it is ENDED. -/
theorem afterEnd_pended (k : ChanConfig) {x : ChanRun} (quiet : x.pendingTrigger = false) :
    (afterEnd k (pended x) = pended (afterEnd k x) ∧ (afterEnd k x).state = .armed ∧ (afterEnd k x).pendingTrigger = false) ∨
      (afterEnd k (pended x) = afterEnd k x ∧ (afterEnd k x).state = .ended ∧ (afterEnd k x).pendingTrigger = false) := by
  unfold afterEnd
  split
  · exact .inl ⟨rfl, rfl, quiet⟩
  · exact .inr ⟨rfl, rfl, rfl⟩

/-- What becomes of a job with a trigger pending, from what it leaves without one. -/
def pendedJob (c : ChanNo) (v : State) : State :=
  if (chanRun v c).state = .armed then job c (modChan c jobStarted v)
  else if (chanRun v c).state = .waiting then modChan c pended v
  else v

section Pended

variable {c : ChanNo} {u : State} {frames : List Frame} {x : ChanRun}

theorem pendedJob_of_armed (armed : x.state = .armed) :
    pendedJob c (worked c u frames x) = job c (worked c u frames (jobStarted x)) := by
  unfold pendedJob
  rw [chanRun_worked, if_pos armed, modChan_worked]

/-- A channel made ARMED with a trigger pending starts its next job at once. -/
theorem job_of_armed_pended (armed : x.state = .armed) (quiet : x.pendingTrigger = false) :
    job c (startPending c (worked c u frames (pended x))) =
      pendedJob c (job c (startPending c (worked c u frames x))) := by
  have next : { jobStarted (pended x) with pendingTrigger := false } = jobStarted x := by
    unfold jobStarted pended
    rw [← quiet]
  rw [startPending_worked, if_pos ⟨armed, rfl⟩, next, startPending_quiet c u frames (.inr quiet),
    job_of_not_running (s := worked c u frames x) (by rw [chanRun_worked, armed]; exact nofun), pendedJob_of_armed armed]

theorem job_of_pended (n : Nat) (fuel : 24 - (u.tx.frames.length + frames.length) = n) (running : x.state = .running)
    (quiet : x.pendingTrigger = false) :
    job c (worked c u frames (pended x)) = pendedJob c (job c (worked c u frames x)) := by
  induction n using Nat.strong_induction_on generalizing frames x with
  | _ n ih =>
    have round : ∀ y : ChanRun, y.state = .running → job c (worked c u frames y) =
        job c (startPending c (runSlot c (worked c u frames y))) :=
      fun y h => job_of_running (by rw [chanRun_worked]; exact h)
    rw [round x running, round (pended x) running]
    by_cases room : u.tx.frames.length + frames.length < 24
    · by_cases out : x.remaining = 0
      · rw [runSlot_of_end c u frames x room out, runSlot_of_end c u frames (pended x) room out]
        obtain ⟨cyclic, state, pending⟩ | ⟨same, state, pending⟩ := afterEnd_pended (chanConfig u c) quiet
        · rw [cyclic]
          exact job_of_armed_pended state pending
        · rw [same]
          generalize afterEnd (chanConfig u c) x = y at *
          rw [startPending_quiet c u _ (.inr pending), job_of_not_running (by rw [chanRun_worked, state]; exact nofun)]
          unfold pendedJob
          rw [chanRun_worked, state, if_neg nofun, if_neg nofun]
      · cases found : (seekPosition u (chanConfig u c) 32 x.pointer).found with
        | true =>
          have slot := runSlot_of_found c u frames x room out found
          have slot' := runSlot_of_found c u frames (pended x) room out found
          dsimp only at slot slot'
          rw [slot, slot', afterFrame_pended]
          have state := afterFrame_state (chanConfig u c) (soughtRun u (chanConfig u c) x)
          have pending := afterFrame_pendingTrigger (chanConfig u c) (soughtRun u (chanConfig u c) x)
          have goes : ∀ y : ChanRun, jobGoesOn (chanConfig u c) (soughtRun u (chanConfig u c) (pended x)) (pended y) =
            jobGoesOn (chanConfig u c) (soughtRun u (chanConfig u c) x) y := fun _ => rfl
          rw [goes]
          rw [show (soughtRun u (chanConfig u c) x).state = .running from running] at state
          rw [show (soughtRun u (chanConfig u c) x).pendingTrigger = false from quiet] at pending
          have same : (soughtRun u (chanConfig u c) (pended x)).pointer = (soughtRun u (chanConfig u c) x).pointer := rfl
          rw [same]
          generalize afterFrame (chanConfig u c) (soughtRun u (chanConfig u c) x) = y at *
          by_cases on : jobGoesOn (chanConfig u c) (soughtRun u (chanConfig u c) x) y = true
          · rw [if_pos on, if_pos on, startPending_quiet c u _ (x := pended y) (.inl (by show y.state ≠ _; rw [state]; exact nofun)),
              startPending_quiet c u _ (.inr pending)]
            exact ih (n - 1) (by omega) (by rw [List.length_append, List.length_singleton]; omega) state pending
          · rw [if_neg on, if_neg on]
            exact job_of_armed_pended (x := jobEnded y) rfl pending
        | false =>
          rw [runSlot_of_nothing c u frames x room out found, runSlot_of_nothing c u frames (pended x) room out found]
          exact job_of_armed_pended (x := jobEnded (soughtRun u (chanConfig u c) x)) rfl quiet
    · rw [runSlot_of_full c u frames x (by omega), runSlot_of_full c u frames (pended x) (by omega)]
      rw [startPending_quiet c u _ (x := { x with state := .waiting }) (.inl nofun),
        startPending_quiet c u _ (x := { pended x with state := .waiting }) (.inl nofun),
        job_of_not_running (s := worked c u frames { x with state := .waiting }) (by rw [chanRun_worked]; exact nofun),
        job_of_not_running (by rw [chanRun_worked]; exact nofun)]
      unfold pendedJob
      rw [chanRun_worked, if_neg nofun, if_pos rfl, modChan_worked]
      rfl

end Pended

/-! ## Triggers (R152) -/

section Trigger

variable {c : ChanNo} {s : State}

theorem trigger_of_rest (h : (chanRun s c).state = .idle ∨ (chanRun s c).state = .ended) : trigger c s = s := by
  unfold trigger
  dsimp only
  obtain h | h := h <;> rw [h]

theorem trigger_of_armed (h : (chanRun s c).state = .armed) : trigger c s = job c (modChan c jobStarted s) := by
  unfold trigger
  dsimp only
  rw [h]
  rfl

theorem trigger_of_busy (h : (chanRun s c).state = .running ∨ (chanRun s c).state = .waiting) :
    trigger c s =
      if (chanRun s c).pendingTrigger then modChan c (fun r => { r with overrun := satSucc 255 r.overrun }) s
      else modChan c pended s := by
  unfold trigger
  dsimp only
  obtain h | h := h <;> rw [h] <;> rfl

theorem trigger_of_armed_pended {x : ChanRun} (armed : x.state = .armed) (quiet : x.pendingTrigger = false) :
    trigger c (worked c s [] (pended x)) = pendedJob c (trigger c (worked c s [] x)) := by
  rw [trigger_of_armed (by rw [chanRun_worked]; exact armed), trigger_of_armed (by rw [chanRun_worked]; exact armed),
    modChan_worked, modChan_worked]
  exact job_of_pended (x := jobStarted x) _ rfl rfl quiet

theorem trigger_of_full (armed : (chanRun s c).state = .armed) (full : 24 ≤ s.tx.frames.length) :
    trigger c s = modChan c (fun _ => { chanRun s c with state := .waiting, job := true }) s := by
  rw [trigger_of_armed armed, modChan_eq_worked, job_of_full c s (frames := []) full, modChan_eq_worked]

/-- A job that finds nothing to report ends without a frame (R154 step 2). -/
theorem trigger_of_nothing (armed : (chanRun s c).state = .armed) (quiet : (chanRun s c).pendingTrigger = false)
    (room : s.tx.frames.length < 24) (left : 1 ≤ (chanRun s c).remaining)
    (found : (seekPosition s (chanConfig s c) 32 (chanRun s c).pointer).found = false) :
    trigger c s = modChan c (fun _ => { chanRun s c with state := .armed, job := false }) s := by
  have pointer := seekPosition_not_found found
  have sought : jobEnded (soughtRun s (chanConfig s c) (jobStarted (chanRun s c))) =
      { chanRun s c with state := .armed, job := false } := by
    unfold soughtRun
    rw [show (jobStarted (chanRun s c)).pointer = (chanRun s c).pointer from rfl, pointer]
    rfl
  rw [trigger_of_armed armed, modChan_eq_worked, modChan_eq_worked, job_of_running (by rw [chanRun_worked]; rfl),
    runSlot_of_nothing c s [] (jobStarted (chanRun s c)) room (by show (chanRun s c).remaining ≠ 0; omega) found, sought,
    startPending_quiet c s [] (x := { chanRun s c with state := .armed, job := false }) (.inr quiet)]
  exact job_of_not_running (by rw [chanRun_worked]; exact nofun)

theorem trigger_of_found (armed : (chanRun s c).state = .armed) (quiet : (chanRun s c).pendingTrigger = false)
    (room : s.tx.frames.length < 24) (left : 1 ≤ (chanRun s c).remaining) (block : 1 ≤ (chanRun s c).blockRem)
    (found : (seekPosition s (chanConfig s c) 32 (chanRun s c).pointer).found = true) :
    let k := chanConfig s c
    let r := chanRun s c
    let free := 24 - s.tx.frames.length
    let last := reportedRun s k (min free (workOf k r)) r
    trigger c s = worked c s
      ((List.range (min free (workOf k r))).map (fun i => reportFrame c s (reportedRun s k i r)) ++
        endFrames c s free (workOf k r) last)
      (jobResult k free (workOf k r) last) := by
  intro k r free last
  rw [trigger_of_armed armed, modChan_eq_worked]
  have done := job_reports c s (workOf k r) (frames := []) (x := r) (room := free) (by show _ + 0 + (24 - _) = 24; omega)
    (by show 1 ≤ 24 - _; omega) quiet left block found rfl
  rw [done, List.nil_append]

end Trigger

/-! ## The channels told of an event (R61 step 6, R152) -/

theorem foldl_const {α β : Type} (f : β → β) (l : List α) (b : β) : l.foldl (fun s _ => f s) b = Nat.repeat f l.length b := by
  induction l generalizing b with
  | nil => rfl
  | cons a rest ih => rw [List.foldl_cons, ih, repeat_succ', List.length_cons]

theorem watches_iff (k : ChanConfig) (p : Pos) :
    watches k p = true ↔ ∃ i, i < (if k.blockLen = 0 then 32 else k.blockLen) ∧ p.val = (k.start.val + i) % 32 := by
  have hp := p.isLt
  have hs := k.start.isLt
  unfold watches
  rw [decide_eq_true_eq]
  constructor
  · exact fun h => ⟨_, h, by omega⟩
  · rintro ⟨i, lt, e⟩
    refine Nat.lt_of_le_of_lt ?_ (show i < blockSize k from lt)
    omega

theorem tellChannel_eq (alerts : List Pos) (sample : Option Pos) (c : ChanNo) (u : State) :
    tellChannel alerts sample u c =
      match (chanConfig u c).trigger with
      | .alert => Nat.repeat (trigger c) (alerts.filter (watches (chanConfig u c))).length u
      | .sample =>
        match sample with
        | some p => if watches (chanConfig u c) p = true then trigger c u else u
        | none => u
      | .period | .request => u := by
  unfold tellChannel
  dsimp only
  cases (chanConfig u c).trigger with
  | alert => exact foldl_const (trigger c) _ u
  | _ => rfl

theorem tellChannel_config (alerts : List Pos) (sample : Option Pos) (c d : ChanNo) (u : State) :
    chanConfig (tellChannel alerts sample u c) d = chanConfig u d :=
  chanConfig_congr (congrArg Content.channels (tellChannel_reach alerts sample u c).content) d

/-- Settles O40. -/
theorem triggerStartsWork : Obligations.TriggerStartsWork := by
  refine ⟨fun k r => ⟨stepPointer_val k.step, fun more => afterFrame_of_more k r more, fun last => afterFrame_of_last k r last⟩,
    fun k p s => ⟨fun here => seekPosition_here here 31, fun passed hold => seekPosition_hold passed hold 31,
      fun move passed => seekPosition_none move passed, fun i move lt here passed => seekPosition_some move lt here passed⟩,
    fun channel c s idle named => ?_, watches_iff, fun alerts sample s => ?_, fun c u => ?_⟩
  · exact congrArg Host.Outcome.next (by rw [ofLength_self, named, serve_of_served (served_lockNone idle)])
  · intro told
    have told_eq : ∀ (c : ChanNo) (u : State), chanConfig u c = chanConfig s c → tellChannel alerts sample u c = told c u :=
      fun c u config => by
        have telling := tellChannel_eq alerts sample c u
        rw [config] at telling
        exact telling
    have kept : ∀ (c d : ChanNo) (u : State), chanConfig u d = chanConfig s d → chanConfig u c = chanConfig s c →
        chanConfig (told c u) d = chanConfig s d := fun c d u hd hc => by
      rw [← told_eq c u hc, tellChannel_config, hd]
    show tellChannel alerts sample (tellChannel alerts sample (tellChannel alerts sample (tellChannel alerts sample s 0) 1) 2) 3 = _
    have first := fun d => kept 0 d s rfl rfl
    have second := fun d => kept 1 d _ (first d) (first 1)
    have third := fun d => kept 2 d _ (second d) (second 2)
    rw [told_eq 0 s rfl, told_eq 1 _ (first 1), told_eq 2 _ (second 2), told_eq 3 _ (third 3)]
  · intro k r setRun seek
    refine ⟨trigger_of_rest, fun busy quiet => ?_, fun busy pending => ?_, fun armed full => trigger_of_full armed full,
      fun armed pending => ?_, fun armed quiet room left found => trigger_of_nothing armed quiet room left found,
      fun armed quiet room left block found => ?_⟩
    · rw [trigger_of_busy busy, if_neg (by rw [show (chanRun u c).pendingTrigger = false from quiet]; exact nofun)]
      rfl
    · rw [trigger_of_busy busy, if_pos pending]
      rfl
    · have run : chanRun u c = pended { r with pendingTrigger := false } := by
        unfold pended
        rw [← pending]
      have here : u = worked c u [] (pended { r with pendingTrigger := false }) := by rw [← run, worked_nil]
      have set : setRun { r with pendingTrigger := false } = worked c u [] { r with pendingTrigger := false } :=
        modChan_eq_worked c u _
      intro v
      have taken : trigger c u = pendedJob c v := by
        conv_lhs => rw [here]
        rw [trigger_of_armed_pended (x := { r with pendingTrigger := false }) armed rfl, ← set]
      rw [taken]
      unfold pendedJob
      by_cases again : (chanRun v c).state = .armed
      · rw [if_pos again, if_pos again, trigger_of_armed again]
      · rw [if_neg again, if_neg again]
        rfl
    · intro room' work after last report end_ ends
      have work_eq : workOf k r = work := rfl
      have done := trigger_of_found armed quiet room left block found
      dsimp only at done
      rw [show workOf (chanConfig u c) (chanRun u c) = work from work_eq] at done
      rw [done]
      unfold worked
      rw [← List.append_assoc]
      rfl

end Sys2Proof.Machine
end

section
/-! PROOF. The period timer, and the grant of a freed slot to the lowest WAITING channel (R152, R156). Settles O41. -/

namespace Sys2Proof.Machine

open Sys2Proof

/-! ## The period timer (R152) -/

theorem expirePeriod_of_due {c : ChanNo} {s : State} {due : Nat} (timer : (chanRun s c).due = some due) (now : due ≤ s.time)
    (period : (chanConfig s c).trigger = .period) :
    expirePeriod c s = trigger c
      (modChan c (fun _ => { chanRun s c with due := some (due + (chanConfig s c).period * 1000) }) s) := by
  unfold expirePeriod
  rw [timer]
  dsimp only
  rw [if_pos now, if_pos period]
  rfl

/-! ## The channels of a grant in order (R156) -/

/-- What is left of a grant after channel c: the channels of a higher number. -/
def grantRest (c : ChanNo) (s : State) : State := ((List.finRange 4).filter (fun d => c < d)).foldl grantTo s

section Grant

variable {c : ChanNo} {s : State}

theorem grantTo_of_not_waiting (h : (chanRun s c).state ≠ .waiting) : grantTo s c = s := if_neg (by simp [h])

theorem grantTo_of_full (h : 24 ≤ s.tx.frames.length) : grantTo s c = s := by
  refine if_neg fun k => ?_
  rw [Bool.and_eq_true] at k
  exact absurd ((hasRoom_iff s).mp k.1) (Nat.not_lt.mpr h)

theorem grantTo_of_waiting (room : s.tx.frames.length < 24) (h : (chanRun s c).state = .waiting) :
    grantTo s c = job c (worked c s [] { chanRun s c with state := .running }) := by
  unfold grantTo
  rw [if_pos (by rw [(hasRoom_iff s).mpr room, h]; rfl), modChan_eq_worked]
  rfl

theorem grantRest_of_full (h : 24 ≤ s.tx.frames.length) : grantRest c s = s := foldl_fixed fun _ _ => grantTo_of_full h

/-- Channels below one that are not WAITING are passed over. -/
theorem grantSlot_of_lowest (h : ∀ d : ChanNo, d.val < c.val → (chanRun s d).state ≠ .waiting) :
    grantSlot s = grantRest c (grantTo s c) := by
  have order : ∀ c : ChanNo, List.finRange 4 =
      (List.finRange 4).filter (fun d => d < c) ++ c :: (List.finRange 4).filter (fun d => c < d) := by decide
  have lower : ((List.finRange 4).filter (fun d => d < c)).foldl grantTo s = s :=
    foldl_fixed fun d hd => grantTo_of_not_waiting (h d (by simpa using (List.mem_filter.mp hd).2))
  unfold grantSlot grantRest
  conv_lhs => rw [order c, List.foldl_append, List.foldl_cons, lower]

theorem exec_channelGrant (s : State) : exec .channelGrant s = .next (grantSlot s) := rfl

/-! ## One slot granted (R154 to R156) -/

/-- A job that has ended, or the one that a pending trigger starts at once, which waits (R153). -/
def endedRun (x : ChanRun) : ChanRun :=
  if x.pendingTrigger = true then { x with state := .waiting, job := true, pendingTrigger := false }
  else { x with state := .armed, job := false }

/-- A channel made ARMED without a slot left. -/
theorem job_of_armed_full {frames : List Frame} {x : ChanRun} (full : 24 ≤ s.tx.frames.length + frames.length)
    (armed : x.state = .armed) (idle : x.job = false) :
    job c (startPending c (worked c s frames x)) = worked c s frames (endedRun x) := by
  unfold endedRun
  cases pending : x.pendingTrigger with
  | true =>
    rw [startPending_worked, if_pos ⟨armed, pending⟩, if_pos rfl]
    exact job_of_full c s (x := { x with pendingTrigger := false }) full
  | false =>
    have same : { x with state := .armed, job := false, pendingTrigger := false } = x := by
      obtain ⟨st, _, _, _, _, atWork, pends, _, _⟩ := x
      subst armed idle pending
      rfl
    rw [startPending_quiet c s frames (.inr pending), if_neg nofun,
      job_of_not_running (by rw [chanRun_worked, armed]; exact nofun), same]

theorem afterFrame_running (u : State) (k : ChanConfig) (x : ChanRun) :
    afterFrame k (soughtRun u k { x with state := .running }) = { afterFrame k (soughtRun u k x) with state := .running } := by
  by_cases h : x.blockRem ≤ 1
  · rw [afterFrame_of_last k (soughtRun u k { x with state := .running }) h, afterFrame_of_last k (soughtRun u k x) h]
    rfl
  · have h := Nat.lt_of_not_le h
    rw [afterFrame_of_more k (soughtRun u k { x with state := .running }) h, afterFrame_of_more k (soughtRun u k x) h]
    rfl

/-- One free slot granted to a channel that finds a position to report. -/
theorem grantTo_of_found (one : s.tx.frames.length = 23) (waiting : (chanRun s c).state = .waiting)
    (left : (chanRun s c).remaining ≠ 0)
    (found : (seekPosition s (chanConfig s c) 32 (chanRun s c).pointer).found = true) :
    let k := chanConfig s c
    let r := chanRun s c
    let next := afterFrame k (soughtRun s k r)
    grantTo s c = worked c s [reportFrame c s r]
      (if jobGoesOn k (soughtRun s k r) next then { next with state := .waiting } else endedRun next) := by
  intro k r next
  have slot := runSlot_of_found c s [] { r with state := .running } (by show _ + 0 < _; omega) left found
  dsimp only at slot
  have goes : jobGoesOn k (soughtRun s k { r with state := .running })
      (afterFrame k (soughtRun s k { r with state := .running })) = jobGoesOn k (soughtRun s k r) next := by
    rw [afterFrame_running]
    rfl
  rw [grantTo_of_waiting (by omega) waiting, job_of_running (by rw [chanRun_worked]), slot, goes, afterFrame_running]
  show job c (startPending c (worked c s [reportFrame c s r] _)) = _
  have full : 24 ≤ s.tx.frames.length + [reportFrame c s r].length := by rw [one]; exact Nat.le_refl _
  by_cases on : jobGoesOn k (soughtRun s k r) next = true
  · rw [if_pos on, if_pos on, startPending_quiet c s _ (x := { next with state := .running }) (.inl nofun),
      job_of_running (by rw [chanRun_worked]), runSlot_of_full c s _ { next with state := .running } full,
      startPending_quiet c s _ (x := { next with state := .waiting }) (.inl nofun)]
    exact job_of_not_running (by rw [chanRun_worked]; exact nofun)
  · rw [if_neg on, if_neg on]
    exact job_of_armed_full (x := jobEnded next) full rfl rfl

/-- One free slot granted to a channel that owes its END frame. -/
theorem grantTo_of_end (one : s.tx.frames.length = 23) (waiting : (chanRun s c).state = .waiting)
    (out : (chanRun s c).remaining = 0) :
    let k := chanConfig s c
    let r := chanRun s c
    grantTo s c = worked c s [channelFrame s (.endFrame c)]
      (if k.cyclic then
        endedRun { r with pointer := k.start, blockStart := k.start, remaining := fullCount k, blockRem := blockSize k }
      else { r with state := .ended, job := false, pendingTrigger := false, due := none }) := by
  intro k r
  rw [grantTo_of_waiting (by omega) waiting, job_of_running (by rw [chanRun_worked]),
    runSlot_of_end c s [] { r with state := .running } (by show _ + 0 < _; omega) out]
  show job c (startPending c (worked c s [channelFrame s (.endFrame c)] (afterEnd k _))) = _
  have full : 24 ≤ s.tx.frames.length + [channelFrame s (.endFrame c)].length := by rw [one]; exact Nat.le_refl _
  unfold afterEnd
  by_cases cyclic : k.cyclic = true
  · rw [if_pos cyclic, if_pos cyclic]
    exact job_of_armed_full
      (x := { r with
        state := .armed, job := false, pointer := k.start, blockStart := k.start, remaining := fullCount k
        blockRem := blockSize k }) full rfl rfl
  · rw [if_neg cyclic, if_neg cyclic, startPending_quiet c s _ (.inr rfl)]
    exact job_of_not_running (by rw [chanRun_worked]; exact nofun)

/-- A slot granted to a channel that finds nothing to report: its job ends, and with it a trigger that pends. -/
theorem grantTo_of_nothing (room : s.tx.frames.length < 24) (waiting : (chanRun s c).state = .waiting)
    (left : (chanRun s c).remaining ≠ 0)
    (found : (seekPosition s (chanConfig s c) 32 (chanRun s c).pointer).found = false) :
    grantTo s c = modChan c (fun _ => { chanRun s c with state := .armed, job := false, pendingTrigger := false }) s := by
  have pointer := seekPosition_not_found found
  have sought : ∀ pending : Bool, ∀ idle : Bool,
      jobEnded (soughtRun s (chanConfig s c)
        { chanRun s c with state := .running, job := idle, pendingTrigger := pending }) =
      { chanRun s c with state := .armed, job := false, pendingTrigger := pending } := fun pending idle => by
    unfold soughtRun
    dsimp only
    rw [pointer]
    rfl
  have slot : ∀ pending idle : Bool,
      runSlot c (worked c s [] { chanRun s c with state := .running, job := idle, pendingTrigger := pending }) =
        worked c s [] { chanRun s c with state := .armed, job := false, pendingTrigger := pending } := fun pending idle => by
    rw [runSlot_of_nothing c s [] { chanRun s c with state := .running, job := idle, pendingTrigger := pending } room left found,
      sought]
  have done : job c (worked c s [] { chanRun s c with state := .armed, job := false, pendingTrigger := false }) =
      worked c s [] { chanRun s c with state := .armed, job := false, pendingTrigger := false } :=
    job_of_not_running (by rw [chanRun_worked]; exact nofun)
  have first := slot (chanRun s c).pendingTrigger (chanRun s c).job
  rw [grantTo_of_waiting room waiting, job_of_running (by rw [chanRun_worked]), modChan_eq_worked]
  refine (congrArg (fun u => job c (startPending c u)) first).trans ?_
  dsimp only
  cases pending : (chanRun s c).pendingTrigger with
  | false => rw [startPending_quiet c s [] (.inr rfl), done]
  | true =>
    rw [startPending_worked, if_pos ⟨rfl, rfl⟩]
    refine (job_of_running (by rw [chanRun_worked]; rfl)).trans ((congrArg (fun u => job c (startPending c u)) (slot false true)).trans ?_)
    dsimp only
    rw [startPending_quiet c s [] (.inr rfl), done]

/-- A job leaves its channel WAITING only with the queue full. -/
theorem job_waits_for_room (s : State) (h : (chanRun s c).state ≠ .waiting) (waits : (chanRun (job c s) c).state = .waiting) :
    24 ≤ (job c s).tx.frames.length := by
  refine job_induct (c := c) (P := fun s t => ((chanRun s c).state = .waiting → 24 ≤ s.tx.frames.length) →
    (chanRun t c).state = .waiting → 24 ≤ t.tx.frames.length) (fun s _ h => h) (fun s t running rest _ => rest ?_) s
    (fun k => absurd k h) waits
  obtain ⟨frames, y, slot, -, kind⟩ := runSlot_outcome c s [] (chanRun s c)
  rw [worked_nil] at slot
  rw [slot, startPending_worked, chanRun_worked]
  intro waits
  have still : y.state = .waiting := by
    split at waits
    · cases waits
    · exact waits
  obtain ⟨-, -, before⟩ | ⟨-, armed⟩ | ⟨full, rfl, -⟩ := kind
  · rw [running] at before
    exact absurd (before still) nofun
  · rw [still] at armed
    cases armed
  · simpa [worked] using full

end Grant

/-- Settles O41. -/
theorem periodAndGrant : Obligations.PeriodAndGrant := by
  intro c s k r setRun found placed ended lowest
  have placed_eq : ∀ body x, placed body x = worked c s [channelFrame s body] x := fun _ _ => rfl
  have full_after : ∀ (f : Frame) (x : ChanRun), s.tx.frames.length = 23 → 24 ≤ (worked c s [f] x).tx.frames.length :=
    fun f x one => by
      show 24 ≤ (s.tx.frames ++ [f]).length
      rw [List.length_append, one]
      exact Nat.le_refl _
  have granted : ∀ (f : Frame) (x : ChanRun), s.tx.frames.length = 23 → lowest → grantTo s c = worked c s [f] x →
      exec .channelGrant s = .next (worked c s [f] x) := fun f x one low e => by
    rw [exec_channelGrant, grantSlot_of_lowest low.2, e, grantRest_of_full (full_after f x one)]
  have goesOn_iff : ∀ next : ChanRun, jobGoesOn k (soughtRun s k r) next = true ↔
      next.remaining = 0 ∨ k.mode = .run ∨ (k.mode = .block ∧ 1 < r.blockRem) := fun next => by
    unfold jobGoesOn soughtRun
    simp [or_assoc]
  have reported : s.tx.frames.length = 23 → lowest → r.remaining ≠ 0 → found.found = true →
      let next := afterFrame k { r with pointer := found.pointer }
      let goesOn := next.remaining = 0 ∨ k.mode = .run ∨ (k.mode = .block ∧ 1 < r.blockRem)
      exec .channelGrant s = .next (placed (.report (viewOf s found.pointer) c)
        (if goesOn then { next with state := .waiting } else ended next)) := fun one low left seen => by
    intro next goesOn
    have run := grantTo_of_found one low.1 left seen
    dsimp only at run
    rw [granted _ _ one low run, placed_eq]
    exact congrArg (fun x => Host.Outcome.next (worked c s [reportFrame c s r] x)) (if_congr (goesOn_iff next) rfl rfl)
  refine ⟨fun due timer now waiting period => ?_, fun due timer now period => ?_,
    fun one waiting low left skip => ?_, reported, fun room low left seen => ?_, fun one low out => ?_,
    fun room low busy => ?_, fun idle => ?_⟩
  · show Host.Outcome.next (expirePeriod c s) = _
    rw [expirePeriod_of_due timer now period, trigger_of_busy (.inr (by rw [chanRun_modChan_self]; exact waiting))]
    show _ = Host.Outcome.next (modChan c _ s)
    rw [chanRun_modChan_self, modChan_eq_worked c s, modChan_worked, modChan_worked, modChan_eq_worked]
    dsimp only
    cases pending : (chanRun s c).pendingTrigger with
    | true => rfl
    | false => rfl
  · exact congrArg Host.Outcome.next (expirePeriod_of_due timer now period)
  · have seen : found = { pointer := r.pointer, found := true } := seekPosition_here (fun h => Bool.noConfusion (skip.symm.trans h.1)) 31
    have run := reported one ⟨waiting, low⟩ left (by rw [seen])
    dsimp only at run
    refine ⟨_, run, ?_, fun d hd => ?_, ?_, rfl, rfl, rfl, rfl⟩
    all_goals rw [placed_eq, seen]
    · rfl
    · exact chanRun_worked_ne c s _ _ hd
    · rw [chanRun_worked]
      split
      · exact nofun
      · show (if _ then _ else _ : ChanRun).state ≠ _
        split <;> exact nofun
  · rw [exec_channelGrant, exec_channelGrant, grantSlot_of_lowest low.2, grantTo_of_nothing room low.1 left seen]
    have below : ∀ x, ∀ d : ChanNo, d.val < c.val → (chanRun (setRun x) d).state ≠ .waiting := fun x d hd => by
      rw [show chanRun (setRun x) d = chanRun s d from chanRun_modChan_ne _ _ fun e => by rw [e] at hd; exact Nat.lt_irrefl _ hd]
      exact low.2 d hd
    rw [grantSlot_of_lowest (below _), grantTo_of_not_waiting]
    show (chanRun (modChan c _ s) c).state ≠ _
    rw [chanRun_modChan_self]
    exact nofun
  · have run := grantTo_of_end one low.1 out
    dsimp only at run
    rw [granted _ _ one low run, placed_eq]
    rfl
  · have resumed : { r with state := .running } = jobStarted { r with state := .armed, job := false } := by
      unfold jobStarted
      rw [← busy]
    have taken : trigger c (setRun { r with state := .armed, job := false }) = grantTo s c := by
      refine Eq.trans ?_ (grantTo_of_waiting room low.1).symm
      show trigger c (modChan c _ s) = job c (worked c s [] { r with state := .running })
      rw [modChan_eq_worked, trigger_of_armed (by rw [chanRun_worked]), modChan_worked, resumed]
    have below : ∀ d : ChanNo, d.val < c.val → (chanRun (grantTo s c) d).state ≠ .waiting := fun d hd => by
      have apart : d ≠ c := fun e => by rw [e] at hd; exact Nat.lt_irrefl _ hd
      rw [← taken, trigger_other apart, show chanRun (setRun _) d = chanRun s d from chanRun_modChan_ne _ _ apart]
      exact low.2 d hd
    have settled : grantTo (grantTo s c) c = grantTo s c := by
      by_cases waits : (chanRun (grantTo s c) c).state = .waiting
      · refine grantTo_of_full ?_
        rw [grantTo_of_waiting room low.1] at waits ⊢
        exact job_waits_for_room _ (by rw [chanRun_worked]; exact nofun) waits
      · exact grantTo_of_not_waiting waits
    rw [taken, exec_channelGrant, exec_channelGrant, grantSlot_of_lowest low.2, grantSlot_of_lowest below, settled]
  · refine congrArg Host.Outcome.next (grantSlot_of_not_due fun ⟨room, d, waits⟩ => ?_)
    exact idle.elim (fun full => Nat.not_lt.mpr full room) fun none => none d waits

end Sys2Proof.Machine
end

section
/-! PROOF. The link (R159, R160, R167, R170): heads offered and discarded, frames sent, the slots they free. Settles
O43. -/

namespace Sys2Proof.Machine

open Sys2Proof

/-! ## What a freed slot adds (R156) -/

/-- A frame that a grant has placed now: a REPORT frame not offered, for which nothing waits. -/
def grantedNow (now : Nat) (f : Frame) : Prop :=
  f.cls = .report ∧ f.entry = now ∧ f.offered = none ∧ f.awaited = none

/-- The queue of t is that of s with frames placed at its tail by grants, at one moment. -/
def granted (s t : State) : Prop :=
  t.time = s.time ∧ ∃ extra, t.tx = { s.tx with frames := s.tx.frames ++ extra } ∧ ∀ f ∈ extra, grantedNow s.time f

theorem granted.refl (s : State) : granted s s :=
  ⟨rfl, [], congrArg (fun frames => { s.tx with frames := frames }) (List.append_nil s.tx.frames).symm, fun _ mem =>
    absurd mem List.not_mem_nil⟩

theorem granted.placeReport {s t : State} (h : granted s t) (room : hasRoom t = true) (body : Body) :
    granted s (placeReport body t) := by
  obtain ⟨time, extra, tx, new⟩ := h
  rw [placeReport_eq room]
  refine ⟨time, extra ++ [channelFrame t body], ?_, fun f mem => ?_⟩
  · dsimp only
    rw [tx, List.append_assoc]
  · obtain mem | mem := List.mem_append.mp mem
    · exact new f mem
    · rw [List.mem_singleton.mp mem]
      exact ⟨rfl, time, rfl, rfl⟩

/-- A freed slot adds REPORT frames of its moment at the tail of the queue. -/
theorem slotFreed_granted (race : SlotRace) (s : State) : granted s (slotFreed race s) := by
  cases race with
  | grantFirst =>
    exact grantSlot_induct (P := granted s) (fun _ _ _ h => h) (fun body t room h => h.placeReport room body)
      (granted.refl s)
  | placementFirst => exact granted.refl s

theorem slotFreed_frames (race : SlotRace) (s : State) :
    ∃ extra, (slotFreed race s).tx = { s.tx with frames := s.tx.frames ++ extra } ∧ ∀ f ∈ extra, grantedNow s.time f :=
  (slotFreed_granted race s).2

theorem slotFreed_of_not_waiting {s : State} (h : ∀ c : ChanNo, (chanRun s c).state ≠ .waiting) (race : SlotRace) :
    slotFreed race s = s := by
  cases race with
  | grantFirst => exact grantSlot_of_not_due fun ⟨_, c, waits⟩ => h c waits
  | placementFirst => rfl

/-! ## Stale heads (R159) -/

theorem isStale_iff (s : State) (f : Frame) :
    isStale s f = true ↔ f.cls = .report ∧ s.content.settings.reportLifetime < s.time - f.entry := by
  simp [isStale]

theorem isStale_congr {s t : State} (time : t.time = s.time) (content : t.content = s.content) (f : Frame) :
    isStale t f = isStale s f := by
  unfold isStale
  rw [time, content]

theorem isStale_of_grantedNow {s : State} {f : Frame} (h : grantedNow s.time f) : isStale s f = false := by
  obtain ⟨-, entry, -⟩ := h
  simp [isStale, entry]

/-- The frames of the queue that are stale. -/
def staleCount (s : State) : Nat := (s.tx.frames.filter (isStale s)).length

/-- The queue after a stale head. -/
def discarded (rest : List Frame) (s : State) : State :=
  { s with tx := { s.tx with frames := rest, staleDiscards := countUp s.tx.staleDiscards } }

section Heads

variable {s : State} {f : Frame} {rest : List Frame}

theorem staleCount_discarded (race : SlotRace) (frames : s.tx.frames = f :: rest) (stale : isStale s f = true) :
    staleCount (slotFreed race (discarded rest s)) + 1 = staleCount s := by
  obtain ⟨extra, tx, new⟩ := slotFreed_frames race (discarded rest s)
  have reach := slotFreed_reach race (discarded rest s)
  have same : isStale (slotFreed race (discarded rest s)) = isStale s :=
    funext fun g => (isStale_congr reach.time reach.content g).trans (isStale_congr (s := s) (t := discarded rest s) rfl rfl g)
  have fresh : extra.filter (isStale s) = [] :=
    List.filter_eq_nil_iff.mpr fun g mem => by rw [isStale_of_grantedNow (s := s) (new g mem)]; exact nofun
  unfold staleCount
  rw [same, tx, frames, List.filter_cons_of_pos stale]
  show ((rest ++ extra).filter (isStale s)).length + 1 = _
  rw [List.filter_append, fresh, List.append_nil, List.length_cons]

theorem takeHead_of_stale (race : SlotRace) (n : Nat) (frames : s.tx.frames = f :: rest) (stale : isStale s f = true) :
    takeHead race (n + 1) s = takeHead race n (slotFreed race (discarded rest s)) := by
  rw [takeHead, frames]
  exact if_pos stale

theorem takeHead_of_fresh (race : SlotRace) (n : Nat) (frames : s.tx.frames = f :: rest) (fresh : isStale s f = false) :
    takeHead race (n + 1) s = offerHead f rest s := by
  rw [takeHead, frames]
  exact if_neg (by rw [fresh]; exact nofun)

/-- As many rounds as there are stale frames, and one more, are enough. -/
theorem takeHead_eq_takeHead (race : SlotRace) {n m : Nat} (s : State) (hn : staleCount s < n) (hm : staleCount s < m) :
    takeHead race n s = takeHead race m s := by
  induction n generalizing s m with
  | zero => exact absurd hn (Nat.not_lt_zero _)
  | succ n ih =>
    obtain ⟨m, rfl⟩ : ∃ l, m = l + 1 := ⟨m - 1, by omega⟩
    cases frames : s.tx.frames with
    | nil => rw [takeHead, takeHead, frames]
    | cons f rest =>
      cases stale : isStale s f with
      | true =>
        have less := staleCount_discarded race frames stale
        rw [takeHead_of_stale race n frames stale, takeHead_of_stale race m frames stale]
        exact ih _ (by omega) (by omega)
      | false => rw [takeHead_of_fresh race n frames stale, takeHead_of_fresh race m frames stale]

theorem staleCount_le (s : State) : staleCount s ≤ s.tx.frames.length := List.length_filter_le _ _

theorem queueStep_of_ready (race : SlotRace) (ready : linkReady s = true) :
    queueStep race s = takeHead race (s.tx.frames.length + 1) s := if_pos ready

/-- The link free, a head that is no stale REPORT is offered. -/
theorem queueStep_of_fresh (race : SlotRace) (ready : linkReady s = true) (frames : s.tx.frames = f :: rest)
    (fresh : isStale s f = false) : queueStep race s = offerHead f rest s := by
  rw [queueStep_of_ready race ready, takeHead_of_fresh race _ frames fresh]

theorem linkReady_discarded (race : SlotRace) (on : s.tx.busOff = false) (free : ∀ g ∈ rest, g.offered = none)
    (restart : s.mgmt.restartPending = true → AwaitedIn .restart rest) :
    linkReady (slotFreed race (discarded rest s)) = true := by
  obtain ⟨extra, tx, new⟩ := slotFreed_frames race (discarded rest s)
  rw [linkReady_iff, tx, (slotFreed_reach race (discarded rest s)).mgmt]
  refine ⟨on, fun g mem => ?_, fun pending => ?_⟩
  · obtain mem | mem := List.mem_append.mp mem
    · exact free g mem
    · exact (new g mem).2.2.1
  · obtain ⟨g, mem, awaited⟩ := restart pending
    exact ⟨g, List.mem_append_left _ mem, awaited⟩

/-- A stale head is discarded and counted, its slot freed, and the queue takes its next head. -/
theorem queueStep_of_stale (race : SlotRace) (frames : s.tx.frames = f :: rest) (stale : isStale s f = true)
    (on : s.tx.busOff = false) (free : ∀ g ∈ f :: rest, g.offered = none)
    (restart : s.mgmt.restartPending = true → AwaitedIn .restart rest) :
    queueStep race s = queueStep race (slotFreed race (discarded rest s)) := by
  have ready : linkReady s = true := by
    rw [linkReady_iff, frames]
    refine ⟨on, free, fun pending => ?_⟩
    obtain ⟨g, mem, awaited⟩ := restart pending
    exact ⟨g, List.mem_cons_of_mem _ mem, awaited⟩
  have next := linkReady_discarded race on (fun g mem => free g (List.mem_cons_of_mem _ mem)) restart
  have less := staleCount_discarded race frames stale
  have all := staleCount_le s
  rw [queueStep_of_ready race ready, queueStep_of_ready race next, takeHead_of_stale race _ frames stale]
  exact takeHead_eq_takeHead race _ (by omega) (Nat.lt_succ_of_le (staleCount_le _))

end Heads

/-! ## The number in force, and the start-up of a RESTART (R167, R170) -/

theorem nodeNow_eq (s : State) :
    nodeNow s = match s.mgmt.nodePending with
      | some n => if ∃ f ∈ s.tx.frames, f.awaited = some .node then s.mgmt.nodeInForce else n
      | none => s.mgmt.nodeInForce := by
  cases pending : s.mgmt.nodePending with
  | none => exact nodeNow_of_none pending
  | some n =>
    dsimp only
    by_cases queued : ∃ f ∈ s.tx.frames, f.awaited = some .node
    · rw [if_pos queued]
      exact nodeNow_of_queued (by simpa [replyQueued] using queued)
    · rw [if_neg queued]
      exact nodeNow_of_gone pending (replyQueued_eq_false.mpr fun f mem awaited => queued ⟨f, mem, awaited⟩)

/-- The number in force is seen from the management state and from whether its reply is in the queue. -/
theorem nodeNow_congr {s t : State} (mgmt : t.mgmt = s.mgmt)
    (reply : AwaitedIn .node t.tx.frames ↔ AwaitedIn .node s.tx.frames) : nodeNow t = nodeNow s := by
  rw [nodeNow_eq, nodeNow_eq, mgmt]
  cases s.mgmt.nodePending with
  | none => rfl
  | some n => exact if_congr reply rfl rfl

/-- Whether a frame that is not a REPORT frame waits for the restart, where one pends: no start-up comes of the queue
taking its heads. -/
def restartWaits (s : State) : Prop :=
  s.mgmt.restartPending = true → ∃ g ∈ s.tx.frames, g.cls ≠ .report ∧ g.awaited = some .restart

theorem restartWaits.slotFreed {s : State} (h : restartWaits s) (race : SlotRace) : restartWaits (slotFreed race s) := by
  obtain ⟨extra, tx, -⟩ := slotFreed_frames race s
  intro pending
  rw [(slotFreed_reach race s).mgmt] at pending
  obtain ⟨g, mem, cls, awaited⟩ := h pending
  rw [tx]
  exact ⟨g, List.mem_append_left _ mem, cls, awaited⟩

theorem restartWaits.takeHead (race : SlotRace) (n : Nat) {s : State} (h : restartWaits s) :
    restartWaits (takeHead race n s) := by
  induction n generalizing s with
  | zero => exact h
  | succ n ih =>
    cases frames : s.tx.frames with
    | nil =>
      rw [Machine.takeHead, frames]
      exact h
    | cons f rest =>
      cases stale : isStale s f with
      | true =>
        rw [takeHead_of_stale race n frames stale]
        refine ih (restartWaits.slotFreed (fun pending => ?_) race)
        obtain ⟨g, mem, cls, awaited⟩ := h pending
        rw [frames] at mem
        obtain rfl | mem := List.mem_cons.mp mem
        · exact absurd ((isStale_iff s g).mp stale).1 cls
        · exact ⟨g, mem, cls, awaited⟩
      | false =>
        rw [takeHead_of_fresh race n frames stale]
        intro pending
        obtain ⟨g, mem, cls, awaited⟩ := h pending
        rw [frames] at mem
        obtain rfl | mem := List.mem_cons.mp mem
        · exact ⟨_, List.mem_cons_self, cls, awaited⟩
        · exact ⟨g, List.mem_cons_of_mem _ mem, cls, awaited⟩

theorem restartWaits.startIfDue {s : State} (h : restartWaits s) : startIfDue s = s := by
  refine if_neg ?_
  rw [restartDue_eq_false.mpr fun pending => ?_]
  · exact nofun
  · obtain ⟨g, mem, -, awaited⟩ := h pending
    exact ⟨g, mem, awaited⟩

theorem restartWaits.queueStep {s : State} (h : restartWaits s) (race : SlotRace) : restartWaits (queueStep race s) := by
  unfold Machine.queueStep
  split
  · exact h.takeHead race _
  · exact h

/-- A frame that nothing waits for leaves what the queue waits for. -/
theorem awaitedIn_of_sent {a : Await} {before after : List Frame} {f : Frame} (h : f.awaited ≠ some a) :
    AwaitedIn a (before ++ f :: after) ↔ AwaitedIn a (before ++ after) := by
  unfold AwaitedIn
  simp [h, or_and_right, exists_or]

/-! ## A frame sent (R159) -/

section Sent

variable {s : State} {before after : List Frame} {f : Frame}

theorem sendFrame_eq (race : SlotRace) (frames : s.tx.frames = before ++ f :: after) (offered : f.offered.isSome = true)
    (others : ∀ g ∈ before ++ after, g.offered = none) :
    sendFrame race s = startIfDue (queueStep race (slotFreed race (setFrames (before ++ after) s))) := by
  have holds : linkHolds s = true := List.any_eq_true.mpr ⟨f, by simp [frames], offered⟩
  have left : dropOffered s.tx.frames = before ++ after := by
    rw [frames]
    exact dropOffered_of_sole offered fun g hg => others g (List.mem_append_left _ hg)
  unfold sendFrame frameLeaves
  rw [if_pos holds, left]

theorem restartDue_offerHead (g : Frame) (rest : List Frame) : restartDue (offerHead g rest s) = restartDue (setFrames (g :: rest) s) :=
  rfl

/-- After a sent frame the next head is offered, where no channel waits for the slot and no start-up is due. -/
theorem sendFrame_of_fresh (race : SlotRace) {g : Frame} {rest : List Frame} (frames : s.tx.frames = before ++ f :: after)
    (left : before ++ after = g :: rest) (offered : f.offered.isSome = true) (others : ∀ x ∈ g :: rest, x.offered = none)
    (fresh : isStale s g = false) (on : s.tx.busOff = false)
    (restart : s.mgmt.restartPending = true → AwaitedIn .restart (g :: rest))
    (idle : ∀ c : ChanNo, (chanRun s c).state ≠ .waiting) :
    sendFrame race s = offerHead g rest (setFrames (g :: rest) s) := by
  have ready : linkReady (setFrames (g :: rest) s) = true := (linkReady_iff _).mpr ⟨on, others, restart⟩
  have settled : restartDue (offerHead g rest (setFrames (g :: rest) s)) = false :=
    (restartDue_offerHead g rest).trans (restartDue_eq_false.mpr restart)
  rw [sendFrame_eq race frames offered (by rw [left]; exact others), left, slotFreed_of_not_waiting (s := setFrames (g :: rest) s) idle,
    queueStep_of_fresh race ready (f := g) (rest := rest) rfl fresh]
  exact if_neg (by rw [settled]; exact nofun)

end Sent

/-- Settles O43. -/
theorem linkTakesFrames : Obligations.LinkTakesFrames := by
  intro race s stale offer noWaiting
  have isStale_of : ∀ f, stale f → isStale s f = true := fun f => (isStale_iff s f).mpr
  have notStale_of : ∀ f, ¬stale f → isStale s f = false := fun f h => Bool.eq_false_iff.mpr (mt (isStale_iff s f).mp h)
  refine ⟨fun f rest frames fresh on free restart => ?_, fun f g rest frames old awaits fresh on free restart idle => ?_,
    fun f frames offered idle calm => ?_, fun f frames offered pending => ?_,
    fun before f after g rest frames left offered free awaits fresh on restart idle => ?_, rfl,
    fun f rest frames fresh off free restart => ?_, fun off => ?_, fun before f after frames offered others waits => ?_,
    fun f rest frames old on free waits => ?_,
    fun n before f after g rest pending calm frames left offered awaits others fresh on idle => ?_, nodeNow_eq s,
    fun cls n low => ?_⟩
  · have ready : linkReady s = true := (linkReady_iff s).mpr ⟨on, free, restartDue_eq_false.mp restart⟩
    exact congrArg Host.Outcome.next (queueStep_of_fresh race ready frames (notStale_of f fresh))
  · have waits : s.mgmt.restartPending = true → AwaitedIn .restart (g :: rest) := fun pending =>
      (awaitedIn_of_sent (before := []) (by rw [awaits]; exact nofun)).mp (frames ▸ restartDue_eq_false.mp restart pending)
    have free' : ∀ x ∈ f :: g :: rest, x.offered = none := frames ▸ free
    have ready := linkReady_discarded race on (fun x mem => free' x (List.mem_cons_of_mem _ mem)) waits
    have rests := slotFreed_of_not_waiting (s := discarded (g :: rest) s) idle race
    have node : nodeNow (discarded (g :: rest) s) = nodeNow s := nodeNow_congr rfl (by
      rw [frames]
      exact (awaitedIn_of_sent (before := []) (by rw [awaits]; exact nofun)).symm)
    rw [rests] at ready
    refine congrArg Host.Outcome.next ((queueStep_of_stale race frames (isStale_of f old) on free' waits).trans ?_)
    rw [rests, queueStep_of_fresh race ready (f := g) (rest := rest) rfl (notStale_of g fresh), offerHead, node]
    rfl
  · have settled : restartDue (setFrames [] s) = false :=
      restartDue_eq_false.mpr fun pending => by rw [show s.mgmt.restartPending = true from pending] at calm; cases calm
    refine congrArg Host.Outcome.next ((sendFrame_eq race (before := []) (after := []) frames offered
      fun g mem => absurd mem List.not_mem_nil).trans ?_)
    rw [slotFreed_of_not_waiting (s := setFrames ([] ++ []) s) idle, queueStep_of_empty (s := setFrames ([] ++ []) s) rfl]
    exact if_neg (by rw [show restartDue (setFrames ([] ++ []) s) = false from settled]; exact nofun)
  · exact congrArg Host.Outcome.next (sendFrame_of_last_reply (before := []) (after := []) pending frames offered
      fun g mem => absurd mem List.not_mem_nil)
  · have waits : s.mgmt.restartPending = true → AwaitedIn .restart (g :: rest) := fun pending => by
      have queued := restartDue_eq_false.mp restart pending
      rw [frames, awaitedIn_of_sent (by rw [awaits]; exact nofun), left] at queued
      exact queued
    have node : nodeNow (setFrames (g :: rest) s) = nodeNow s := nodeNow_congr rfl (by
      rw [frames, awaitedIn_of_sent (by rw [awaits]; exact nofun), left]
      rfl)
    refine congrArg Host.Outcome.next ((sendFrame_of_fresh race frames left offered free (notStale_of g fresh) on waits idle).trans ?_)
    rw [offerHead, node]
    rfl
  · have ready : linkReady { s with tx := { s.tx with busOff := false } } = true :=
      (linkReady_iff _).mpr ⟨rfl, free, restartDue_eq_false.mp restart⟩
    have node : nodeNow { s with tx := { s.tx with busOff := false } } = nodeNow s := nodeNow_congr rfl Iff.rfl
    refine congrArg Host.Outcome.next ((if_pos off).trans
      ((queueStep_of_fresh race ready (f := f) (rest := rest) frames (notStale_of f fresh)).trans ?_))
    rw [offerHead, node]
    rfl
  · exact congrArg Host.Outcome.next (if_pos off)
  · intro left
    have stays : restartWaits left := waits
    have sent : ∀ race, sendFrame race s = queueStep race (slotFreed race left) := fun race =>
      (sendFrame_eq race frames offered others).trans ((stays.slotFreed race).queueStep race).startIfDue
    refine ⟨congrArg Host.Outcome.next (sent .placementFirst), fun u grant => ?_⟩
    rw [← Host.Outcome.next.inj grant]
    exact congrArg Host.Outcome.next (sent .grantFirst)
  · intro left
    have taken : ∀ race, queueStep race s = queueStep race (slotFreed race left) := fun race =>
      queueStep_of_stale race frames (isStale_of f old) on free waits
    refine ⟨congrArg Host.Outcome.next (taken .placementFirst), fun u grant => ?_⟩
    rw [← Host.Outcome.next.inj grant]
    exact congrArg Host.Outcome.next (taken .grantFirst)
  · have node : nodeNow (setFrames (g :: rest) s) = n :=
      nodeNow_of_gone pending (replyQueued_eq_false.mpr fun x mem => (others x mem).2)
    refine congrArg Host.Outcome.next ((sendFrame_of_fresh race frames left offered (fun x mem => (others x mem).1)
      (notStale_of g fresh) on (fun waits => by rw [calm] at waits; cases waits) idle).trans ?_)
    rw [offerHead, node]
    rfl
  · cases cls
    all_goals exact (BitVec.toNat_ofNat _ _).trans (Nat.mod_eq_of_lt (by omega))

end Sys2Proof.Machine
end

section
/-! PROOF. Frames as bits, and the decoder on what the encoder makes (12.2, 12.3, 12.5.1). Settles O51. -/

namespace Sys2Proof.Machine

open Sys2Proof

/-! ## Bytes and bits (section 2.7) -/

theorem length_frameBytes (n : Nat) (d : BitVec 64) : (frameBytes n d).length = n := by
  induction n generalizing d with
  | zero => rfl
  | succ n ih => rw [frameBytes, List.length_cons, ih]

theorem low_or_high (d : BitVec 64) : (d.setWidth 8).setWidth 64 ||| ((d >>> 8) <<< 8) = d := by
  ext i hi
  simp only [BitVec.getElem_or, BitVec.getElem_setWidth, BitVec.getLsbD_setWidth, BitVec.getElem_shiftLeft]
  by_cases low : i < 8
  · simp [low, BitVec.getLsbD_eq_getElem hi]
  · have above : 8 + (i - 8) = i := by omega
    simp [low, above, BitVec.getLsbD_eq_getElem hi]

/-- The bytes of bits that hold nothing beyond them give the bits back. -/
theorem frameBits_frameBytes {n m : Nat} (h : n ≤ m) {d : BitVec 64} (small : d.toNat < 2 ^ (8 * n)) :
    frameBits (frameBytes n d) m = d := by
  induction n generalizing m d with
  | zero =>
    have zero : d = 0 := BitVec.eq_of_toNat_eq (by simpa using small)
    cases m <;> exact zero.symm
  | succ n ih =>
    obtain ⟨m, rfl⟩ : ∃ l, m = l + 1 := ⟨m - 1, by omega⟩
    have rest : (d >>> 8).toNat < 2 ^ (8 * n) := by
      rw [BitVec.toNat_ushiftRight, Nat.shiftRight_eq_div_pow]
      refine Nat.div_lt_of_lt_mul ?_
      rwa [← Nat.pow_add, Nat.add_comm, ← Nat.mul_succ]
    rw [frameBytes, frameBits, ih (Nat.le_of_succ_le_succ h) rest, low_or_high]

/-! ## Fields of appended bits -/

section Fields

variable {m n : Nat} (x : BitVec m) (y : BitVec n)

theorem getLsbD_append_low {i : Nat} (h : i < n) (fits : n ≤ 64) : ((x ++ y).setWidth 64).getLsbD i = y.getLsbD i := by
  simp [BitVec.getLsbD_append, h, Nat.lt_of_lt_of_le h fits]

theorem getLsbD_append_high {i : Nat} (h : n ≤ i) (fits : i < 64) :
    ((x ++ y).setWidth 64).getLsbD i = (x.setWidth 64).getLsbD (i - n) := by
  have low : i - n < 64 := by omega
  simp [BitVec.getLsbD_append, Nat.not_lt.mpr h, fits, low]

/-- The field of the lowest bits. -/
theorem field_append_low (fits : n ≤ 64) : field ((x ++ y).setWidth 64) 0 n = y := by
  ext i hi
  rw [field, BitVec.getElem_extractLsb', Nat.zero_add, getLsbD_append_low x y hi fits, BitVec.getLsbD_eq_getElem hi]

/-- A field above the lowest bits. -/
theorem field_append_high {start width : Nat} (h : n ≤ start) (fits : start + width ≤ 64) :
    field ((x ++ y).setWidth 64) start width = field (x.setWidth 64) (start - n) width := by
  ext i hi
  rw [field, field, BitVec.getElem_extractLsb', BitVec.getElem_extractLsb',
    getLsbD_append_high x y (by omega) (by omega), show start + i - n = start - n + i by omega]

theorem field_all (fits : m ≤ 64) : field (x.setWidth 64) 0 m = x := by
  ext i hi
  rw [field, BitVec.getElem_extractLsb', Nat.zero_add, BitVec.getLsbD_setWidth, BitVec.getLsbD_eq_getElem hi,
    decide_eq_true (Nat.lt_of_lt_of_le hi fits), Bool.true_and]

theorem flag_append_high {start : Nat} (h : n ≤ start) (fits : start < 64) :
    flag ((x ++ y).setWidth 64) start = flag (x.setWidth 64) (start - n) := getLsbD_append_high x y h fits

theorem flag_append_low (b : Bool) : flag ((x ++ BitVec.ofBool b).setWidth 64) 0 = b := by
  rw [flag, getLsbD_append_low x _ Nat.one_pos (by decide)]
  cases b <;> rfl

theorem flag_all (b : Bool) : flag ((BitVec.ofBool b).setWidth 64) 0 = b := by cases b <;> rfl

end Fields

/-! ## The frame of an image (12.2) -/

/-- What the part reads of the frame of an image. -/
def decodeImage (m : CanImage) : Instr :=
  match m.target with
  | .vehicle =>
    .vehicleCondition m.len (field m.bits 0 8) (field m.bits 8 8) (field m.bits 16 16) (field m.bits 32 8)
      (field m.bits 40 8)
  | .ack => .ack m.len (field m.bits 0 8) (field m.bits 8 8)
  | .request => decodeRequest m.len m.bits

theorem targetIdent_lt {node : Nat} (h : node ≤ 15) (t : CanTarget) : targetIdent node t < 2048 := by
  cases t <;> simp only [targetIdent, vehicleIdent, ackIdent, requestIdent] <;> omega

theorem imageOk_iff (m : CanImage) :
    imageOk m = true ↔ m.len ≤ 8 ∧ m.bits.toNat < 2 ^ (8 * m.len) ∧ (m.target = .request → 1 ≤ m.len) := by
  unfold imageOk
  cases m.target <;> simp [and_assoc]

section Frame

variable {node : Nat} {m : CanImage} (low : node ≤ 15) (ok : imageOk m = true)

include low

theorem frameOf_ident : (frameOf node m).ident.toNat = targetIdent node m.target := by
  have small := targetIdent_lt low m.target
  exact (BitVec.toNat_ofNat _ _).trans (Nat.mod_eq_of_lt (by omega))

include ok

theorem frameOk_frameOf : frameOk (frameOf node m) = true := by
  obtain ⟨len, -, -⟩ := (imageOk_iff m).mp ok
  have small := targetIdent_lt low m.target
  have length : (frameOf node m).data.length = m.len := length_frameBytes _ _
  unfold frameOk
  rw [length, frameOf_ident low, decide_eq_true len, decide_eq_true small, Bool.or_true, Bool.and_true]

theorem decodeCan_frameOf : decodeCan node (frameOf node m) = decodeImage m := by
  obtain ⟨len, small, kind⟩ := (imageOk_iff m).mp ok
  have bits : frameBits (frameOf node m).data 8 = m.bits := frameBits_frameBytes len small
  have length : (frameOf node m).data.length = m.len := length_frameBytes _ _
  unfold decodeCan decodeImage
  dsimp only
  rw [bits, length, frameOf_ident low, if_neg nofun]
  cases target : m.target with
  | vehicle => exact if_pos rfl
  | ack =>
    have other : targetIdent node .ack ≠ vehicleIdent := by simp only [targetIdent, ackIdent, vehicleIdent]; omega
    rw [if_neg other]
    exact if_pos rfl
  | request =>
    have other : targetIdent node .request ≠ vehicleIdent := by simp only [targetIdent, requestIdent, vehicleIdent]; omega
    have others : targetIdent node .request ≠ ackIdent node := by simp only [targetIdent, requestIdent, ackIdent]; omega
    have some_ := kind target
    rw [if_neg other, if_neg others]
    exact if_pos ⟨rfl, by omega⟩

end Frame

/-! ## Decoding an image (12.3, 12.5.1) -/

theorem decodeRequest_unserved (len : Nat) {d : BitVec 64} {kind : Byte} (at_ : field d 0 8 = kind)
    (unserved : kind = 0 ∨ 0x1A < kind.toNat) : decodeRequest len d = .unknownRequest kind := by
  have none : kind.toNat = 0 ∨ 0x1A < kind.toNat := unserved.imp_left (congrArg BitVec.toNat)
  rw [← at_] at none ⊢
  unfold decodeRequest
  split
  case h_27 => rfl
  all_goals omega

/-- A kind that names no request, and the kind of WRITE SETTING with a code that names no setting (log 14). -/
theorem decodeImage_unknownRequest {kind : Byte} {m : CanImage} (h : canImage (.unknownRequest kind) = some m)
    (wf : (Instr.unknownRequest kind).wf = true) : decodeImage m = .unknownRequest kind := by
  by_cases setting : kind = 0x14
  · subst setting
    cases h
    rfl
  · have image : requestImage kind 1 0#0 = m := Option.some.inj ((if_neg setting).symm.trans h)
    have unserved : kind = 0 ∨ 0x1A < kind.toNat := by
      have kept : kindUnserved kind = true := ((Bool.and_eq_true _ _).mp wf).2
      simp only [kindUnserved, Bool.or_eq_true, beq_iff_eq, decide_eq_true_eq] at kept
      exact kept.resolve_right setting
    subst image
    exact decodeRequest_unserved 1 (field_append_low 0#0 kind (by decide)) unserved

/-- Every field of an image is where the decoder looks for it. -/
theorem decodeImage_canImage {i : Instr} {m : CanImage} (h : canImage i = some m) (wf : i.wf = true) :
    decodeImage m = i := by
  cases i
  case unknownRequest kind => exact decodeImage_unknownRequest h wf
  case readSettings | clearDiagnostics | readCounters | status | store | restart =>
    cases h
    rfl
  case vehicleCondition | ack =>
    cases h
    simp (disch := decide) only [decodeImage, field_append_low, field_append_high, field_all, Nat.reduceSub, -Nat.reduceAdd]
  case writeSettingTref | writeSettingSilenceTimeout | writeSettingRepeatPeriod | writeSettingIntervalLength |
      writeSettingReportLifetime | writeSettingWalkWindow | writeSettingNodeNumber | writeSettingProtectLevel =>
    cases h
    simp (disch := decide) only [decodeImage, settingImage, requestImage, decodeRequest, decodeSetting, field_append_low,
      field_append_high, field_all, Nat.reduceSub, BitVec.ofNat_eq_ofNat, BitVec.reduceToNat, -Nat.reduceAdd]
  case writeSensorEntry | clearSensorEntry | readSensorEntry | writePosition | writeAxle | readPosition | clearPosition |
      readHistory | writeProfileA | writeProfileB | openWalk | endWalk | walkStatus | configureChannelA |
      configureChannelB | startChannel | stopChannel | triggerChannel | channelStatus =>
    cases h
    simp (disch := decide) only [decodeImage, requestImage, decodeRequest, field_append_low, field_append_high, field_all,
      flag_append_high, flag_append_low, flag_all, Nat.reduceSub, BitVec.ofNat_eq_ofNat, BitVec.reduceToNat, -Nat.reduceAdd]
  all_goals nomatch h

theorem imageOk_of_wf {i : Instr} {m : CanImage} (h : canImage i = some m) (wf : i.wf = true) : imageOk m = true := by
  unfold Instr.wf at wf
  rw [h] at wf
  exact ((Bool.and_eq_true _ _).mp wf).1

theorem decodeCan_encodeCan {node : Nat} {i : Instr} {f : CanFrame} (low : node ≤ 15) (wf : i.wf = true)
    (h : encodeCan node i = some f) : decodeCan node f = i ∧ frameOk f = true := by
  obtain ⟨m, image, rfl⟩ := Option.map_eq_some_iff.mp h
  have ok := imageOk_of_wf image wf
  exact ⟨(decodeCan_frameOf low ok).trans (decodeImage_canImage image wf), frameOk_frameOf low ok⟩

/-- Settles O51: every field of the image of a command is where the decoder looks for it, and the bits of an image that
fits its length come back from the frame's bytes. -/
theorem canFramesRoundTrip : Obligations.CanFramesRoundTrip := by
  unfold Obligations.CanFramesRoundTrip
  refine ⟨fun node i f low wf h => decodeCan_encodeCan low wf h, fun f s => ?_⟩
  have now := nodeNow_eq s
  exact congrArg (fun n => { s with pending := s.pending ++ [decodeCan n f] }) now

end Sys2Proof.Machine
end
